-- ==== Sys2Proof/Word.lean ====
section
/-! DEFINITION. The word types of the T96 and the shape of its sparse tables. -/

namespace Sys2Proof

/-- A byte: the smallest addressable unit of every memory of the T96. -/
abbrev Byte := BitVec 8
abbrev W16 := BitVec 16
abbrev W32 := BitVec 32
abbrev W64 := BitVec 64
/-- A vector register: 64 lanes of 32 bits, 128 of 16 or 256 of 8 (Table 04.3). -/
abbrev VReg := BitVec 2048

/-- A sparse table: key and value pairs, keys strictly rising, no entry equal to what an unlisted key reads as. -/
abbrev Tab (α : Type) := List (Nat × α)

/-- An exact value between operations (R34, R41): NaN, an infinity, or the dyadic number ±m × 2^e, zero keeping its
sign. -/
inductive Num where
  | nan
  | inf (neg : Bool)
  | fin (neg : Bool) (m : Nat) (e : Int)
deriving DecidableEq, Repr

abbrev CoreId := Fin 96
abbrev ThreadId := Fin 16
abbrev ClusterId := Fin 8
abbrev ColId := Fin 96
abbrev TierId := Fin 4
/-- A bank of a tier-column: 0 to 15, and 16 for the spare (R127). -/
abbrev BankId := Fin 17
abbrev StackId := Fin 8
abbrev LinkId := Fin 64
/-- A stream engine of a core, or a pass engine of the device. -/
abbrev EngId := Fin 8
abbrev SetId := Fin 8
abbrev QueueId := Fin 256
abbrev SlotId := Fin 4096
/-- A control core: 0 to 3 for C0 to C3, 4 for the bench. -/
abbrev CtlId := Fin 5

end Sys2Proof
end

