-- ==== Sys2Proof/Syntax.lean ====
section
/-! DEFINITION. The commands of the T96: the one inductive Instr, a constructor per row of the opcode table, and the
records its operands are made of. A core's instruction carries the fields of its format (Table 04.8, Table 04.9); the
opcode is the constructor. A dictionary command carries its frame (Table 12.1). A packet carries its header fields. -/

namespace Sys2Proof

/-- Format A of Table 04.9 with the common header of Table 04.8: `fn` bits [15:13] are the lane type. -/
structure FmtA where
  pg : BitVec 3 := 0
  pn : Bool := false
  d : BitVec 5 := 0
  a : BitVec 5 := 0
  b : BitVec 5 := 0
  c : BitVec 5 := 0
  fn : BitVec 16 := 0
  res : BitVec 16 := 0
deriving DecidableEq, Repr

/-- Format I of Table 04.9. -/
structure FmtI where
  pg : BitVec 3 := 0
  pn : Bool := false
  d : BitVec 5 := 0
  a : BitVec 5 := 0
  fn : BitVec 10 := 0
  imm : BitVec 32 := 0
deriving DecidableEq, Repr

/-- Format M of Table 04.9; `res` holds bits [26:24] above bits [11:0]. -/
structure FmtM where
  pg : BitVec 3 := 0
  pn : Bool := false
  set : BitVec 3 := 0
  wt : BitVec 2 := 0
  a : BitVec 5 := 0
  x : BitVec 5 := 0
  fa : BitVec 5 := 0
  ow : Bool := false
  pa : Bool := false
  tr : Bool := false
  h : Bool := false
  sd : Bool := false
  aoff : BitVec 12 := 0
  res : BitVec 15 := 0
deriving DecidableEq, Repr

/-- Format W of Table 04.9. -/
structure FmtW where
  pg : BitVec 3 := 0
  pn : Bool := false
  wt : BitVec 2 := 0
  pr : Bool := false
  a : BitVec 5 := 0
  x : BitVec 5 := 0
  fw : BitVec 5 := 0
  woff : BitVec 12 := 0
  res : BitVec 22 := 0
deriving DecidableEq, Repr

/-- Format Q of Table 04.9. -/
structure FmtQ where
  pg : BitVec 3 := 0
  pn : Bool := false
  set : BitVec 3 := 0
  a : BitVec 5 := 0
  n : BitVec 9 := 0
  m : BitVec 6 := 0
  off : BitVec 12 := 0
  res : BitVec 17 := 0
deriving DecidableEq, Repr

/-- Bytes of one 64 B HBM sector that a read finds wrong: the sector's number (address div 64) and, per wrong byte, its
place (0–63 data, 64–67 check bytes) and the bits that differ (R170). -/
structure BadBytes where
  sector : Nat := 0
  wrong : List (Nat × Byte) := []
deriving DecidableEq, Repr

/-- The header and fields of an instruction word whose opcode the row NOP stands for: 0x00, or one that the table does not list. -/
structure FmtN extends FmtA where
  op : BitVec 8 := 0
deriving DecidableEq, Repr

/-! What an operation meets when it runs, beside what the spec's row names: the errors of the arrays that it reads. `errs` are the words
of scratchpad found wrong and whether each can be corrected (R99), `deck` what a deck access finds (R141), `bad` the wrong bytes of HBM
(R170) and `parity` the unit of the array with an error (R78). -/

/-- What a matrix instruction meets at its end (R72, R78, R99). -/
structure RunErrs where
  parity : Option Nat := none
  errs : List (Nat × Bool) := []
deriving DecidableEq, Repr

/-- The set whose side sum runs, and what it meets (R84, R99). -/
structure SideRun where
  set : SetId := 0
  errs : List (Nat × Bool) := []
deriving DecidableEq, Repr

/-- What a read descriptor meets; `peer` are the bytes that another device's homes give (R110). -/
structure StreamIn where
  peer : List Byte := []
  deck : Option Bool := none
  bad : List BadBytes := []
deriving DecidableEq, Repr

/-- What a descriptor that reads scratchpad meets (R110, R111). -/
structure SpIn where
  errs : List (Nat × Bool) := []
  deck : Option Bool := none
  bad : List BadBytes := []
deriving DecidableEq, Repr

/-- A core's request that reaches its home. -/
structure HomeIn where
  id : Nat := 0
  deck : Option Bool := none
deriving DecidableEq, Repr

/-- A core's request whose table walk ends, and whether a table line could not be read (R168, R170). -/
structure WalkIn where
  id : Nat := 0
  bad : Bool := false
deriving DecidableEq, Repr

/-- A queue's descriptor that asks for an off-load. -/
structure OffHint where
  n : Nat := 0
  bad : List BadBytes := []
deriving DecidableEq, Repr

/-- An allocation that waits for frames: a queue's descriptor, or a peer's KEEP by its sender and tag (R180, R181). -/
inductive AllocWait where
  | own (n : Nat)
  | peer (src tag : Nat)
deriving DecidableEq, Repr

/-- The host slots that an off-load takes (R186). -/
structure OffIn where
  slots : List Nat := []
  bad : List BadBytes := []
deriving DecidableEq, Repr

/-- A block of a page that a migration has read (R191). -/
structure CopyIn where
  page : Nat := 0
  block : Nat := 0
  bad : List BadBytes := []
  deck : List (Nat × Bool) := []
deriving DecidableEq, Repr

/-- The sizes and errors of a host read of BAR2. -/
structure BarRead where
  n : Nat := 1
  deck : List (Nat × Bool) := []
  bad : List BadBytes := []
deriving DecidableEq, Repr

/-- A host write of BAR2: whether its data are marked poisoned, and what the device meets. -/
structure BarWrite where
  ep : Bool := false
  deck : List (Nat × Bool) := []
  bad : List BadBytes := []
deriving DecidableEq, Repr

/-- Which of the two small Flash records a loss of power or reset cuts while it is written. -/
structure FlashCut where
  boot : Bool := false
  owner : Bool := false
deriving DecidableEq, Repr

/-- What a held reset leaves: the torn lines (R161) and the Flash records cut. -/
structure ResetIn where
  torn : List Nat := []
  cut : FlashCut := {}
deriving DecidableEq, Repr

/-- What the device's own reads of a block on another device give: the bytes, and whether every RDR said sealed (Table 10.4). -/
structure PeerRead where
  data : List Byte := []
  sealed : Bool := false
deriving DecidableEq, Repr

/-- A pass packet: the header of Table 08.5 (its type is the command) and its payload; the link and the lane that it came by. -/
structure PassPkt where
  gen : Nat := 0
  epoch : Nat := 0
  step : Nat := 0
  layer : Nat := 0
  chunk : Nat := 0
  idx : Nat := 0
  member : Nat := 0
  dev : Nat := 0
  fmt : Nat := 0
  flags : Nat := 0
  league : Nat := 0
  seq : Nat := 0
  payload : List Byte := []
  link : Nat := 0
  lane : Nat := 0
deriving DecidableEq, Repr

/-- A contribution: the type number of its packet (Table 08.5; one of an unlisted type is discarded, R248) and the packet. -/
structure ContribIn where
  kind : Nat := 1
  p : PassPkt := {}
deriving DecidableEq, Repr

/-- The totals of one part of a layer (R278), sums as P2 pairs (lo above hi). -/
structure PartStats where
  layer : Nat := 0
  part : Nat := 0
  gg : W64 := 0
  nonfinite : Nat := 0
  ww : W64 := 0
  dd : W64 := 0
  chmax : List W32 := []
  colsum : List W64 := []
  rowsum : W64 := 0
deriving DecidableEq, Repr

/-- A routed packet: the header of Table 10.4 (its type is the command, or `type` where the command takes any) and its
payload. -/
structure Pkt where
  type : Nat := 0
  vc : Nat := 0
  hops : Nat := 0
  dst : Nat := 0
  src : Nat := 0
  tag : Nat := 0
  attr : W16 := 0
  league : Nat := 0
  addr : W64 := 0
  ctx : Nat := 0
  epoch : Nat := 0
  status : Nat := 0
  fstep : Nat := 0
  payload : List Byte := []
deriving DecidableEq, Repr

/-- A routed request that reaches its home, and what serving it meets. -/
structure ReqIn where
  p : Pkt := {}
  deck : Option Bool := none
  bad : List BadBytes := []
deriving DecidableEq, Repr

/-- A HELLO payload (Table 10.2). -/
structure Hello where
  gens : Nat := 6
  fabric : Nat := 2
  passmc : Nat := 0
  determ : Nat := 2
  role : Nat := 0
  link : Nat := 0
  rank : Nat := 0
  lanes : Nat := 2
  devid : Nat := 0xFFFF
  stepping : Nat := 0xA1
  maxgen : Nat := 2
  serial : List Byte := []
deriving DecidableEq, Repr

/-- The path by which a dictionary frame reaches its first T96, with the source that a session is bound to. -/
inductive Path where
  | mailbox
  | port (addr udp : Nat)
  | relayDev (dev : Nat)
  | relayLink (l : Nat)
deriving DecidableEq, Repr

/-- A frame header of profile 3 (Table 12.1), the path it came by and the bytes received. -/
structure FrameHdr where
  path : Path := .mailbox
  rx : Nat := 0
  proto : Nat := 3
  kind : Nat := 1
  ctl : Nat := 0
  nops : Nat := 0
  session : Nat := 0
  seq : Nat := 0
  len : Nat := 0
  rmax : Nat := 0
  route : Nat := 0xFFFF
  res : Nat := 0
deriving DecidableEq, Repr

/-- An operation of a frame: its header (Table 12.2) and its data, unpadded. -/
structure DictOp where
  op : Nat := 0
  status : Nat := 0
  sub : Nat := 0
  res : Nat := 0
  idx : Nat := 0
  data : List Byte := []
deriving DecidableEq, Repr

/-- The fields of an operation whose op code the command names. -/
structure OpArgs where
  idx : Nat := 0
  sub : Nat := 0
  status : Nat := 0
  res : Nat := 0
  data : List Byte := []
deriving DecidableEq, Repr

/-- The books that a failed check rebuilds in SERVICE (R144, R193, R227, R265). -/
inductive Rebuild where
  | mshr (col : Nat)
  | frames (pool : Nat)
  | sched
  | pass (engine : Nat)
deriving DecidableEq, Repr

/-- The commands: one constructor per row of the opcode table. Each docstring is the row's rule and its effect. -/
inductive Instr where
  /-- R17: A write of 1010:01 stores the host time mark and copies the control-complex cycle count into 1010:02. -/
  | hostTimeMarkWrite (sess v : Nat)
  /-- R21: Each control core and the bench advance their heartbeat counter at least once every 120,000 control cycles. -/
  | heartbeat (k : CtlId)
  /-- R21: A control core's heartbeat has not advanced for 1 ms, and the lowest live watching core logs a severity-6 event and acts. -/
  | controlCoreSilent (k : CtlId)
  /-- R59: A write to 2600:04 clears one statistics slot, or all slots, on every core between drains and re-arms event 0x2602. -/
  | clearSlotWrite (sess v : Nat)
  /-- R60: The matrix instruction issues, checking its operands, and feeds one group of products to every DPU. -/
  | iMma (c : CoreId) (t : ThreadId) (f : FmtM) (errs : List (Nat × Bool))
  /-- R70: The split-pair instruction issues and runs three product passes over S2 operands with pair accumulation. -/
  | iMmaS2 (c : CoreId) (t : ThreadId) (f : FmtM) (errs : List (Nat × Bool))
  /-- R67: A matrix instruction's group sum is rounded once and written into its accumulator set. -/
  | mmaComplete (c : CoreId) (x : RunErrs)
  /-- R65: A weight load fills one weight register or an even-odd pair from a scratchpad tile. -/
  | iWtld (c : CoreId) (t : ThreadId) (f : FmtW) (errs : List (Nat × Bool))
  /-- R118: A drain issues, reads and checks its parameter block, tables and wide-channel list, and enters the array-side queue. -/
  | iDrain (c : CoreId) (t : ThreadId) (f : FmtQ) (errs : List (Nat × Bool))
  /-- R41: Once its set is ready and the drain unit is free, the drain converts the tile and writes elements, scales and side array. -/
  | drainExecute (c : CoreId) (parity : Option Nat) (errs : List (Nat × Bool))
  /-- R72: An explicit spill instruction issues for a set and enters the array-side queue. -/
  | iSpill (c : CoreId) (t : ThreadId) (f : FmtQ)
  /-- R71: A spill folds the set into its P2 spill slot by exact two-sum and empties the set. -/
  | spillExecute (c : CoreId) (parity : Option Nat) (errs : List (Nat × Bool))
  /-- R74: The matrix configuration word is written from a scalar register, subject to its rejection conditions. -/
  | iMcfg (c : CoreId) (t : ThreadId) (f : FmtA)
  /-- R84: The vector unit finishes the outlier side sums of a set, releasing a waiting side-merge drain. -/
  | sideSumComplete (c : CoreId) (x : SideRun)
  /-- R80: tk.init empties every top-k list, sets k and rows, and zeroes the NaN counts. -/
  | iTkInit (c : CoreId) (t : ThreadId) (f : FmtQ)
  /-- R80: tk.ins offers a set's rounded values as candidates with positions base + j to the top-k lists. -/
  | iTkIns (c : CoreId) (t : ThreadId) (f : FmtQ) (parity : Option Nat)
  /-- R80: tk.mrg issues, checking the block alignment, and holds later stores of its thread to the block. -/
  | iTkMrg (c : CoreId) (t : ThreadId) (f : FmtQ)
  /-- R80: tk.mrg reads its partial-list block, checks the row counts and merges the entries and NaN counts. -/
  | tkMrgExecute (c : CoreId) (parity : Option Nat) (errs : List (Nat × Bool))
  /-- R80: tk.out writes the current top-k lists to scratchpad in rank order. -/
  | iTkOut (c : CoreId) (t : ThreadId) (f : FmtQ) (parity : Option Nat)
  /-- R116: arr.claim grants the array at once if free, or parks the thread in claim order. -/
  | iArrClaim (c : CoreId) (t : ThreadId) (f : FmtA)
  /-- R116: A released claim passes to the longest-waiting claimant, which finds the array in its reset state. -/
  | claimGrant (c : CoreId)
  /-- R77: arr.rel releases the claim once every earlier array instruction has completed. -/
  | iArrRel (c : CoreId) (t : ThreadId) (f : FmtA)
  /-- R117: arr.sync stalls the thread until all earlier array instructions and their scratchpad writes are complete. -/
  | iArrSync (c : CoreId) (t : ThreadId) (f : FmtA)
  /-- R120: sdl loads a wide-channel list and 32 rows of BF16 side values into the outlier slice. -/
  | iSdl (c : CoreId) (t : ThreadId) (f : FmtA) (errs : List (Nat × Bool))
  /-- R122: nop does nothing. -/
  | iNop (c : CoreId) (t : ThreadId) (f : FmtN)
  /-- R92: end begins ending the thread, waiting for its far stores and stream descriptors. -/
  | iEnd (c : CoreId) (t : ThreadId) (f : FmtA)
  /-- R92: Once its stores and descriptors are done, the ending thread releases its claim and enters FREE. -/
  | endComplete (c : CoreId) (t : ThreadId)
  /-- R88: yield moves the thread from RUN to READY. -/
  | iYield (c : CoreId) (t : ThreadId) (f : FmtA)
  /-- R124: fence waits until earlier scratchpad stores are visible or earlier far requests are complete, as fn selects. -/
  | iFence (c : CoreId) (t : ThreadId) (f : FmtA)
  /-- R95: csrr reads a control and status register into a scalar register. -/
  | iCsrr (c : CoreId) (t : ThreadId) (f : FmtI)
  /-- R95: csrw writes a scalar register into an RW control and status register. -/
  | iCsrw (c : CoreId) (t : ThreadId) (f : FmtI)
  /-- R476: wtw compares a scratchpad or far word with a register and parks the thread while the condition is false. -/
  | iWtw (c : CoreId) (t : ThreadId) (f : FmtI) (errs : List (Nat × Bool))
  /-- R476: A parked far wtw re-reads its word no later than 256 cycles after the previous read returned. -/
  | wtwReread (c : CoreId) (t : ThreadId)
  /-- R122: add writes the wrapping sum of two scalar registers. -/
  | iAdd (c : CoreId) (t : ThreadId) (f : FmtA)
  /-- R122: sub writes the wrapping difference of two scalar registers. -/
  | iSub (c : CoreId) (t : ThreadId) (f : FmtA)
  /-- R122: mul writes the low 64 bits of the product. -/
  | iMul (c : CoreId) (t : ThreadId) (f : FmtA)
  /-- R122: mulh writes the signed upper 64 bits of the product. -/
  | iMulh (c : CoreId) (t : ThreadId) (f : FmtA)
  /-- R122: and writes the bitwise and of two scalar registers. -/
  | iAnd (c : CoreId) (t : ThreadId) (f : FmtA)
  /-- R122: or writes the bitwise or of two scalar registers. -/
  | iOr (c : CoreId) (t : ThreadId) (f : FmtA)
  /-- R122: xor writes the bitwise xor of two scalar registers. -/
  | iXor (c : CoreId) (t : ThreadId) (f : FmtA)
  /-- R122: shl shifts left by s[b][5:0]. -/
  | iShl (c : CoreId) (t : ThreadId) (f : FmtA)
  /-- R122: shr shifts right logically by s[b][5:0]. -/
  | iShr (c : CoreId) (t : ThreadId) (f : FmtA)
  /-- R122: sar shifts right arithmetically by s[b][5:0]. -/
  | iSar (c : CoreId) (t : ThreadId) (f : FmtA)
  /-- R122: min writes the signed minimum. -/
  | iMin (c : CoreId) (t : ThreadId) (f : FmtA)
  /-- R122: max writes the signed maximum. -/
  | iMax (c : CoreId) (t : ThreadId) (f : FmtA)
  /-- R122: minu writes the unsigned minimum. -/
  | iMinu (c : CoreId) (t : ThreadId) (f : FmtA)
  /-- R122: maxu writes the unsigned maximum. -/
  | iMaxu (c : CoreId) (t : ThreadId) (f : FmtA)
  /-- R122: cmp writes a predicate from a comparison of two scalar registers. -/
  | iCmp (c : CoreId) (t : ThreadId) (f : FmtA)
  /-- R122: addi adds an immediate. -/
  | iAddi (c : CoreId) (t : ThreadId) (f : FmtI)
  /-- R122: andi ands an immediate. -/
  | iAndi (c : CoreId) (t : ThreadId) (f : FmtI)
  /-- R122: ori ors an immediate. -/
  | iOri (c : CoreId) (t : ThreadId) (f : FmtI)
  /-- R122: xori xors an immediate. -/
  | iXori (c : CoreId) (t : ThreadId) (f : FmtI)
  /-- R122: shli shifts left by an immediate. -/
  | iShli (c : CoreId) (t : ThreadId) (f : FmtI)
  /-- R122: shri shifts right logically by an immediate. -/
  | iShri (c : CoreId) (t : ThreadId) (f : FmtI)
  /-- R122: sari shifts right arithmetically by an immediate. -/
  | iSari (c : CoreId) (t : ThreadId) (f : FmtI)
  /-- R122: li loads a sign-extended immediate. -/
  | iLi (c : CoreId) (t : ThreadId) (f : FmtI)
  /-- R122: lih places an immediate in the upper 32 bits above s[a][31:0]. -/
  | iLih (c : CoreId) (t : ThreadId) (f : FmtI)
  /-- R122: cmpi writes a predicate from a comparison with an immediate. -/
  | iCmpi (c : CoreId) (t : ThreadId) (f : FmtI)
  /-- R122: br branches relative to pc. -/
  | iBr (c : CoreId) (t : ThreadId) (f : FmtI)
  /-- R122: brl branches relative to pc and writes the return address. -/
  | iBrl (c : CoreId) (t : ThreadId) (f : FmtI)
  /-- R122: jr jumps to the address in a scalar register. -/
  | iJr (c : CoreId) (t : ThreadId) (f : FmtI)
  /-- R122: lds loads 1 to 8 bytes of scratchpad into a scalar register. -/
  | iLds (c : CoreId) (t : ThreadId) (f : FmtI) (errs : List (Nat × Bool))
  /-- R122: sts stores 1 to 8 bytes of a scalar register to scratchpad. -/
  | iSts (c : CoreId) (t : ThreadId) (f : FmtI)
  /-- R122: amo performs an atomic add, swap, cas, max or maxu on an 8 B scratchpad word. -/
  | iAmo (c : CoreId) (t : ThreadId) (f : FmtA) (errs : List (Nat × Bool))
  /-- R100: ldf issues a far 8 B load of a global address. -/
  | iLdf (c : CoreId) (t : ThreadId) (f : FmtI)
  /-- R100: stf issues a far 8 B store to a global address. -/
  | iStf (c : CoreId) (t : ThreadId) (f : FmtI)
  /-- R140: amof issues an atomic performed at the home of a far address. -/
  | iAmof (c : CoreId) (t : ThreadId) (f : FmtA)
  /-- R123: vadd adds lanewise. -/
  | iVadd (c : CoreId) (t : ThreadId) (f : FmtA)
  /-- R123: vsub subtracts lanewise. -/
  | iVsub (c : CoreId) (t : ThreadId) (f : FmtA)
  /-- R123: vmul multiplies lanewise. -/
  | iVmul (c : CoreId) (t : ThreadId) (f : FmtA)
  /-- R123: vfma performs a lanewise fused multiply-add with one rounding. -/
  | iVfma (c : CoreId) (t : ThreadId) (f : FmtA)
  /-- R123: vmin takes the lanewise minimum. -/
  | iVmin (c : CoreId) (t : ThreadId) (f : FmtA)
  /-- R123: vmax takes the lanewise maximum. -/
  | iVmax (c : CoreId) (t : ThreadId) (f : FmtA)
  /-- R123: vabs takes the lanewise absolute value. -/
  | iVabs (c : CoreId) (t : ThreadId) (f : FmtA)
  /-- R123: vneg negates lanewise. -/
  | iVneg (c : CoreId) (t : ThreadId) (f : FmtA)
  /-- R123: vdiv divides lanewise, correctly rounded. -/
  | iVdiv (c : CoreId) (t : ThreadId) (f : FmtA)
  /-- R123: vsqrt takes the lanewise square root, correctly rounded. -/
  | iVsqrt (c : CoreId) (t : ThreadId) (f : FmtA)
  /-- R123: vrcp takes the lanewise reciprocal, correctly rounded. -/
  | iVrcp (c : CoreId) (t : ThreadId) (f : FmtA)
  /-- R123: vrsq takes the lanewise reciprocal square root, correctly rounded. -/
  | iVrsq (c : CoreId) (t : ThreadId) (f : FmtA)
  /-- R123: vexp2 takes lanewise 2^x, correctly rounded. -/
  | iVexp2 (c : CoreId) (t : ThreadId) (f : FmtA)
  /-- R123: vlog2 takes lanewise log2 x, correctly rounded. -/
  | iVlog2 (c : CoreId) (t : ThreadId) (f : FmtA)
  /-- R123: vcmp writes a predicate from a lanewise comparison. -/
  | iVcmp (c : CoreId) (t : ThreadId) (f : FmtA)
  /-- R123: vsel selects lanes of two vectors under a predicate. -/
  | iVsel (c : CoreId) (t : ThreadId) (f : FmtA)
  /-- R24: vcvt converts lanes to a target format under the drain rules with shift 0. -/
  | iVcvt (c : CoreId) (t : ThreadId) (f : FmtA)
  /-- R123: vred reduces a vector by sum, max or min in a fixed tree order. -/
  | iVred (c : CoreId) (t : ThreadId) (f : FmtA)
  /-- R123: vbc broadcasts a scalar into every lane. -/
  | iVbc (c : CoreId) (t : ThreadId) (f : FmtA)
  /-- R123: vext extracts one lane into a scalar register. -/
  | iVext (c : CoreId) (t : ThreadId) (f : FmtA)
  /-- R123: vand ands lanewise. -/
  | iVand (c : CoreId) (t : ThreadId) (f : FmtA)
  /-- R123: vor ors lanewise. -/
  | iVor (c : CoreId) (t : ThreadId) (f : FmtA)
  /-- R123: vxor xors lanewise. -/
  | iVxor (c : CoreId) (t : ThreadId) (f : FmtA)
  /-- R123: vshl shifts lanes left. -/
  | iVshl (c : CoreId) (t : ThreadId) (f : FmtA)
  /-- R123: vshr shifts lanes right. -/
  | iVshr (c : CoreId) (t : ThreadId) (f : FmtA)
  /-- R122: pop combines two predicates by and, or, xor or and-not. -/
  | iPop (c : CoreId) (t : ThreadId) (f : FmtA)
  /-- R122: vld loads 256 B of scratchpad into a vector register. -/
  | iVld (c : CoreId) (t : ThreadId) (f : FmtI) (errs : List (Nat × Bool))
  /-- R122: vst stores a vector register to 256 B of scratchpad. -/
  | iVst (c : CoreId) (t : ThreadId) (f : FmtI)
  /-- R100: vldf issues a far 256 B load into a vector register. -/
  | iVldf (c : CoreId) (t : ThreadId) (f : FmtI)
  /-- R100: vstf issues a far 256 B store of a vector register. -/
  | iVstf (c : CoreId) (t : ThreadId) (f : FmtI)
  /-- R103: pf sends a prefetch hint for a far range without taking a slot. -/
  | iPf (c : CoreId) (t : ThreadId) (f : FmtI)
  /-- R103: dead sends a dead hint for a far range without taking a slot. -/
  | iDead (c : CoreId) (t : ThreadId) (f : FmtI)
  /-- R112: st.go validates a stream descriptor and copies it into an engine's queue. -/
  | iStGo (c : CoreId) (t : ThreadId) (f : FmtI) (errs : List (Nat × Bool))
  /-- R113: st.wait parks until an engine's done count reaches a target, then returns and clears the status flags. -/
  | iStWait (c : CoreId) (t : ThreadId) (f : FmtI)
  /-- R113: st.poll returns an engine's done count and flags without parking. -/
  | iStPoll (c : CoreId) (t : ThreadId) (f : FmtI)
  /-- R110: A read descriptor reaching the head of its queue copies far data into scratchpad in its layout. -/
  | streamRead (c : CoreId) (e : EngId) (x : StreamIn)
  /-- R110: A write descriptor reaching the head of its queue copies scratchpad data to far memory. -/
  | streamWrite (c : CoreId) (e : EngId) (x : SpIn)
  /-- R111: A gather descriptor reaching the head of its queue copies indexed far rows into scratchpad. -/
  | streamGather (c : CoreId) (e : EngId) (peer : List Byte) (x : SpIn)
  /-- R110: A copy descriptor reaching the head of its queue copies scratchpad to scratchpad. -/
  | streamCopy (c : CoreId) (e : EngId) (errs : List (Nat × Bool))
  /-- R113: Once its writes are visible or acknowledged, a descriptor completes and the engine's done count advances. -/
  | streamDescriptorComplete (c : CoreId) (e : EngId)
  /-- R114: A translation fault, poisoned read or sealed write stops the descriptor and cancels the thread's later ones on the engine. -/
  | streamTransferFault (c : CoreId) (e : EngId) (code : Nat)
  /-- R90: A parked thread becomes READY within 2 cycles after its park condition ends. -/
  | threadWake (c : CoreId) (t : ThreadId)
  /-- R89: A thread that has issued for 4,096 consecutive cycles while another is READY is pre-empted. -/
  | threadPreempt (c : CoreId)
  /-- R91: After 2,048 cycles with every thread parked, the core raises its all-parked signal to the scheduler. -/
  | allParkedSignal (c : CoreId)
  /-- R103: A waiting far request takes a free slot once one is free and its bank is under the cap. -/
  | farSlotGrant (c : CoreId)
  /-- R102: Far read data returns, is written to its register or scratchpad, and frees the slot. -/
  | farLoadReturn (c : CoreId) (id : Nat)
  /-- R102: The home acknowledges a far write or atomic, freeing its slot. -/
  | farStoreAck (c : CoreId) (id : Nat)
  /-- R136: A read reaches its home column and is served as a hit, or as a miss that opens or joins an MSHR. -/
  | homeRead (c : CoreId) (id : Nat) (parity : Bool) (deck : Option Bool)
  /-- R138: A write reaches its home column and makes sectors valid and dirty, fetching first for partial sectors. -/
  | homeWrite (c : CoreId) (x : HomeIn)
  /-- R140: A far atomic is performed at the line's home column after any fill of the line. -/
  | homeAtomic (c : CoreId) (id : Nat) (deck : Option Bool)
  /-- R142: HBM data for a miss returns, fills the sectors, serves the waiters and closes the MSHR when complete. -/
  | fillReturn (col : ColId) (line : Nat) (bad : List BadBytes)
  /-- R143: A miss waiting for a full waiter list or for a free MSHR retries when an MSHR closes. -/
  | missRetry (col : ColId)
  /-- R149: A dead hint reaching a home drops class X lines or cleanly evicts lines of other classes. -/
  | deadHint (c : CoreId) (ctx : Nat) (addr : W64) (size : Nat)
  /-- R189: A prefetch hint reaching a home prefetches lines or starts returns, unless dropped. -/
  | pfHint (c : CoreId) (ctx : Nat) (addr : W64) (size : Nat)
  /-- R147: A background sweep visits every cache-remote line at least once per 2^20 tier cycles, dropping stale ones. -/
  | staleLineSweep
  /-- R153: A write to 2410:02 is checked against the reservations, and a lower quota demotes pins. -/
  | pinQuotaWrite (sess v : Nat)
  /-- R153: A write to 2410:05 is checked against the quota and may demote pins. -/
  | evalReservationWrite (sess v : Nat)
  /-- R153: A write to 2410:06 is checked against the quota and may demote pins. -/
  | ledgerReservationWrite (sess v : Nat)
  /-- R154: At the end of each 16,384-fill window the thrash detector halves or raises the column's fill depth. -/
  | thrashWindowEnd (col : ColId)
  /-- R157: A write to 3100+t:11 starts the in-service map-out of a bank. -/
  | bankMapOutRequestWrite (sess : Nat) (tier : TierId) (v : Nat)
  /-- R135: The keeper starts draining a bank to give it a new role. -/
  | bankRoleChange (col : ColId) (tier : TierId) (bank : BankId) (role : Nat)
  /-- R135: A bank's drain finishes and its new role or map-out takes effect, with steering moved. -/
  | bankDrainDone (col : ColId) (tier : TierId) (bank : BankId) (moves : List (Nat × Nat))
  /-- R158: At each review interval the keeper moves steering and re-homes pages of hot banks. -/
  | hotBankReview (spots homes : List (Nat × Nat))
  /-- R168: A table walk finishes and the leaf is cached in the core, releasing the waiting request. -/
  | translationWalkComplete (c : CoreId) (x : WalkIn)
  /-- R174: The keeper reads and checks an allocated sector in idle cycles within the patrol period. -/
  | patrolRead (addr : Nat) (bad : List BadBytes)
  /-- R175: An allocation command validates its body and places new pages, returning their address. -/
  | keepAlloc (q : QueueId) (n : Nat) (frames : List Nat)
  /-- R179: A free command releases whole pages after their issued requests complete. -/
  | keepFree (q : QueueId) (n : Nat)
  /-- R176: A pin command changes the pin wish of a range of pages. -/
  | keepPin (q : QueueId) (n : Nat)
  /-- R188: A hint of kind 0 starts the return of off-loaded pages in its range. -/
  | hintReturnNow (q : QueueId) (n : Nat)
  /-- R185: A hint of kind 1 asks the keeper to off-load the pages of its range. -/
  | hintOffloadNow (q : QueueId) (x : OffHint)
  /-- R176: A hint of kind 2 sets the order key of class A or K pages. -/
  | hintSetOkey (q : QueueId) (n : Nat)
  /-- R189: A hint of kind 3 moves the prefetch cursor and starts returns below its key. -/
  | hintCursor (q : QueueId) (n : Nat)
  /-- R181: An allocation waiting for off-load frames for 100 ms completes with K_SPACE and event 0x2401. -/
  | allocWaitTimeout (q : QueueId) (w : AllocWait)
  /-- R185: Above the watermark the keeper starts off-loading the lowest-key eligible page to a host slot. -/
  | offloadStart (page : Nat) (x : OffIn)
  /-- R186: The confirming read of an off-load returns and the page's leaf moves to its host slot. -/
  | offloadComplete (page : Nat)
  /-- R187: An off-load not finished within 100 ms is cancelled. -/
  | offloadTimeout (page : Nat)
  /-- R188: A returned block's PCIe read completes and its CRC-32C is checked, re-read or poisoned. -/
  | returnBlockRead (page block : Nat) (data : Option (List Byte))
  /-- R190: After each 1,024 returns the prefetch depth is halved or raised by wasted returns. -/
  | prefetchWindowEnd
  /-- R191: The keeper takes a destination frame in flight, sets mig and begins copying a page. -/
  | migrationStart (page loc place : Nat)
  /-- R191: A migration's copy finishes and the leaf switches to the new frame. -/
  | migrationCopyDone (x : CopyIn)
  /-- R169: Once requests under the old leaf complete, the source frame is released. -/
  | migrationSourceRelease (page : Nat)
  /-- R193: With no migration of a pool in progress, the keeper checks that pool's frame books. -/
  | frameBookCheck (pool : Fin 4)
  /-- R193: A pool unchecked for 1 s defers its new migrations until a check runs. -/
  | frameBookCheckOverdue (pool : Fin 4)
  /-- R196: A held retirement entry whose flash write failed is retried once a second. -/
  | retirementFlashRetry (ok : Bool)
  /-- R197: A write to 2402:03 confirms every retirement entry up to the given sequence number. -/
  | confirmThroughWrite (sess v : Nat)
  /-- R197: An owner-level write to 2402:04 removes a confirmed retirement entry from the next start-up. -/
  | removeEntryWrite (sess v : Nat)
  /-- R204: Every 2430:01 ms the read and write eyes of the next HBM channel are re-centred. -/
  | eyeRecentre (stack : StackId) (ch : Nat) (ok : Bool)
  /-- R209: Setting en checks the queue configuration and enters running, or halts with 0x0503. -/
  | queueEnable (q : QueueId) (ctl : W64)
  /-- R210: Clearing en stops fetching and drains the queue to off. -/
  | queueDisable (q : QueueId) (ctl : W64)
  /-- R211: A doorbell write sets the producer count or halts the queue with 0x0501. -/
  | doorbell (q : QueueId) (v : W64)
  /-- R212: While C differs from P the scheduler fetches and copies the next descriptor and advances C. -/
  | descriptorFetch (q : QueueId) (data : Option (List Byte))
  /-- R217: A validated descriptor starts after its fence or resources, re-running the state checks. -/
  | descriptorStart (q : QueueId)
  /-- R219: CTX_OPEN opens a context with its league, priority and thread limit. -/
  | ctxOpen (q : QueueId) (n : Nat)
  /-- R219: CTX_CLOSE cancels the context's work, frees its pages and snapshots, and clears its tensors. -/
  | ctxClose (q : QueueId) (n : Nat)
  /-- R220: TENSOR_SET writes, replaces or removes a tensor table entry. -/
  | tensorSet (q : QueueId) (n : Nat)
  /-- R221: SEQ_START validates a plain sequence or batched template and queues it for placement. -/
  | seqStart (q : QueueId) (n : Nat)
  /-- R222: When resources are free the scheduler places a waiting sequence or instance and starts its threads. -/
  | sequencePlace (k : Nat)
  /-- R225: Once every thread is FREE, a recoverable sequence restarts in the same slot. -/
  | sequenceRestart (slot : SlotId)
  /-- R226: SEQ_CANCEL stops a plain sequence or removes a template and cancels its unstarted ROWS. -/
  | seqCancel (q : QueueId) (n : Nat)
  /-- R228: ROWS joins or opens a template's batch, closing it when full or flushed. -/
  | rows (q : QueueId) (n : Nat)
  /-- R228: A batch whose cap expires closes. -/
  | batchCapExpire (slot : SlotId)
  /-- R216: A NOP descriptor completes once validated. -/
  | nopCommand (q : QueueId) (n : Nat)
  /-- R236: STEP_END completes once the named step has committed or been discarded on this device. -/
  | stepEnd (q : QueueId) (n : Nat)
  /-- R233: SNAPSHOT copies committed working copies into new pages to be sealed as a snapshot. -/
  | snapshot (q : QueueId) (n : Nat) (frames : List Nat)
  /-- R233: A snapshot copy completes, is sealed at its destination and installed, or fails with S_SHIP. -/
  | snapshotCopyDone (ctx id : Nat) (ok : Bool)
  /-- R232: A write to 2500:02 sets the evaluation slice size from the next placement decision. -/
  | evalSliceWrite (sess v : Nat)
  /-- R243: A write to 2710:01 sets the layout block address, rejected while a layout is armed. -/
  | layoutAddressWrite (sess v : Nat)
  /-- R243: A write to 2710:02 sets the effective step, rejected while a layout is armed. -/
  | layoutStepWrite (sess v : Nat)
  /-- R243: A write to 2710:03 arms, makes current or disarms a layout after its checks. -/
  | layoutEpochWrite (sess v : Nat) (peer : PeerRead)
  /-- R247: A CONTRIB request reads its chunks and sends them as pass packets to the layer owner. -/
  | passRequestContrib (e : EngId) (peer : List Byte)
  /-- R264: A TOPK request sends a partial-list block to the root for merging. -/
  | passRequestTopk (e : EngId) (peer : List Byte)
  /-- R246: A window write waiting on a full engine queue enqueues its request once room appears. -/
  | passQueueRoom (e : EngId)
  /-- R250: A contribution packet reaches the owner and is folded in member order or held. -/
  | contrib (x : ContribIn)
  /-- R252: A layer's deadline expires and every chunk's contributor mask is decided. -/
  | stepDeadlineExpire (step layer : Nat)
  /-- R253: A replica receives and records a chunk's contributor and late masks. -/
  | mask (p : PassPkt)
  /-- R261: A replica installs pushed working-copy lines when their epoch matches, and discards them otherwise. -/
  | push (p : PassPkt) (addr epoch : Nat)
  /-- R256: A device whose parts are updated and masks sent sends READY to the lead and co-owners. -/
  | deviceReady
  /-- R257: The lead, or a co-owner, receives a READY and the lead decides COMMIT once all are OK or DISCARD on FAIL. -/
  | ready (p : PassPkt) (ok : Bool) (stats : List PartStats)
  /-- R257: The lead decides DISCARD when 2700:04 ms pass after its READY without a complete set. -/
  | huddleTimeout
  /-- R257: A device acts on DECIDE by flipping its shadows on COMMIT or releasing them on DISCARD. -/
  | decide (p : PassPkt) (commit : Bool)
  /-- R257: The lead collects FLIPPED and sends RELEASE once it holds one from every device. -/
  | flipped (p : PassPkt)
  /-- R258: On RELEASE an owner frees the previous frames of its flipped pages. -/
  | release (p : PassPkt)
  /-- R259: A device without a decision 2700:04 ms after its READY becomes a querier. -/
  | queryStart
  /-- R259: A querier repeats its QUERY every 1 ms to each device that has not answered. -/
  | queryRepeat
  /-- R259: A device answers a QUERY with the decision it holds, or none. -/
  | query (p : PassPkt)
  /-- R259: A querier receives an answer and decides from it by the query rules. -/
  | answer (p : PassPkt) (dec : Option Bool)
  /-- R259: When the lead has not answered within 1 ms, the querier commits on any COMMIT answer. -/
  | leadSilence
  /-- R259: A querier undecided 2700:04 ms after its first QUERY fences silent devices and decides. -/
  | queryTimeout
  /-- R263: When 2710:05 reaches 0, the old owner sends moved parts' state in HANDOVER packets. -/
  | oldEpochDrained
  /-- R263: A new owner receives part state and folds held contributions once it is complete. -/
  | handover (p : PassPkt) (part field off : Nat) (last : Bool)
  /-- R263: A packet of an unarmed epoch held for 2700:07 ms is discarded and the step failed. -/
  | unknownEpochHoldExpire (epoch : Nat)
  /-- R264: The root's engine receives a member's list and merges it into the group's lists. -/
  | topk (p : PassPkt) (rows k count root : Nat)
  /-- R264: 2700:08 µs after the first list, the root writes a partial merge and ends with P_PARTIAL. -/
  | mergeDeadlineExpire (league group batch : Nat)
  /-- R269: The scheduler starts a vendor update sequence for a buffered chunk on its engine's cluster. -/
  | updateSequenceStart (e : EngId)
  /-- R268: A chunk's last shadow write is acknowledged and its update buffer is freed. -/
  | updateChunkDone (e : EngId)
  /-- R281: An owner missing a peer's READY 1 ms after COMMIT fetches its statistics from the lead. -/
  | splitStatsFetch (layer : Nat) (stats : List PartStats)
  /-- R273: A write to 2720:02 sets the next update table address, rejected while a table is armed. -/
  | updateTableAddressWrite (sess v : Nat)
  /-- R273: A write to 2720:03 validates and arms, disarms or first makes current an update table. -/
  | updateTableStepWrite (sess v : Nat) (peer : PeerRead)
  /-- R297: A HELLO from the partner decides the link generation, lanes and partner records. -/
  | hello (l : LinkId) (spare : Bool) (h : Hello)
  /-- R300: A received frame is FEC-decoded and checked, and accepted in sequence or NAKed. -/
  | frameReceive (l : LinkId) (fseq : Nat) (crc : Byte) (data : List Byte) (errs : List (Nat × BitVec 10))
  /-- R301: An ACK frees replay-buffer frames, or with NAK starts a replay from the named frame. -/
  | ack (l : LinkId) (fseq : Nat) (nak : Bool)
  /-- R306: A CREDIT adds freed flits to, or replaces, the sender's per-VC credit counts. -/
  | credit (l : LinkId) (counts : List Nat) (absolute : Bool)
  /-- R306: A receiver returns credits no later than 50 ns after its first unreported free. -/
  | creditReturn (l : LinkId)
  /-- R307: After 1 µs of idleness the link exchanges absolute credits and retrains on a mismatch. -/
  | creditAudit (l : LinkId) (counts : List Nat)
  /-- R303: A remote read request is checked at the home and answered with an RDR response. -/
  | rd (l : LinkId) (x : ReqIn)
  /-- R303: A remote write request is checked at the home, applied and acknowledged. -/
  | wr (l : LinkId) (x : ReqIn)
  /-- R303: A remote atomic request is checked and performed at the home and acknowledged with the old value. -/
  | amoPacket (l : LinkId) (x : ReqIn)
  /-- R180: A keeper command arriving over Pitch is performed for the target context and answered with KEEPR. -/
  | keep (l : LinkId) (p : Pkt) (frames : List Nat)
  /-- R303: A read response delivers data and page attributes, or a status turned into a thread fault. -/
  | rdr (l : LinkId) (p : Pkt)
  /-- R303: A write or atomic acknowledgement completes the requester's request. -/
  | ackw (l : LinkId) (p : Pkt)
  /-- R180: A remote keeper command's completion record returns and completes the local command. -/
  | keepr (l : LinkId) (p : Pkt)
  /-- R311: A routed packet for another device is forwarded on a hashed link once credits allow. -/
  | packetForward (l : LinkId) (p : Pkt)
  /-- R316: A request unanswered for 2440:05 ms, or lost with a link, completes in error and faults the thread. -/
  | requestTimeout (tag : Nat)
  /-- R319: SEAL makes whole pages read-only under a new seal epoch as one region. -/
  | seal (q : QueueId) (n : Nat)
  /-- R321: UNSEAL advances the regions' epoch and sends INV to every device in the reader map. -/
  | unseal (q : QueueId) (n : Nat)
  /-- R147: A device receiving INV drops its copies of the region and answers INVA once fills drain. -/
  | inv (l : LinkId) (p : Pkt)
  /-- R321: The home records an INVA and completes the UNSEAL once every reader has answered. -/
  | inva (l : LinkId) (p : Pkt)
  /-- R322: When the fence time ends, unanswering readers are fenced and the UNSEAL completes. -/
  | fenceTimeExpire (base : Nat)
  /-- R322: The home sends FENCE to each fenced device every 1 ms. -/
  | fenceResend
  /-- R323: A device receiving FENCE drops the home's copies and sends FENCEA. -/
  | fencePacket (l : LinkId) (p : Pkt)
  /-- R322: The home removes a fenced device from its fence list on FENCEA. -/
  | fencea (l : LinkId) (p : Pkt)
  /-- R323: With no usable link to a home for 2440:04 ms, a device drops its copies of that home's pages. -/
  | homeUnreachable (dev : Nat)
  /-- R373: A relayed dictionary frame arrives at its target to be served, or its response returns to the relayer. -/
  | mgt (l : LinkId) (p : Pkt) (peers : List PeerRead)
  /-- R373: A relaying device with no response within 1100:0B ms returns F_TIMEOUT. -/
  | relayTimeout (seq : Nat)
  /-- R308: A write to 2440:01 sets the device ID under the fabric and kept-context checks. -/
  | deviceIdWrite (sess v : Nat)
  /-- R308: A write to 2440:02 enables or disables routed traffic. -/
  | fabricEnableWrite (sess v : Nat)
  /-- R308: A write to 2200+l:08 sets a link's rank while the fabric is disabled. -/
  | linkRankWrite (sess : Nat) (l : LinkId) (v : Nat)
  /-- R326: An owner-level write to 2440:0C removes a peer's league fence. -/
  | clearLeagueFenceWrite (sess v : Nat)
  /-- R327: A lane losing lock starts a retrain of its link. -/
  | laneLockLoss (l : LinkId) (lane : Nat)
  /-- R327: A replay buffer full for 10 µs starts a retrain. -/
  | replayFullTimeout (l : LinkId)
  /-- R327: A write of 1 to 2200+l:0B retrains the link or lifts it out of FAILED. -/
  | retrainRequestWrite (sess : Nat) (l : LinkId) (v : Nat)
  /-- R328: A retraining link's lanes train, HELLO and credits are exchanged, and held frames replay. -/
  | retrainLanesTrained (l : LinkId) (lanes : Nat) (spare : Bool) (h : Hello) (counts : List Nat)
  /-- R329: After three failed retrains or 200 ms the link enters FAILED and its held requests fail. -/
  | retrainFailure (l : LinkId)
  /-- R329: A write to 2200+l:0A enables or disables a link, lifting it out of FAILED. -/
  | linkEnableWrite (sess : Nat) (l : LinkId) (v : Nat)
  /-- R335: A configuration request is answered with the fixed configuration items. -/
  | configRequest (offset size : Nat) (wr : Option W32)
  /-- R345: A function-level reset stops host traffic, turns queues off and resets BAR0 state. -/
  | flr
  /-- R345: A hot reset acts as a host-side reset and the link retrains by itself. -/
  | hotReset
  /-- R345: A host link-down event acts as a host-side reset and the link retrains by itself. -/
  | hostLinkDown
  /-- R465: Assertion of PERST_N acts as a host link-down event. -/
  | perstNAssert
  /-- R465: Deassertion of PERST_N starts host link training. -/
  | perstNDeassert
  /-- R333: The host link trains, and a rate or width below the cap is counted with event 0x22F1. -/
  | hostLinkTrained (rate width : Nat) (flit : Bool)
  /-- R333: A write to 2300:05 retrains the host link towards the cap. -/
  | retrainToCapWrite (sess v : Nat)
  /-- R346: A host link error is reported by AER and counted, with event 0x22F3 if uncorrectable. -/
  | hostLinkError (uncorrectable : Bool) (status : Nat)
  /-- R339: A write to a BAR0 register with no behaviour of its own stores the value or is ignored and counted. -/
  | registerWrite (offset size : Nat) (v : Option W64) (peers : List PeerRead)
  /-- R340: Setting en in ap_ctl enables a BAR2 aperture or sets err. -/
  | apertureEnable (a : Fin 8) (ctl : W64)
  /-- R340: Clearing en disables an aperture after its accepted accesses complete. -/
  | apertureDisable (a : Fin 8) (ctl : W64)
  /-- R341: A BAR2 read is translated through its aperture and checked, or refused with Completer Abort. -/
  | bar2Read (offset : Nat) (x : BarRead)
  /-- R341: A BAR2 write is translated through its aperture and checked, or discarded. -/
  | bar2Write (offset : Nat) (data : List Byte) (x : BarWrite)
  /-- R342: Setting lend in a free region lends its slots to the keeper. -/
  | hostPoolLend (r : Fin 64) (ctl : W64)
  /-- R343: Clearing lend starts revoking a region by returning its off-loaded pages. -/
  | hostPoolRevoke (r : Fin 64) (ctl : W64)
  /-- R348: A DOE Discovery request is answered with the supported object types. -/
  | doeDiscovery (req : List Byte)
  /-- R447: GET_VERSION is answered with SPDM version 1.2. -/
  | getVersion (req : List Byte)
  /-- R447: GET_CAPABILITIES is answered with certificate, challenge and measurement capabilities. -/
  | getCapabilities (req : List Byte)
  /-- R447: NEGOTIATE_ALGORITHMS accepts only Ed25519 and SHA-384. -/
  | negotiateAlgorithms (req : List Byte)
  /-- R447: GET_DIGESTS returns the digest of slot 0's Ed25519 chain. -/
  | getDigests (req : List Byte)
  /-- R447: GET_CERTIFICATE returns the Ed25519 chain of slot 0. -/
  | getCertificate (req : List Byte)
  /-- R447: CHALLENGE is answered with a response signed by the Ed25519 identity. -/
  | challenge (req : List Byte)
  /-- R447: GET_MEASUREMENTS returns the measurement indices, signed on request. -/
  | getMeasurements (req : List Byte)
  /-- R448: A vendor-defined op 0x01 returns the evidence block signed by both identities. -/
  | evidence (req : List Byte)
  /-- R448: A vendor-defined op 0x02 returns a part of the ML-DSA-65 chain. -/
  | postQuantumChain (req : List Byte)
  /-- R447: Any other SPDM request receives ERROR with UnsupportedRequest. -/
  | spdmUnsupportedRequest (req : List Byte)
  /-- R359: A READ operation returns an object's value, or a status such as D_ROOM. -/
  | read (h : FrameHdr) (o : OpArgs) (rest : List DictOp) (peers : List PeerRead)
  /-- R368: A WRITE operation validates a value against the current state and gives the object its new value. -/
  | write (h : FrameHdr) (o : OpArgs) (rest : List DictOp) (peers : List PeerRead)
  /-- R358: READ_ROWS returns as many whole table rows as fit. -/
  | readRows (h : FrameHdr) (o : OpArgs) (rest : List DictOp) (peers : List PeerRead)
  /-- R358: WRITE_ROWS validates every row and then writes them in ascending order. -/
  | writeRows (h : FrameHdr) (o : OpArgs) (rest : List DictOp) (peers : List PeerRead)
  /-- R358: DESCRIBE returns an object's type, access, row size and row count. -/
  | describe (h : FrameHdr) (o : OpArgs) (rest : List DictOp) (peers : List PeerRead)
  /-- R358: NEXT returns the address of the next object in address order. -/
  | next (h : FrameHdr) (o : OpArgs) (rest : List DictOp) (peers : List PeerRead)
  /-- R364: OPEN takes a free session slot and returns a bound session number. -/
  | openSession (h : FrameHdr) (o : OpArgs) (rest : List DictOp) (peers : List PeerRead)
  /-- R364: CLOSE closes the session after its response is sent. -/
  | closeSession (h : FrameHdr) (o : OpArgs) (rest : List DictOp) (peers : List PeerRead)
  /-- R358: PING completes with no data. -/
  | ping (h : FrameHdr) (o : OpArgs) (rest : List DictOp) (peers : List PeerRead)
  /-- R376: A profile 1 READ returns the converted value of an N40 alias. -/
  | n40Read (path : Path) (seq obj : Nat) (rest : List DictOp)
  /-- R376: A profile 1 WRITE writes an alias's native object under its validation. -/
  | n40Write (path : Path) (seq obj : Nat) (val : List Byte) (rest : List DictOp)
  /-- R355: A fragmented, corrupt, short or untimely datagram is discarded and counted. -/
  | udpDatagramDiscard (cause : Nat)
  /-- R353: Duplicate address detection runs on the link-local address before frames are served. -/
  | addressDetection (duplicate : Bool)
  /-- R354: A Neighbor Discovery message is answered as the RFCs require. -/
  | neighborDiscovery (src : Nat) (data : List Byte)
  /-- R354: An ICMPv6 Echo Request is answered with an Echo Reply. -/
  | echoRequest (src : Nat) (data : List Byte)
  /-- R356: A write to 1100:03 moves the management port after the response is sent. -/
  | udpPortWrite (sess v : Nat)
  /-- R356: A write to 1100:04 sets the PLCA node ID after the response and restarts PLCA. -/
  | plcaNodeIdWrite (sess v : Nat)
  /-- R356: A write to 1100:05 sets the PLCA node count after the response and restarts PLCA. -/
  | plcaNodeCountWrite (sess v : Nat)
  /-- R356: A write to 1100:06 sets the transmit-opportunity timer after the response and restarts PLCA. -/
  | plcaTimerWrite (sess v : Nat)
  /-- R356: A write to 1100:07 sets the burst count after the response and restarts PLCA. -/
  | plcaBurstCountWrite (sess v : Nat)
  /-- R356: A write to 1100:08 sets the burst timer after the response and restarts PLCA. -/
  | plcaBurstTimerWrite (sess v : Nat)
  /-- R356: A write to 1100:09 enables or disables the management port after the response. -/
  | portEnableWrite (sess v : Nat)
  /-- R364: A session idle for 1100:0A s closes and adds event 0x1222. -/
  | sessionIdleTimeout (slot : Fin 32)
  /-- R410: Power-good rises after the rails are in regulation, arming the diode trip comparator. -/
  | powerGoodRise
  /-- R463: Power-good falling resets the device and makes the next start-up cold. -/
  | powerGoodFall (cut : FlashCut)
  /-- R463: RESET_N low resets the device, quiescing the tiers and HBM and releasing the SPI lands. -/
  | resetNAssert (x : ResetIn)
  /-- R461: RESET_N rising starts the RESET phase and the strap sampling delay. -/
  | resetNRelease
  /-- R461: 10 µs after the later of PWRGD and RESET_N rising, SIG0 to SIG3 are sampled and held. -/
  | strapSample (straps : BitVec 4)
  /-- R379: The ROM phase advances the boot count, calibrates sensors and reads the boot record. -/
  | rom (diode : Option Int) (raw : List (Nat × Int))
  /-- R389: The ROM chooses, verifies and loads a firmware slot and starts the control cores. -/
  | imageCheck
  /-- R382: TIER_TEST tests tiers and cores, applies map-out and retirement, and reads torn maps. -/
  | tierTest (badCores : List (Nat × Nat)) (badBanks : List (Nat × Nat × Nat)) (badTiers : List Nat)
  /-- R200: Each HBM stack trains, repairs lanes and builds the HBM pool. -/
  | memTrain (badStacks : List (Nat × Nat)) (lanes : List (Nat × Nat × Nat))
  /-- R333: The HOST_LINK phase raises the host link to its final rate. -/
  | hostLink
  /-- R297: The PITCH_LINK phase trains every enabled link and negotiates it by HELLO. -/
  | pitchLink
  /-- R379: After 2 s in PITCH_LINK the device enters READY while links continue training. -/
  | pitchLinkTimeout
  /-- R379: The device enters READY when PITCH_LINK ends. -/
  | readyEntry
  /-- R383: READY not reached 60 s after ROM entry puts the device into FAULT with cause 0x1002. -/
  | startupWatchdog
  /-- R383: A start-up phase exceeding its maximum adds event 0x1002 and start-up continues. -/
  | phaseOverMax (ms : Nat)
  /-- R392: Update command 1 starts verifying and writing a bundle into the slot that is not running. -/
  | stage (sess : Nat)
  /-- R392: Staging finishes and the slot becomes staged, or it fails with event 0x2909. -/
  | stagingDone (flashOk : Bool)
  /-- R393: Update command 3 makes the staged slot active as trial for the next start-up. -/
  | activateAtReset (sess : Nat)
  /-- R394: Update command 2 starts a live activation in SERVICE after its checks. -/
  | activateLive (sess : Nat)
  /-- R395: The bench finishes loading a role's new image and the role core freezes and hands over. -/
  | roleImageLoaded
  /-- R396: No moment without a pending READY within 2700:04 ms abandons the activation. -/
  | freezeWaitTimeout
  /-- R401: An engine's new microcode loads and self-checks, or a second failure abandons activation. -/
  | microcodeLoadDone (ok : Bool)
  /-- R400: Update command 4 abandons staging or activation according to the update state. -/
  | abandon (sess : Nat)
  /-- R404: A write of 1 to 3000+c:02 stops placements on a core and waits for its threads to end. -/
  | quarantineRequest (sess : Nat) (c : CoreId)
  /-- R404: After 1 s the remaining sequences are cancelled and the core is cleared and gated. -/
  | quarantineWaitExpire (c : CoreId)
  /-- R405: A write of 0 to 3000+c:02 runs the core self-test. -/
  | quarantineRelease (sess : Nat) (c : CoreId)
  /-- R405: The core self-test ends with the core in service or failed. -/
  | coreSelfTestDone (c : CoreId) (failed : Option Nat)
  /-- R419: Every 1 ms the power loop measures power, updates the allowance and sets the power ceiling. -/
  | powerLoopIteration (rails : List (Nat × Nat)) (avsFail : List Nat)
  /-- R412: A voltage raise not confirmed within 1 ms counts as a failed transaction. -/
  | avsbusRaiseTimeout (rail : Fin 2)
  /-- R430: Every 1 ms the thermal loop estimates tier temperatures and sets each cluster's ceiling. -/
  | thermalLoopIteration (readings : List (Nat × Option Int)) (power : List (Nat × Int))
  /-- R416: A cluster quiesces, gates its clock, retunes its PLL and resumes at the new frequency. -/
  | clusterClockChange (k : ClusterId)
  /-- R414: VR_ALERT_N low engages the fast current limiter and adds event 0x2003. -/
  | vrAlertAssert (mv amps : Nat)
  /-- R421: Every 1 µs the limiter estimates VCORE current and halves matrix issue above 2,600 A. -/
  | currentLimiterSample (amps : Nat)
  /-- R421: The limiter releases 50 µs after the estimate falls below 2,400 A and VR_ALERT_N is high. -/
  | currentLimiterRelease
  /-- R433: Each sensor sample is compared with the hard trip limit. -/
  | sensorSample (sensor : Nat) (reading : Option Int)
  /-- R434: A write to 1001:02 or 5007:00 requests an orderly stop and enters STOPPING. -/
  | whistle (sess : Nat) (n40 : Bool) (v : Nat)
  /-- R466: Ten consecutive low samples of WHISTLE_N take a whistle of cause 2. -/
  | whistleNSample (level : Bool)
  /-- R435: A stop step finishes and the next runs, the last entering STOPPED. -/
  | stopStepComplete
  /-- R435: A stop step exceeding its budget is abandoned with event 0x2012. -/
  | stopStepBudgetExpire
  /-- R441: A write to 1200:02 counts the attempt and compares it, raising the session to owner on a match. -/
  | ownerPasswordEntry (sess : Nat) (entry : List Byte)
  /-- R442: The owner lockout ends when its time has passed. -/
  | lockoutExpire
  /-- R443: An owner-level write to 1200:03 sets a new salted password and ends any lockout. -/
  | newOwnerPassword (sess : Nat) (entry : List Byte)
  /-- R444: A write of 1 to 1200:0B returns the session to level 0. -/
  | leaveLevel (sess v : Nat)
  /-- R445: A write to 1200:06 issues a fresh vendor challenge bound to the session. -/
  | vendorScopeRequest (sess v : Nat)
  /-- R445: A vendor challenge lapses 300 s after it was issued. -/
  | vendorChallengeExpire
  /-- R446: A write to 1200:09 verifies the signed response and opens the vendor scope on success. -/
  | vendorResponseLength (sess v : Nat)
  /-- R440: A write of 1 to 2900:0B under vendor scope opens test access and adds event 0x1212. -/
  | testAccessEnable (sess v : Nat)
  /-- R440: A write of 1 to 2900:0C under vendor scope opens JTAG and adds event 0x1212. -/
  | jtagEnable (sess v : Nat)
  /-- R451: A code's token bucket below full gains one token per refill interval. -/
  | tokenRefill (code : Nat)
  /-- R451: A write to 2800:08 sets the burst size and clips existing tokens. -/
  | burstWrite (sess v : Nat)
  /-- R453: An entry of severity 5 or above is written to the flash ring within 100 ms. -/
  | flashRingWrite (ok : Bool)
  /-- R453: A failed flash ring write is retried once a second. -/
  | flashRingRetry (ok : Bool)
  /-- R454: An owner-level write of 1 to 2800:06 adds a CLEAR entry and removes earlier entries. -/
  | clearScorebook (sess v : Nat)
  /-- R454: The flash ring erase of a clear finishes and held entries are written. -/
  | scorebookEraseDone
  /-- R297: A link's lanes finish training outside a retrain and reach frame lock and deskew, and the link sends HELLO to its partner. -/
  | frameLock (l : LinkId) (lanes : Nat)
  /-- R193: New migrations of a pool deferred for an overdue book check resume once 10 ms have passed without a check. -/
  | migrationDeferralExpire (pool : Fin 4)
  /-- R403: A rebuild of the MSHR, frame, scheduler or pass-buffer books finishes, and the device returns to READY when no other SERVICE change remains. -/
  | bookRebuildComplete (book : Rebuild)
  /-- R395: The former role core finishes restarting as the bench, its heartbeat goes live, and the next role's image load may begin. -/
  | benchHeartbeatLive
deriving DecidableEq, Repr

end Sys2Proof
end

