-- ==== Sys2Proof/Decode.lean ====
section
/-! DEFINITION. The words of a core's instructions (R121, Tables 04.8–04.10): the five formats bit by bit, the opcode of every instruction,
and the reading and the writing of a word. The opcode table gives no row any bits: no table word spells a command. -/

namespace Sys2Proof

/-- The command that a table word spells: none, since no row of the table has bits. -/
def decodeTableWord (_nbits _w : Nat) : Option Instr := none

/-! ## Formats (Tables 04.8, 04.9) -/

/-- The header of Table 04.8: the guard predicate and its negate bit. -/
def wordPg (w : BitVec 64) : BitVec 3 := w.extractLsb' 53 3
def wordPn (w : BitVec 64) : Bool := w.getLsbD 52

/-- Format A. -/
def FmtA.ofWord (w : BitVec 64) : FmtA :=
  { pg := wordPg w, pn := wordPn w, d := w.extractLsb' 47 5, a := w.extractLsb' 42 5, b := w.extractLsb' 37 5, c := w.extractLsb' 32 5
    fn := w.extractLsb' 16 16, res := w.extractLsb' 0 16 }
def FmtA.word (op : BitVec 8) (f : FmtA) : BitVec 64 :=
  op ++ f.pg ++ BitVec.ofBool f.pn ++ f.d ++ f.a ++ f.b ++ f.c ++ f.fn ++ f.res

/-- Format I. -/
def FmtI.ofWord (w : BitVec 64) : FmtI :=
  { pg := wordPg w, pn := wordPn w, d := w.extractLsb' 47 5, a := w.extractLsb' 42 5, fn := w.extractLsb' 32 10, imm := w.extractLsb' 0 32 }
def FmtI.word (op : BitVec 8) (f : FmtI) : BitVec 64 := op ++ f.pg ++ BitVec.ofBool f.pn ++ f.d ++ f.a ++ f.fn ++ f.imm

/-- Format M: its two res fields are bits [26:24] and [11:0]. -/
def FmtM.ofWord (w : BitVec 64) : FmtM :=
  { pg := wordPg w, pn := wordPn w, set := w.extractLsb' 49 3, wt := w.extractLsb' 47 2, a := w.extractLsb' 42 5, x := w.extractLsb' 37 5
    fa := w.extractLsb' 32 5, ow := w.getLsbD 31, pa := w.getLsbD 30, tr := w.getLsbD 29, h := w.getLsbD 28, sd := w.getLsbD 27
    aoff := w.extractLsb' 12 12, res := w.extractLsb' 24 3 ++ w.extractLsb' 0 12 }
def FmtM.word (op : BitVec 8) (f : FmtM) : BitVec 64 :=
  op ++ f.pg ++ BitVec.ofBool f.pn ++ f.set ++ f.wt ++ f.a ++ f.x ++ f.fa ++ BitVec.ofBool f.ow ++ BitVec.ofBool f.pa ++ BitVec.ofBool f.tr ++
    BitVec.ofBool f.h ++ BitVec.ofBool f.sd ++ f.res.extractLsb' 12 3 ++ f.aoff ++ f.res.extractLsb' 0 12

/-- Format W. -/
def FmtW.ofWord (w : BitVec 64) : FmtW :=
  { pg := wordPg w, pn := wordPn w, wt := w.extractLsb' 50 2, pr := w.getLsbD 49, a := w.extractLsb' 44 5, x := w.extractLsb' 39 5
    fw := w.extractLsb' 34 5, woff := w.extractLsb' 22 12, res := w.extractLsb' 0 22 }
def FmtW.word (op : BitVec 8) (f : FmtW) : BitVec 64 :=
  op ++ f.pg ++ BitVec.ofBool f.pn ++ f.wt ++ BitVec.ofBool f.pr ++ f.a ++ f.x ++ f.fw ++ f.woff ++ f.res

/-- Format Q. -/
def FmtQ.ofWord (w : BitVec 64) : FmtQ :=
  { pg := wordPg w, pn := wordPn w, set := w.extractLsb' 49 3, a := w.extractLsb' 44 5, n := w.extractLsb' 35 9, m := w.extractLsb' 29 6
    off := w.extractLsb' 17 12, res := w.extractLsb' 0 17 }
def FmtQ.word (op : BitVec 8) (f : FmtQ) : BitVec 64 :=
  op ++ f.pg ++ BitVec.ofBool f.pn ++ f.set ++ f.a ++ f.n ++ f.m ++ f.off ++ f.res

/-! ## Opcodes (Table 04.10) -/

/-- The instruction that a word spells for a thread, with nothing found wrong where it reads. A word of an opcode that Table 04.10 does not
list is the row NOP's with that opcode, which R122 rejects. -/
def decodeWord (c : CoreId) (t : ThreadId) (w : BitVec 64) : Instr :=
  match (w.extractLsb' 56 8).toNat with
  | 0x65 => .iMma c t (FmtM.ofWord w) []
  | 0x66 => .iMmaS2 c t (FmtM.ofWord w) []
  | 0x64 => .iWtld c t (FmtW.ofWord w) []
  | 0x67 => .iDrain c t (FmtQ.ofWord w) []
  | 0x68 => .iSpill c t (FmtQ.ofWord w)
  | 0x62 => .iMcfg c t (FmtA.ofWord w)
  | 0x6A => .iTkInit c t (FmtQ.ofWord w)
  | 0x6B => .iTkIns c t (FmtQ.ofWord w) none
  | 0x6C => .iTkMrg c t (FmtQ.ofWord w)
  | 0x6D => .iTkOut c t (FmtQ.ofWord w) none
  | 0x60 => .iArrClaim c t (FmtA.ofWord w)
  | 0x61 => .iArrRel c t (FmtA.ofWord w)
  | 0x63 => .iArrSync c t (FmtA.ofWord w)
  | 0x69 => .iSdl c t (FmtA.ofWord w) []
  | 0x01 => .iEnd c t (FmtA.ofWord w)
  | 0x02 => .iYield c t (FmtA.ofWord w)
  | 0x03 => .iFence c t (FmtA.ofWord w)
  | 0x04 => .iCsrr c t (FmtI.ofWord w)
  | 0x05 => .iCsrw c t (FmtI.ofWord w)
  | 0x08 => .iWtw c t (FmtI.ofWord w) []
  | 0x10 => .iAdd c t (FmtA.ofWord w)
  | 0x11 => .iSub c t (FmtA.ofWord w)
  | 0x12 => .iMul c t (FmtA.ofWord w)
  | 0x13 => .iMulh c t (FmtA.ofWord w)
  | 0x14 => .iAnd c t (FmtA.ofWord w)
  | 0x15 => .iOr c t (FmtA.ofWord w)
  | 0x16 => .iXor c t (FmtA.ofWord w)
  | 0x17 => .iShl c t (FmtA.ofWord w)
  | 0x18 => .iShr c t (FmtA.ofWord w)
  | 0x19 => .iSar c t (FmtA.ofWord w)
  | 0x1A => .iMin c t (FmtA.ofWord w)
  | 0x1B => .iMax c t (FmtA.ofWord w)
  | 0x1C => .iMinu c t (FmtA.ofWord w)
  | 0x1D => .iMaxu c t (FmtA.ofWord w)
  | 0x1E => .iCmp c t (FmtA.ofWord w)
  | 0x20 => .iAddi c t (FmtI.ofWord w)
  | 0x21 => .iAndi c t (FmtI.ofWord w)
  | 0x22 => .iOri c t (FmtI.ofWord w)
  | 0x23 => .iXori c t (FmtI.ofWord w)
  | 0x24 => .iShli c t (FmtI.ofWord w)
  | 0x25 => .iShri c t (FmtI.ofWord w)
  | 0x26 => .iSari c t (FmtI.ofWord w)
  | 0x27 => .iLi c t (FmtI.ofWord w)
  | 0x28 => .iLih c t (FmtI.ofWord w)
  | 0x29 => .iCmpi c t (FmtI.ofWord w)
  | 0x30 => .iBr c t (FmtI.ofWord w)
  | 0x31 => .iBrl c t (FmtI.ofWord w)
  | 0x32 => .iJr c t (FmtI.ofWord w)
  | 0x38 => .iLds c t (FmtI.ofWord w) []
  | 0x39 => .iSts c t (FmtI.ofWord w)
  | 0x3A => .iAmo c t (FmtA.ofWord w) []
  | 0x3B => .iLdf c t (FmtI.ofWord w)
  | 0x3C => .iStf c t (FmtI.ofWord w)
  | 0x3D => .iAmof c t (FmtA.ofWord w)
  | 0x40 => .iVadd c t (FmtA.ofWord w)
  | 0x41 => .iVsub c t (FmtA.ofWord w)
  | 0x42 => .iVmul c t (FmtA.ofWord w)
  | 0x43 => .iVfma c t (FmtA.ofWord w)
  | 0x44 => .iVmin c t (FmtA.ofWord w)
  | 0x45 => .iVmax c t (FmtA.ofWord w)
  | 0x46 => .iVabs c t (FmtA.ofWord w)
  | 0x47 => .iVneg c t (FmtA.ofWord w)
  | 0x48 => .iVdiv c t (FmtA.ofWord w)
  | 0x49 => .iVsqrt c t (FmtA.ofWord w)
  | 0x4A => .iVrcp c t (FmtA.ofWord w)
  | 0x4B => .iVrsq c t (FmtA.ofWord w)
  | 0x4C => .iVexp2 c t (FmtA.ofWord w)
  | 0x4D => .iVlog2 c t (FmtA.ofWord w)
  | 0x4E => .iVcmp c t (FmtA.ofWord w)
  | 0x4F => .iVsel c t (FmtA.ofWord w)
  | 0x50 => .iVcvt c t (FmtA.ofWord w)
  | 0x51 => .iVred c t (FmtA.ofWord w)
  | 0x52 => .iVbc c t (FmtA.ofWord w)
  | 0x53 => .iVext c t (FmtA.ofWord w)
  | 0x54 => .iVand c t (FmtA.ofWord w)
  | 0x55 => .iVor c t (FmtA.ofWord w)
  | 0x56 => .iVxor c t (FmtA.ofWord w)
  | 0x57 => .iVshl c t (FmtA.ofWord w)
  | 0x58 => .iVshr c t (FmtA.ofWord w)
  | 0x59 => .iPop c t (FmtA.ofWord w)
  | 0x5C => .iVld c t (FmtI.ofWord w) []
  | 0x5D => .iVst c t (FmtI.ofWord w)
  | 0x5E => .iVldf c t (FmtI.ofWord w)
  | 0x5F => .iVstf c t (FmtI.ofWord w)
  | 0x73 => .iPf c t (FmtI.ofWord w)
  | 0x74 => .iDead c t (FmtI.ofWord w)
  | 0x70 => .iStGo c t (FmtI.ofWord w) []
  | 0x71 => .iStWait c t (FmtI.ofWord w)
  | 0x72 => .iStPoll c t (FmtI.ofWord w)
  | _ => .iNop c t ⟨FmtA.ofWord w, w.extractLsb' 56 8⟩

/-- The word of a core's instruction; none for another command. -/
def Instr.coreWord (i : Instr) : Option (BitVec 64) :=
  match i with
  | .iMma _ _ f _ => some (f.word 0x65)
  | .iMmaS2 _ _ f _ => some (f.word 0x66)
  | .iWtld _ _ f _ => some (f.word 0x64)
  | .iDrain _ _ f _ => some (f.word 0x67)
  | .iSpill _ _ f => some (f.word 0x68)
  | .iMcfg _ _ f => some (f.word 0x62)
  | .iTkInit _ _ f => some (f.word 0x6A)
  | .iTkIns _ _ f _ => some (f.word 0x6B)
  | .iTkMrg _ _ f => some (f.word 0x6C)
  | .iTkOut _ _ f _ => some (f.word 0x6D)
  | .iArrClaim _ _ f => some (f.word 0x60)
  | .iArrRel _ _ f => some (f.word 0x61)
  | .iArrSync _ _ f => some (f.word 0x63)
  | .iSdl _ _ f _ => some (f.word 0x69)
  | .iNop _ _ f => some (f.word f.op)
  | .iEnd _ _ f => some (f.word 0x01)
  | .iYield _ _ f => some (f.word 0x02)
  | .iFence _ _ f => some (f.word 0x03)
  | .iCsrr _ _ f => some (f.word 0x04)
  | .iCsrw _ _ f => some (f.word 0x05)
  | .iWtw _ _ f _ => some (f.word 0x08)
  | .iAdd _ _ f => some (f.word 0x10)
  | .iSub _ _ f => some (f.word 0x11)
  | .iMul _ _ f => some (f.word 0x12)
  | .iMulh _ _ f => some (f.word 0x13)
  | .iAnd _ _ f => some (f.word 0x14)
  | .iOr _ _ f => some (f.word 0x15)
  | .iXor _ _ f => some (f.word 0x16)
  | .iShl _ _ f => some (f.word 0x17)
  | .iShr _ _ f => some (f.word 0x18)
  | .iSar _ _ f => some (f.word 0x19)
  | .iMin _ _ f => some (f.word 0x1A)
  | .iMax _ _ f => some (f.word 0x1B)
  | .iMinu _ _ f => some (f.word 0x1C)
  | .iMaxu _ _ f => some (f.word 0x1D)
  | .iCmp _ _ f => some (f.word 0x1E)
  | .iAddi _ _ f => some (f.word 0x20)
  | .iAndi _ _ f => some (f.word 0x21)
  | .iOri _ _ f => some (f.word 0x22)
  | .iXori _ _ f => some (f.word 0x23)
  | .iShli _ _ f => some (f.word 0x24)
  | .iShri _ _ f => some (f.word 0x25)
  | .iSari _ _ f => some (f.word 0x26)
  | .iLi _ _ f => some (f.word 0x27)
  | .iLih _ _ f => some (f.word 0x28)
  | .iCmpi _ _ f => some (f.word 0x29)
  | .iBr _ _ f => some (f.word 0x30)
  | .iBrl _ _ f => some (f.word 0x31)
  | .iJr _ _ f => some (f.word 0x32)
  | .iLds _ _ f _ => some (f.word 0x38)
  | .iSts _ _ f => some (f.word 0x39)
  | .iAmo _ _ f _ => some (f.word 0x3A)
  | .iLdf _ _ f => some (f.word 0x3B)
  | .iStf _ _ f => some (f.word 0x3C)
  | .iAmof _ _ f => some (f.word 0x3D)
  | .iVadd _ _ f => some (f.word 0x40)
  | .iVsub _ _ f => some (f.word 0x41)
  | .iVmul _ _ f => some (f.word 0x42)
  | .iVfma _ _ f => some (f.word 0x43)
  | .iVmin _ _ f => some (f.word 0x44)
  | .iVmax _ _ f => some (f.word 0x45)
  | .iVabs _ _ f => some (f.word 0x46)
  | .iVneg _ _ f => some (f.word 0x47)
  | .iVdiv _ _ f => some (f.word 0x48)
  | .iVsqrt _ _ f => some (f.word 0x49)
  | .iVrcp _ _ f => some (f.word 0x4A)
  | .iVrsq _ _ f => some (f.word 0x4B)
  | .iVexp2 _ _ f => some (f.word 0x4C)
  | .iVlog2 _ _ f => some (f.word 0x4D)
  | .iVcmp _ _ f => some (f.word 0x4E)
  | .iVsel _ _ f => some (f.word 0x4F)
  | .iVcvt _ _ f => some (f.word 0x50)
  | .iVred _ _ f => some (f.word 0x51)
  | .iVbc _ _ f => some (f.word 0x52)
  | .iVext _ _ f => some (f.word 0x53)
  | .iVand _ _ f => some (f.word 0x54)
  | .iVor _ _ f => some (f.word 0x55)
  | .iVxor _ _ f => some (f.word 0x56)
  | .iVshl _ _ f => some (f.word 0x57)
  | .iVshr _ _ f => some (f.word 0x58)
  | .iPop _ _ f => some (f.word 0x59)
  | .iVld _ _ f _ => some (f.word 0x5C)
  | .iVst _ _ f => some (f.word 0x5D)
  | .iVldf _ _ f => some (f.word 0x5E)
  | .iVstf _ _ f => some (f.word 0x5F)
  | .iPf _ _ f => some (f.word 0x73)
  | .iDead _ _ f => some (f.word 0x74)
  | .iStGo _ _ f _ => some (f.word 0x70)
  | .iStWait _ _ f => some (f.word 0x71)
  | .iStPoll _ _ f => some (f.word 0x72)
  | _ => none

/-- Does Table 04.10 list an opcode? -/
def opListed (op : BitVec 8) : Bool :=
  [(0x00, 0x05), (0x08, 0x08), (0x10, 0x1E), (0x20, 0x29), (0x30, 0x32), (0x38, 0x3D), (0x40, 0x59), (0x5C, 0x6D), (0x70, 0x74)].any (fun (r : Nat × Nat) => decide (r.1 ≤ op.toNat) && decide (op.toNat ≤ r.2))

end Sys2Proof
end

