-- ==== Sys2Proof/Config.lean ====
section
/-! DEFINITION. What one part fixes and what the spec leaves open: constants without a body. A claim holds for every
value of them. Free values are drawn by number: State.fresh counts them. -/

namespace Sys2Proof.Config

/-- Byte i of the fused serial number 1000:03 (assumption 3). -/
opaque serialByte : Nat → Byte
/-- A byte that the spec calls undefined: the scratchpad bytes of a stopped transfer (R114). -/
opaque freeByte : Nat → Byte
/-- A word that the spec leaves open. -/
opaque freeNat : Nat → Nat
/-- The result of an operation on operands for which the spec states none: the operation's number, then the operands. -/
opaque freeFn : Nat → List Nat → Nat
/-- How many cycles a cluster's clock makes while the control complex makes one (R9, R16). -/
opaque clusterCycles : Nat → Nat
/-- SHA-384, as FIPS 180-4 gives it (R387, R441, R446). -/
opaque sha384 : List Byte → List Byte
/-- Ed25519 verification: key, message, signature (RFC 8032). -/
opaque edVerify : List Byte → List Byte → List Byte → Bool
/-- ML-DSA-65 verification: key, message, signature (FIPS 204). -/
opaque mlVerify : List Byte → List Byte → List Byte → Bool
/-- A signature by the device's Ed25519 identity. -/
opaque edSign : List Byte → List Byte
/-- A signature by the device's ML-DSA-65 identity. -/
opaque mlSign : List Byte → List Byte
/-- The chain of the Ed25519 identity and that of the ML-DSA-65 identity. -/
opaque edChain : List Byte
opaque mlChain : List Byte
/-- SHA-384 of the fused root keys (R387), the security-version floor, and the ROM and fuse measurement (Table 15.5). -/
opaque edRootHash : List Byte
opaque mlRootHash : List Byte
opaque secFloor : Nat
opaque romMeasurement : List Byte
/-- Byte i of the n-th draw of the random generator (R443, R445). -/
opaque randomByte : Nat → Nat → Byte
/-- The fused VCORE curve: mV for a cluster frequency in MHz (R417). -/
opaque vcoreCurve : Nat → Nat
/-- The fused estimator gains g_1 and g_2, in 2⁻²⁰ °C per mW (R426). -/
opaque gain : Nat → Nat
/-- The fused factory offset of a ring oscillator, in 2⁻²⁰ °C (R423). -/
opaque factoryOffset : Nat → Int
end Sys2Proof.Config
end

