-- ==== Sys2Proof/Machine/State.lean ====
section
/-! DEFINITION. The state of one T96, grouped by unit, as plain data. Every field's default is its value right after
reset (State.reset is every default): the value the spec gives, or the one a log entry names. A `Tab` field lists only the
entries that differ from the default its docstring names. -/

namespace Sys2Proof.Machine

/-! ## Cores -/

/-- Thread states (Table 04.1). -/
inductive ThreadState where
  | free | ready | run | park | fault
deriving DecidableEq, Repr

/-- What a parked thread waits for (Table 04.2, R476). -/
inductive ParkWhy where
  | none
  | farData (regs : List Nat)
  | farSlot
  | stWait (e : Nat) (target : Nat)
  | stGo (e : Nat)
  | wtw (far : Bool) (addr : W64) (value : W64) (cond : Nat) (met : Bool)
  | claim
  | fence
deriving DecidableEq, Repr

/-- A thread: its registers (R86, Table 04.3; unlisted registers read 0), its start values (Table 04.4), its state, and
the stream faults that it takes at its next instruction on the engine (R114), and of one marked recoverable the far address
(R172, R225); `ending` after its end instruction (R92),
`freeing` once the scheduler has freed it from FAULT while its claim is still being released (R225). -/
structure Thread where
  st : ThreadState := .free
  why : ParkWhy := .none
  ending : Bool := false
  pc : W64 := 0
  s : Tab W64 := []
  v : Tab VReg := []
  p : Tab W64 := []
  spBase : Nat := 0
  spSize : Nat := 0
  seMask : Nat := 0
  ctx : Nat := 0
  seq : Nat := 0
  cvtTid : W64 := 0
  park : W64 := 0
  freeing : Bool := false
  stFault : Tab Nat := []
  stPoison : Tab (Option Nat) := []
deriving DecidableEq, Repr

/-- What a far request does (R100): loads, stores, an atomic (operation, operand, expected value), a far wtw read. -/
inductive FarKind where
  | ld | vld | st | vst | wtw
  | amo (op : Nat) (b c : W64)
deriving DecidableEq, Repr

/-- Where a far request stands: waiting for a slot, in its slot, waiting in a miss of its line, sent to a peer with a
tag, or served with its data or its fault code (R102, R136, R303). -/
inductive FarStage where
  | waiting
  | slotted
  | walking
  | missing (col line : Nat)
  | peer (tag : Nat)
  | served (data : List Byte) (fault : Nat)
deriving DecidableEq, Repr

/-- A far request of a thread: `discard` once its thread ends or faults (R92, R125), `looked` once its near-cache miss is counted. -/
structure FarReq where
  id : Nat := 0
  thread : Nat := 0
  ctx : Nat := 0
  kind : FarKind := .ld
  addr : W64 := 0
  data : List Byte := []
  dest : Nat := 0
  mask : W64 := 0
  pc : W64 := 0
  stage : FarStage := .waiting
  discard : Bool := false
  looked : Bool := false
deriving DecidableEq, Repr

/-- A line of a near or instruction cache (R104, R107): its 1 KiB global line number, its page's seal epoch, its data (of an instruction
cache line none: the commands carry the instructions). -/
structure NcLine where
  line : Nat := 0
  epoch : Nat := 0
  data : List Byte := []
deriving DecidableEq, Repr

/-- A stream descriptor in an engine's queue (Table 04.6), with its thread and the window's base; `moved` once its data has moved, `pos`
how many pieces of a write have, `behind` how many queued array-side instructions of its thread were issued before it (R115). -/
structure StreamDesc where
  thread : Nat := 0
  ctx : Nat := 0
  op : Nat := 0
  lay : Nat := 0
  esz : Nat := 0
  nc : Bool := false
  dead : Bool := false
  shape : Nat := 0
  sp : Nat := 0
  far : W64 := 0
  n0 : Nat := 0
  n1 : Nat := 0
  n2 : Nat := 0
  ss1 : Nat := 0
  ss2 : Nat := 0
  idx : Nat := 0
  fs1 : Nat := 0
  fs2 : Nat := 0
  spBase : Nat := 0
  moved : Bool := false
  pos : Nat := 0
  behind : Nat := 0
deriving DecidableEq, Repr

/-- A stream engine: its queue (at most 4), done count and status flags (R108, R113), and whether it holds a far-request slot for its next
request (R103). -/
structure StreamEng where
  queue : List StreamDesc := []
  done : W32 := 0
  flags : Byte := 0
  granted : Bool := false
deriving DecidableEq, Repr

/-- An accumulator set: hi and lo halves by element 32i + j (unlisted +0), whether it is empty, a pair set, its group
count, its side cursor, whether it holds a side sum, and whether its spill slot is empty (R67–R77, R120). -/
structure AccSet where
  hi : Tab W32 := []
  lo : Tab W32 := []
  empty : Bool := true
  pair : Bool := false
  count : Nat := 0
  cursor : Nat := 0
  sideSum : Bool := false
  slotEmpty : Bool := true
deriving DecidableEq, Repr

/-- A weight-tile register: 1,024 B of tile data and 64 scale bytes, loaded with a format, alone or as half of a pair
(R65); `half` for the 512 B tile of a mixed instruction (R61, R63). -/
structure WtReg where
  loaded : Bool := false
  fmt : Nat := 0
  pr : Bool := false
  half : Bool := false
  data : List Byte := []
  scales : List Byte := []
deriving DecidableEq, Repr

/-- A matrix instruction in flight: its set, flags, the 1,024 exact group sums by 32i + j, its pc (R67, R69), and how many of the
queued array-side instructions issued before it (R475). -/
structure MmaOp where
  set : Nat := 0
  ow : Bool := false
  pa : Bool := false
  sums : List Num := []
  pc : W64 := 0
  ahead : Nat := 0
deriving DecidableEq, Repr

/-- A listed channel's side term not yet added to its set: its list position, the 32 side values, the 32 exact weights, and its
instruction's pc (R40, R120). -/
structure SideTerm where
  set : Nat := 0
  pos : Nat := 0
  pc : W64 := 0
  vals : List W16 := []
  ws : List Num := []
deriving DecidableEq, Repr

/-- What a drain read at issue: its parameter block, tables and wide-channel list (R118, Table 04.7). -/
structure DrainParams where
  ctl : W64 := 0
  seed : W64 := 0
  elemBase : W64 := 0
  tensor : Nat := 0
  tstride : Nat := 0
  dst : Nat := 0
  dstride : Nat := 0
  scl : Nat := 0
  side : Nat := 0
  shifts : List Int := []
  bias : List W32 := []
  wlist : List Nat := []
deriving DecidableEq, Repr

/-- An array-side instruction waiting in the queue (R117), with its pc; addresses are physical; `parity` the unit in which its
read finds a parity error (R78). -/
inductive ArrayOp where
  | drain (set : Nat) (d : DrainParams) (pc : W64)
  | spill (set : Nat) (pc : W64)
  | tkInit (k rows : Nat) (pc : W64)
  | tkIns (set ncol base : Nat) (pc : W64) (parity : Option Nat)
  | tkMrg (addr ksrc : Nat) (pc : W64)
  | tkOut (addr : Nat) (pc : W64) (parity : Option Nat)
deriving DecidableEq, Repr

/-- The top-k unit: k, rows in use, per row the ranked (value, position) list and the NaN count (R79–R82). -/
structure TopKUnit where
  k : Nat := 0
  rows : Nat := 0
  lists : Tab (List (W32 × Nat)) := []
  nans : Tab Nat := []
deriving DecidableEq, Repr

/-- The four statistics counters of a core's slot (R56). -/
structure SlotStats where
  drained : Nat := 0
  clipped : Nat := 0
  nanIn : Nat := 0
  nanZeroed : Nat := 0
deriving DecidableEq, Repr

/-- A thread fault record (Table 04.13); `recoverable` is the mark of R172. -/
structure FaultRec where
  thread : Nat := 0
  code : Nat := 0
  pc : W64 := 0
  addr : W64 := 0
  cyc : Nat := 0
  recoverable : Bool := false
deriving DecidableEq, Repr

/-- A core. `sp` is the scratchpad by physical address (unlisted bytes 0), `spPoison` the poisoned 8 B words (R99),
`claim` the thread that holds the array, `releasing` while its release waits for earlier array instructions (R77), `claimQ` the
waiting claimants in order (R116), `lastFeed` whether the array's last feed was a weight load, with bit 10 of its address (R64), `lastRan` and `susp` the
sequencer's round-robin place and the cycles left of a suspended precedence (R89), `lastReq` the requester that last took a far-request slot (0 the threads, 1 + e stream engine e: R103), `fetching` the threads whose
instruction fetch waits for a peer, with a fault code once it has failed (R107), `hints` the pf (false) and dead (true) hints on
their way to a home with their context, address and bytes (R103). -/
structure Core where
  threads : Tab Thread := []
  sp : Tab Byte := []
  spPoison : Tab Bool := []
  lastRan : Nat := 15
  susp : Nat := 0
  allParked : Bool := false
  claim : Option Nat := none
  releasing : Bool := false
  claimQ : List Nat := []
  accs : Tab AccSet := []
  wts : Tab WtReg := []
  mcfg : W64 := 0
  tk : TopKUnit := {}
  aq : List ArrayOp := []
  mmaQ : List MmaOp := []
  sideQ : List SideTerm := []
  sideList : List Nat := []
  lastFeed : Option (Bool × Bool) := none
  far : List FarReq := []
  nextFar : Nat := 0
  lastReq : Nat := 0
  fetching : List (Nat × Nat) := []
  nc : List NcLine := []
  ic : List NcLine := []
  tlb : List Nat := []
  se : Tab StreamEng := []
  stats : Tab SlotStats := []
  hints : List (Bool × Nat × W64 × Nat) := []
  faults : List FaultRec := []
deriving DecidableEq, Repr

/-! ## The deck -/

/-- A cached line: its bank (tier × 17 + bank), set, line number (local L, or global G when `remote`), sector valid and
dirty bits, seal epoch tag and data of a remote line, torn bit (R136, R145, R161). -/
structure Line where
  bank : Nat := 0
  set : Nat := 0
  line : Nat := 0
  remote : Bool := false
  valid : W16 := 0
  dirty : W16 := 0
  epoch : Nat := 0
  data : Tab Byte := []
  torn : Bool := false
deriving DecidableEq, Repr

/-- An open miss status register: its line, the sectors that it must fill (of a direct page the 64 B ones: R182), its waiters (core, request
id), and whether its fill may be installed (R142, R147). -/
structure Mshr where
  line : Nat := 0
  remote : Bool := false
  need : W16 := 0
  fine : List Nat := []
  waiters : List (Nat × Nat) := []
  install : Bool := true
deriving DecidableEq, Repr

/-- A deck column. `roles` by tier × 17 + bank (default 0 working, 4 spare: R477); `steerL` by slot (default the slot's
own bank of R477); `steerR` by slot, one above the bank, 0 for none; `lines` most recently used first; `retry` the
requests waiting for an MSHR (R143); `depthCut` how the fill depth differs from 2410:07 (none: equal); the windows of
R154; `draining` the banks being drained and their next role (R135); `taking` by tier one above the bank whose place the spare takes (R157);
`hadFrames` by drained bank whether it held frames; `accesses` of this review interval and `lastAccesses` of the one before (R158). -/
structure Column where
  roles : Tab Nat := []
  steerL : Tab Nat := []
  steerR : Tab Nat := []
  lines : List Line := []
  mshrs : List Mshr := []
  freeMshr : Nat := 64
  retry : List (Nat × Nat) := []
  depth : Option Nat := none
  evicted : List Nat := []
  winFills : Nat := 0
  winRefetch : Nat := 0
  calm : Nat := 0
  draining : Tab Nat := []
  taking : Tab Nat := []
  hadFrames : Tab Bool := []
  hits : Nat := 0
  misses : Nat := 0
  merges : Nat := 0
  fills : Nat := 0
  refetches : Nat := 0
  fullCycles : Nat := 0
  corrected : Tab Nat := []
  accesses : Tab Nat := []
  lastAccesses : Tab Nat := []
  held : Bool := false
deriving DecidableEq, Repr

/-! ## The keeper -/

/-- A page's leaf entry (Table 06.2) with what the keeper knows beside it: the sequence slot or step whose end frees it
(R179), whether it was returned and is still unread (R189), that it is lost with its host region (R344), and the place and the home column
that its allocation asked for (R181, R184). -/
structure Page where
  base : Nat := 0
  big : Bool := false
  cls : Nat := 0
  life : Nat := 0
  pin : Nat := 0
  loc : Nat := 4
  ctx : Nat := 0
  wr : Bool := true
  sealed : Bool := false
  direct : Bool := false
  offok : Bool := false
  mig : Bool := false
  okey : Nat := 0
  dmask : Tab W16 := []
  sepoch : Nat := 0
  place : Nat := 0
  owner : Nat := 0
  unread : Bool := false
  lost : Bool := false
  want : Nat := 0
  hint : Nat := 0xFF
deriving DecidableEq, Repr

/-- A pool's frame book (R192). -/
structure Pool where
  total : Nat := 0
  free : Nat := 0
  allocated : Nat := 0
  inflight : Nat := 0
deriving DecidableEq, Repr

/-- A migration in progress (R191): its page and frames, its destination, the 64 KiB blocks copied; its source once the leaf has switched, and
the requests (core, id) issued under the old leaf (R169). -/
structure Migration where
  page : Nat := 0
  loc : Nat := 0
  place : Nat := 0
  srcLoc : Nat := 0
  srcPlace : Nat := 0
  switched : Bool := false
  frames : Nat := 1
  copied : Nat := 0
  olds : List (Nat × Nat) := []
deriving DecidableEq, Repr

/-- An off-load in progress (R186): its page and the host slots it took. -/
structure Offload where
  page : Nat := 0
  slots : List Nat := []
deriving DecidableEq, Repr

/-- A return in progress (R188): its page, its place (`loc` 0 HBM, 1 resident, 2 stash) and frames, the blocks back so far, those that failed
once, and those lost. -/
structure Return where
  page : Nat := 0
  loc : Nat := 0
  frame : Nat := 0
  frames : Nat := 1
  home : List Nat := []
  retried : List Nat := []
  lost : List Nat := []
deriving DecidableEq, Repr

/-- A sealed region at its home (R319–R321, R478): its pages, epoch, reader map (unlisted: 0), whether it is unsealing,
the devices whose INVA is awaited and its epoch, the queue and descriptor whose UNSEAL waits for it (of queue 256 on: none is left), and
those of the free commands that wait for `freeing`, its freed pages. -/
structure Region where
  base : Nat := 0
  size : Nat := 0
  epoch : Nat := 0
  ctx : Nat := 0
  readers : List Nat := []
  unsealing : Bool := false
  freeing : List Nat := []
  awaited : List Nat := []
  invEpoch : Nat := 0
  cmd : Option (Nat × Nat) := none
  frees : List (Nat × Nat) := []
deriving DecidableEq, Repr

/-- The region with no command that waits for it. -/
def Region.forget (r : Region) : Region := { r with cmd := r.cmd.map (fun c => (c.1 + 256, c.2)), frees := [] }

/-- An entry of the remote translation cache (R168). -/
structure RemoteTrans where
  page : Nat := 0
  big : Bool := false
  sealed : Bool := false
  wr : Bool := false
  epoch : Nat := 0
  league : Nat := 0
deriving DecidableEq, Repr

/-- A retained copy of a sealed peer page (R183): its global base, its seal epoch, its resident frame, the 256 B sectors it holds and
their bytes by offset. -/
structure Retained where
  page : Nat := 0
  big : Bool := false
  epoch : Nat := 0
  place : Nat := 0
  got : List Nat := []
  data : Tab Byte := []
deriving DecidableEq, Repr

/-- A retirement entry (Table 06.9). -/
structure RetireEntry where
  seq : Nat := 0
  kind : Nat := 0
  confirmed : Bool := false
  moved : Bool := false
  poisoned : Bool := false
  cause : Nat := 0
  loc : Nat := 0
  boot : Nat := 0
  errors : Nat := 0
deriving DecidableEq, Repr

/-- A page whose previous frame is kept until RELEASE (R258): the step that flipped it, its old seal epoch, the frame. -/
structure Flipped where
  page : Nat := 0
  step : Nat := 0
  epoch : Nat := 0
  loc : Nat := 0
  place : Nat := 0
  frames : Nat := 1
deriving DecidableEq, Repr

/-- A page's shadow frame (R285). -/
structure Shadow where
  page : Nat := 0
  loc : Nat := 0
  place : Nat := 0
  frames : Nat := 1
deriving DecidableEq, Repr

/-- An HBM row being retired (R195): the frames still to leave the pool, its location, the cause and the corrected errors, the pages to move,
whether a sector was poisoned. -/
structure Retiring where
  frames : List Nat := []
  loc : Nat := 0
  cause : Nat := 0
  errors : Nat := 0
  moved : Nat := 0
  poisoned : Bool := false
deriving DecidableEq, Repr

/-- The keeper: `pages` by base ÷ 64 KiB, `hostCrc` the CRC-32C kept per host slot (R186), `pinned` and `demoted` the pages in order
(R152, R153), `offRun` whether off-loading goes on until it is 2 points below the watermark (R185), `rows` the corrected errors per HBM row (R194), `retiring` the rows whose pages still
move (R195), `shadows` the shadow frames (R285), `waitRets` the pages whose return waits for a frame (R189), `dying` the pages whose free
waits for requests already issued (R179), `rehome` the pages to be moved: to another home column, or to another bank (R158), `capWaits` the
bank-cap waits of each core at the last review (R158), `traffic` the accesses to each page in this review interval (R158), `allocWaits` the
allocations that wait for frames (R181), `keepWaits` the peers' allocations that wait (R180, R181). -/
structure Keeper where
  pages : Tab (Option Page) := []
  resident : Pool := {}
  stash : Pool := {}
  hbm : Pool := {}
  host : Pool := {}
  migs : List Migration := []
  offs : List Offload := []
  offRun : Bool := false
  rets : List Return := []
  hostCrc : Tab W32 := []
  pinned : List Nat := []
  demoted : List Nat := []
  retained : List Retained := []
  lastEpoch : Tab Nat := []
  regions : List Region := []
  remote : List RemoteTrans := []
  winReturns : Nat := 0
  winWasted : Nat := 0
  calm : Nat := 0
  deferred : Tab Bool := []
  rows : Tab Nat := []
  badFrames : List Nat := []
  lanes : Tab Nat := []
  stackCorrected : Tab Nat := []
  stackUncorrectable : Tab Nat := []
  selfRefresh : Bool := false
  kept : Bool := false
  keptDevId : Nat := 0xFFFF
  keptStacks : Nat := 0
  flipMarker : Option Nat := none
  shadows : List Shadow := []
  flipped : List Flipped := []
  retiring : List Retiring := []
  waitRets : List Nat := []
  dying : List Nat := []
  rehome : List (Nat × Option Nat) := []
  capWaits : Tab Nat := []
  traffic : Tab Nat := []
  allocWaits : List (Nat × Nat) := []
  offWaits : List Nat := []
  keepWaits : List Pkt := []
deriving DecidableEq, Repr

/-! ## Queues, contexts and sequences -/

/-- A fetched descriptor (Table 07.2) until its record is written. -/
structure Desc where
  n : Nat := 0
  fmt : Nat := 2
  op : Nat := 0
  ctx : Nat := 0
  tag : Nat := 0
  step : Nat := 0
  fence : Bool := false
  body : List Byte := []
  started : Bool := false
  order : Nat := 0
deriving DecidableEq, Repr

/-- A command queue: the registers of Table 07.1, its state and the counts P, C and D. -/
structure Queue where
  base : W64 := 0
  ctl : W64 := 0
  cqBase : W64 := 0
  cqCnt : W64 := 0
  state : Nat := 0
  halt : Nat := 0
  p : Nat := 0
  c : Nat := 0
  d : Nat := 0
  descs : List Desc := []
deriving DecidableEq, Repr

/-- An open context (Table 07.5). -/
structure Ctx where
  league : Nat := 0
  prio : Nat := 0
  maxthr : Nat := 0
deriving DecidableEq, Repr

/-- A row record of a batch (R230). -/
structure RowRec where
  inA : W64 := 0
  outA : W64 := 0
  tag : Nat := 0
  i : Nat := 0
deriving DecidableEq, Repr

/-- An open batch of a template: its sampled cap, its rows, its ROWS commands (R228). -/
structure Batch where
  cap : Nat := 0
  limits : Option (Nat × Nat) := none
  rows : List RowRec := []
  cmds : List (Nat × Nat) := []
deriving DecidableEq, Repr

/-- A sequence: its SEQ_START body (Table 07.6), who gets its record, where it is placed (core, thread, window base,
engine mask), its restarts, and, for an instance, its batch (R222–R230). `kind` 1 is a template, 2 an instance, 3 an
update sequence (R269); `since` the control cycle at which it began to wait, `order` its place in the order of validation (R222),
`template` an instance's template, `limits` the restart limit and the starvation bound as an instance's batch sampled them (R23). -/
structure Seq where
  ctx : Nat := 0
  kind : Nat := 0
  pc : W64 := 0
  arg : W64 := 0
  cores : Nat := 0
  tpc : Nat := 0
  win : Nat := 0
  eng : Nat := 0
  eval : Bool := false
  shared : Bool := false
  restart : Bool := false
  snap : W64 := 0
  step : Nat := 0
  cmds : List (Nat × Nat) := []
  placed : List (Nat × Nat × Nat × Nat) := []
  live : List (Nat × Nat) := []
  restarts : Nat := 0
  restarting : Bool := false
  batch : Option Batch := none
  nextBatch : Nat := 0
  number : Nat := 0
  rows : List RowRec := []
  prio : Nat := 0
  engine : Nat := 0
  since : Nat := 0
  order : Nat := 0
  template : Nat := 0
  limits : Option (Nat × Nat) := none
deriving DecidableEq, Repr

/-- A snapshot (R233, R234): `ready` once its copy is installed; an older one of the same id waits for its last bound
sequence. `stage` of a shipped one: 0 its pages asked for, 1 its data sent, 2 its seal asked for (R233, R235). -/
structure Snap where
  ctx : Nat := 0
  id : Nat := 0
  src : Nat := 0
  size : Nat := 0
  dst : Nat := 0
  dev : Nat := 0xFFFF
  bound : Nat := 0
  ready : Bool := false
  replaced : Bool := false
  cmd : Nat × Nat := (0, 0)
  stage : Nat := 0
deriving DecidableEq, Repr

/-- The scheduler. `tensors` by ctx × 2³² + tensor (default 0xFF: absent); `waiting` the sequences not yet placed;
`heldDone` completions (queue, descriptor, status, result) that wait for the host link (R336). `turn` is the queue whose turn it is and
the descriptors fetched in it (R213), `nextOrder` the next number in the order of validation (R222), `freeSlots` the book of free slots
(R227). -/
structure Sched where
  queues : Tab Queue := []
  ctxs : Tab (Option Ctx) := []
  tensors : Tab Nat := []
  slots : Tab (Option Seq) := []
  waiting : List Seq := []
  snaps : List Snap := []
  heldDone : List (Nat × Nat × Nat × Nat) := []
  turn : Nat × Nat := (255, 8)
  nextOrder : Nat := 0
  freeSlots : Nat := 4096
deriving DecidableEq, Repr

/-! ## Pass engines and the update -/

/-- A layer entry of a layout (Table 08.2). -/
structure LayerEntry where
  layer : Nat := 0
  stage : Nat := 0
  parts : Nat := 1
  owner0 : Nat := 0
  elements : Nat := 0
deriving DecidableEq, Repr

/-- A layout block as the T96 read it (Table 08.1): `squads` holds members × stages device IDs, squad-major. -/
structure Layout where
  epoch : Nat := 0
  stages : Nat := 1
  league : Nat := 0
  members : Nat := 1
  squads : List Nat := []
  layers : List LayerEntry := []
deriving DecidableEq, Repr

/-- A pass request in an engine's window queue (Table 08.3), with its context. -/
structure PassReq where
  ctx : Nat := 0
  core : Nat := 0
  op : Nat := 0
  fmt : Nat := 0
  rows : Nat := 0
  step : Nat := 0
  layer : Nat := 0
  first : Nat := 0
  count : Nat := 0
  k : Nat := 0
  root : Nat := 0
  src : W64 := 0
  done : W64 := 0
  out : W64 := 0
  bad : Bool := false
deriving DecidableEq, Repr

/-- A pass engine: its requests, the window writes waiting for room (core, request), its packet buffers, counters and microcode state
(R246, R265, 2900:09). -/
structure Engine where
  reqs : List PassReq := []
  waiting : List (Nat × Nat) := []
  held : Nat := 0
  free : Nat := 1024
  packetsIn : Nat := 0
  packetsOut : Nat := 0
  discarded : Nat := 0
  version : Nat := 0
  micro : Nat := 0
deriving DecidableEq, Repr

/-- A chunk's reduction (R250–R254): the next member in fold order, members folded and excluded, contributions held, late entries folded, the (hi, lo)
pairs by element, the count c, the touched rows, and the masks once decided. -/
structure Reduction where
  step : Nat := 0
  layer : Nat := 0
  chunk : Nat := 0
  next : Nat := 0
  folded : List Nat := []
  excluded : List Nat := []
  held : List PassPkt := []
  late : List Nat := []
  acc : List (W32 × W32) := []
  c : Nat := 0
  touched : List Nat := []
  due : Bool := false
  decided : Bool := false
  buffered : Bool := false
deriving DecidableEq, Repr

/-- A MASK as a replica recorded it (R253). -/
structure MaskRec where
  step : Nat := 0
  layer : Nat := 0
  chunk : Nat := 0
  mask : List Byte := []
  late : List Byte := []
  c : Nat := 0
deriving DecidableEq, Repr

/-- A top-k merge at its root (R264): lists by row of (value, position, member), NaN counts, members arrived, the pieces of the lists that
have not arrived whole (member, number, whether the last, bytes). -/
structure Merge where
  league : Nat := 0
  group : Nat := 0
  batch : Nat := 0
  rows : Nat := 0
  k : Nat := 0
  count : Nat := 0
  arrived : List Nat := []
  pieces : List (Nat × Nat × Bool × List Byte) := []
  lists : Tab (List (W32 × Nat × Nat)) := []
  nans : Tab Nat := []
  req : Option PassReq := none
  expired : Bool := false
deriving DecidableEq, Repr

/-- A querier's standing for a step (R259): answers had (device, decision). -/
structure Query where
  step : Nat := 0
  leadSilent : Bool := false
  answers : List (Nat × Option Bool) := []
deriving DecidableEq, Repr

/-- The step sample of 2700:02, 2700:03, 2700:05 (R251). -/
structure StepSample where
  step : Nat := 0
  deadline : Nat := 0
  policy : Nat := 0
  quorum : Nat := 0
  reserve : Nat := 0
  depth : Nat := 0
deriving DecidableEq, Repr

/-- What a pass packet carries beside its header, by type (Table 08.5). -/
inductive PassBody where
  | contrib
  | mask
  | push (addr epoch : Nat)
  | ready (ok : Bool) (stats : List PartStats)
  | decide (c : Bool)
  | flipped
  | release
  | query
  | answer (dec : Option Bool)
  | handover (part field off : Nat) (last : Bool)
  | topk (rows k count root : Nat)
deriving DecidableEq, Repr

/-- The pass engines and the huddle. `old` is the layout before the current one, which took over from `switchStep` on; `heldPass` the
packets other than contributions that wait for an armed layout, `unknown` those of an epoch not armed (R263); `normFailed` that policy 2 has
failed the step (R282). `lastHuddle` is the last decided step, `fstep` the last flipped (R258), `started` the layers
whose deadline runs in the open step, `readys` what the lead or a co-owner holds (step, device, ok, statistics), `decisions` the
decisions held by step, `commitWait` that a COMMIT waits for statistics (R281), `flippedFrom` the devices whose FLIPPED the lead
holds for step `flipStep`, `handover` the parts whose state has yet to arrive, `moving` the old layout's parts still to send, `seqs`
the packets sent to each device, `owedFlip` a step whose FLIPPED is owed since the start-up (R288), `gens` the determinism generations seen by device, `genNoted` the members noted this step (R245). -/
structure Pass where
  layout : Option Layout := none
  armed : Option (Layout × Nat) := none
  old : Option Layout := none
  switchStep : Nat := 0
  engines : Tab Engine := []
  lastHuddle : Nat := 0
  fstep : Nat := 0
  reds : List Reduction := []
  ledger : List PassPkt := []
  heldPkts : List PassPkt := []
  heldPass : List (PassBody × PassPkt) := []
  unknown : List (PassBody × PassPkt) := []
  samples : List StepSample := []
  started : List Nat := []
  masks : List MaskRec := []
  merges : List Merge := []
  ready : Option (Nat × Bool) := none
  failed : Bool := false
  normFailed : Bool := false
  readys : List (Nat × Nat × Bool × List PartStats) := []
  decisions : List (Nat × Bool) := []
  commitWait : Bool := false
  answeredNone : Option Nat := none
  query : Option Query := none
  flipStep : Nat := 0
  flippedFrom : List Nat := []
  handover : List (Nat × Nat) := []
  moving : Bool := false
  seqs : Tab Nat := []
  owedFlip : Option Nat := none
  gens : List (Nat × Nat) := []
  genNoted : List (Nat × Nat) := []
deriving DecidableEq, Repr

/-- An update entry (Table 09.3) with the addresses of its part state blocks. -/
structure UEntry where
  layer : Nat := 0
  rule : Nat := 0
  vform : Nat := 0
  wfmt : Nat := 0
  flags : Nat := 0
  rows : Nat := 0
  cols : Nat := 0
  eta : W32 := 0
  beta1 : W32 := 0
  beta2 : W32 := 0
  eps : W32 := 0
  lambda : W32 := 0
  gmax : W32 := 0
  nfmax : Nat := 0
  ctx : Nat := 0
  epoch : Nat := 0
  parts : List Nat := []
deriving DecidableEq, Repr

/-- An update table as the T96 read it (Table 09.2). -/
structure UTable where
  addr : Nat := 0
  sbase : Nat := 0
  sched : List W32 := []
  entries : List UEntry := []
deriving DecidableEq, Repr

/-- A reduced chunk in an engine's update buffer (R268). -/
structure BufChunk where
  step : Nat := 0
  layer : Nat := 0
  chunk : Nat := 0
  c : Nat := 0
  pairs : List (W32 × W32) := []
  touched : List Nat := []
  running : Bool := false
  slot : Nat := 0
deriving DecidableEq, Repr

/-- What the update of a chunk left for the layer's statistics (R278): `rows` the row sums of e² by row (vform 1), `hit` the rows that an
N40 update changed (R290). -/
structure ChunkStats where
  step : Nat := 0
  layer : Nat := 0
  part : Nat := 0
  chunk : Nat := 0
  stats : PartStats := {}
  rows : List (Nat × W64) := []
  hit : List Nat := []
deriving DecidableEq, Repr

/-- A row of 2721:00. -/
structure LayerVerdict where
  layer : Nat := 0
  part : Nat := 0
  verdict : Nat := 0
  step : Nat := 0
  rmsW : W32 := 0
  rmsD : W32 := 0
  gnorm : W32 := 0
  nonfinite : Nat := 0
deriving DecidableEq, Repr

/-- The update: the current table and the armed one with its effective step, the buffers by engine, the chunks done this step, the
totals of the parts done, the layers stopped this step (R286), the parts released by policy 1 (layer, part), the rows of 2721:00. -/
structure Update where
  table : Option UTable := none
  armed : Option (UTable × Nat) := none
  bufs : Tab (List BufChunk) := []
  chunks : List ChunkStats := []
  totals : List PartStats := []
  stopped : List Nat := []
  skipped : List (Nat × Nat) := []
  verdicts : List LayerVerdict := []
deriving DecidableEq, Repr

/-! ## The fabric -/

/-- A link beside its objects of 2200+l: its replay buffer (fseq, and one above the tag of a request that the frame carries), next
and expected fseq, whether it has asked for a replay, its credits and the flits that its receiver holds or has freed unreported by
VC, the control cycles of its uncorrectable frames of the last second, whether its partner is excluded from routing (R298), its
fabric-protocol generation, the lane that failed, when and why its retrain began, how many of its lanes this device trained, packets
waiting (R293, R299–R307, R327, R328). -/
structure Link where
  replay : List (Nat × Nat) := []
  nextSeq : Nat := 0
  expect : Nat := 0
  credits : Tab Nat := []
  held : Tab Nat := []
  freed : Tab Nat := []
  serial : List Byte := []
  bad : List Nat := []
  excluded : Bool := false
  fabric : Nat := 0
  lane : Nat := 0
  since : Nat := 0
  cause : Nat := 0
  trained : Nat := 2
  queued : List Pkt := []
deriving DecidableEq, Repr

/-- A request of this device to a peer, by tag (R303, R316); `slot` numbers the far-request slot of a stream's, `fstep` is the flipped step
at which it was sent. -/
structure Outstanding where
  tag : Nat := 0
  core : Nat := 0
  id : Nat := 0
  ctx : Nat := 0
  addr : W64 := 0
  keep : Option (Nat × Nat) := none
  slot : Nat := 0
  fstep : Nat := 0
deriving DecidableEq, Repr

/-- An entry of the fence list 2442:00: kind 1 seal, kind 2 league. -/
structure Fence where
  dev : Nat := 0
  kind : Nat := 0
  league : Nat := 0
  key : Nat := 0
deriving DecidableEq, Repr

/-- A forwarded packet that waits for its outgoing link's credits, `out`: the link that it came by, as it came and as it goes on (R306,
R311). -/
structure Transit where
  link : Nat := 0
  out : Nat := 0
  came : Pkt := {}
  sent : Pkt := {}
deriving DecidableEq, Repr

/-- The fabric: links, routing table 2441:00 (unlisted rows 0), requests to peers, fences, peers' requests that wait with the link they
came by (R188, R191, R258), forwarded packets that wait, acknowledgements of INV that wait for open fills: home, region base, size, epoch (R147). -/
structure Fabric where
  links : Tab Link := []
  routes : Tab W32 := []
  outs : List Outstanding := []
  nextTag : Nat := 0
  fences : List Fence := []
  waiting : List (Nat × Pkt) := []
  transit : List Transit := []
  pendInva : List (Nat × Nat × Nat × Nat) := []
deriving DecidableEq, Repr

/-! ## The host side and management -/

/-- An aperture (Table 11.6). -/
structure Aperture where
  base : W64 := 0
  ctl : W64 := 0
deriving DecidableEq, Repr

/-- A host pool region (Table 11.7): base and slots, its state, its used slots. -/
structure HostRegion where
  base : W64 := 0
  slots : Nat := 0
  state : Nat := 0
  used : List Nat := []
deriving DecidableEq, Repr

/-- The mailbox (Table 11.8). -/
structure Mailbox where
  go : Bool := false
  done : Bool := false
  reqLen : Nat := 0
  rspLen : Nat := 0
  req : Tab Byte := []
  rsp : Tab Byte := []
deriving DecidableEq, Repr

/-- An access of the host that waits, or one that came behind a waiting write (R338, R341): of BAR2, with data if it writes, or of BAR0, with
a value if it writes. -/
inductive Posted where
  | bar2 (offset n : Nat) (data : Option (List Byte)) (ep : Bool)
  | reg (offset size : Nat) (v : Option W64) (peers : List PeerRead)
deriving DecidableEq, Repr

/-- The host attachment: the link is up or in training, Command register bits and power state (R336), configuration registers
the host wrote, apertures, host pool, mailbox, whether a wait for the host has begun, PERST_N asserted, accesses that wait. -/
structure HostSide where
  up : Bool := false
  training : Bool := false
  busMaster : Bool := false
  memSpace : Bool := false
  d3 : Bool := false
  cfg : Tab Nat := []
  aps : Tab Aperture := []
  pool : Tab HostRegion := []
  mb : Mailbox := {}
  blocked : Bool := false
  perst : Bool := true
  posted : List Posted := []
deriving DecidableEq, Repr

/-- A dictionary session (R364–R366): open count, level, bound path, last seq, kept response, the control cycle of its last frame. -/
structure Session where
  isOpen : Bool := false
  opens : Nat := 0
  level : Nat := 0
  path : Path := .mailbox
  last : Nat := 0
  kept : List Byte := []
  heard : Nat := 0
deriving DecidableEq, Repr

/-- A relayed frame that awaits its response (R373): its header as it came, with the path it came by. -/
structure Relay where
  hdr : FrameHdr := {}
deriving DecidableEq, Repr

/-- The management side: session slots, the mailbox session, relays, whether a written port setting waits for the response (R356),
whether the address was detected as unique (R353), the MAC address. -/
structure Mgmt where
  sessions : Tab Session := []
  mbSession : Session := { isOpen := true }
  relays : List Relay := []
  restart : Bool := false
  dadDone : Bool := false
  mac : List Byte := []
deriving DecidableEq, Repr

/-- A live vendor challenge (R445): the 56 bytes of 1200:07 and the session it is bound to. -/
structure Challenge where
  sess : Nat := 0
  scope : Nat := 0
  bytes : List Byte := []
deriving DecidableEq, Repr

/-- Access and attestation: the lockout (its length in ms and the control cycle it began at), the vendor challenge and
response rows, and the SPDM connection: how far it is negotiated (1 version, 2 capabilities, 3 algorithms) and the transcripts that
signatures cover (R442, R445, R447). -/
structure Access where
  lockoutMs : Nat := 0
  lockoutAt : Nat := 0
  challenge : Option Challenge := none
  response : Tab (List Byte) := []
  spdm : Nat := 0
  spdmA : List Byte := []
  spdmB : List Byte := []
  spdmL : List Byte := []
deriving DecidableEq, Repr

/-! ## The scorebook and the flash -/

/-- A scorebook entry (Table 15.7). -/
structure Entry where
  code : Nat := 0
  sev : Nat := 0
  suppressed : Nat := 0
  source : Nat := 0
  seq : Nat := 0
  boot : Nat := 0
  cycles : Nat := 0
  data : List Byte := []
deriving DecidableEq, Repr

/-- An event code's token bucket (R451): how many tokens are missing, and the suppressed count. -/
structure Bucket where
  missing : Nat := 0
  suppressed : Nat := 0
deriving DecidableEq, Repr

/-- The scorebook: entries oldest first, entries of severity 5 and above not yet in flash, whether a clear's erase runs and the
sequence number that divides it, whether a failed flash write waits for its retry, whether event 0x2802 was added this boot
(R450–R454). -/
structure Scorebook where
  entries : List Entry := []
  toFlash : List Entry := []
  buckets : Tab Bucket := []
  erasing : Bool := false
  clearSeq : Nat := 0
  retrying : Bool := false
  told : Bool := false
deriving DecidableEq, Repr

/-- An image of a firmware set (Table 13.6). -/
structure FwImage where
  id : Nat := 0
  version : Nat := 0
  digest : List Byte := []
  bytes : List Byte := []
deriving DecidableEq, Repr

/-- A firmware set: a manifest (Table 13.5) and its images. -/
structure FwSet where
  signed : List Byte := []
  edkey : List Byte := []
  mlkey : List Byte := []
  edsig : List Byte := []
  mlsig : List Byte := []
  determ : Nat := 2
  setver : Nat := 0
  secver : Nat := 0
  passmc : Nat := 0
  fabric : Nat := 2
  images : List FwImage := []
  tuples : List (Nat × List Nat) := []
deriving DecidableEq, Repr

/-- A slot of the flash (2900:02): state 0 empty, 1 staged, 2 trial, 3 good, 4 failed. -/
structure FwSlot where
  state : Nat := 0
  set : FwSet := {}
deriving DecidableEq, Repr

/-- The owner record (Table 15.2). -/
structure OwnerRec where
  state : Nat := 0
  failures : Nat := 0
  salt : List Byte := []
  hash : List Byte := []
deriving DecidableEq, Repr

/-- A copy of the boot record (R386): sequence number, active slot, the slots' states, boot and fallback counts. -/
structure BootRec where
  seq : Nat := 0
  active : Nat := 0
  stateA : Nat := 3
  stateB : Nat := 0
  boot : Nat := 0
  fallbacks : Nat := 0
deriving DecidableEq, Repr

/-- The SPI flash (R20, Table 13.4): what a power-off keeps; `bootA` and `bootB` the copies of the boot record, `ownerA` and
`ownerB` those of the owner record with their sequence numbers, none where the CRC fails. -/
structure Flash where
  active : Nat := 0
  slotA : FwSlot := { state := 3 }
  slotB : FwSlot := {}
  boot : Nat := 0
  fallbacks : Nat := 0
  bootA : Option BootRec := some {}
  bootB : Option BootRec := none
  ownerA : Option (Nat × OwnerRec) := some (0, {})
  ownerB : Option (Nat × OwnerRec) := none
  board : List Byte := []
  owner : OwnerRec := {}
  retire : List RetireEntry := []
  nextRetire : Nat := 1
  removed : List Nat := []
  heldRetire : List RetireEntry := []
  retireFailed : Bool := false
  ring : List Entry := []
deriving DecidableEq, Repr

/-! ## Power, pins and the device -/

/-- Power, clocks and temperature (R409–R433), temperatures in 2⁻²⁰ °C: `allow` the allowance A in nJ (none: full), `frac` the nJ
of energy below a mJ, `fpw` and `fth` the ceilings in MHz and `clock` the frequency of each cluster (default 1,800), the rails' last
readings (mV, mA) and last confirmed mV, the VCORE request and whether a raise to it waits for its read-back, the limiter's last
estimate in A. Sensors by die × 256 + number: state 1 broken, 2 suspect; offset; last reading; how many equal samples in a row;
dwell counts; one sample at the trip limit. `suspects` the rows of 2100:0A; `used` the values used by tier × 96 + column. -/
structure Power where
  allow : Option Int := none
  frac : Nat := 0
  overRun : Nat := 0
  amps : Nat := 0
  fpw : Nat := 1800
  capping : Bool := false
  fth : Tab Nat := []
  hot : Tab Bool := []
  clock : Tab Nat := []
  avsFails : Tab Nat := []
  avsLost : Tab Bool := []
  avsMv : Tab Nat := []
  rails : Tab (Nat × Nat) := []
  request : Nat := 800
  raising : Bool := false
  limiter : Bool := false
  estimate : Nat := 0
  vrAlert : Bool := false
  sensorState : Tab Nat := []
  suspects : List (Nat × Nat × Nat) := []
  offsets : Tab Int := []
  readings : Tab Int := []
  same : Tab Nat := []
  dwell : Tab Nat := []
  used : Tab Int := []
  diodeServes : Bool := false
  tripArmed : Bool := false
  diodeArmed : Bool := false
  tripOnce : Tab Bool := []
  tripped : Bool := false
deriving DecidableEq, Repr

/-- The orderly stop (R434, R435): its cause, the step in progress, the steps abandoned. -/
structure Stop where
  cause : Nat := 0
  step : Nat := 0
  abandoned : Nat := 0
deriving DecidableEq, Repr

/-- Where a live activation stands: the bench loads an image; it waits for a moment to freeze the role (R396); the former role core
restarts as the bench; the engines wait for a decision; an engine's microcode loads; it is loaded and waits for a decision. -/
inductive ActStage where
  | load
  | freeze
  | restart
  | engines
  | micro
  | back
deriving DecidableEq, Repr

/-- A live activation (R394–R401): the role whose turn it is, the stage, the roles and engines that run the new set, the engine whose
turn it is and whether its load has failed once, whether image 5 has switched, whether it is being abandoned, why, and how many roles have
reverted. -/
structure Activation where
  role : Nat := 3
  stage : ActStage := .load
  handed : List Nat := []
  engine : Nat := 0
  updated : List Nat := []
  retried : Bool := false
  image5 : Bool := false
  reverting : Bool := false
  cause : Nat := 0
  reverted : Nat := 0
deriving DecidableEq, Repr

/-- The device: the highest start-up phase reached since RESET and the changes marked SERVICE in progress (R403), the start-up's warm
and safe flags, the cycle counts of the control complex and the clusters; the slot that runs and its set, as control memory holds it
(R387); the control cores by number: role (4 bench, 5 none), heartbeat, silent; a whistle that waits for the phase's end (R406), the
orderly stop, a live activation, the bundle being staged (address, size), pins and straps, low samples of WHISTLE_N; cores whose
quarantine waits and cores in self-test (R404, R405); tiers whose retention marker is set, torn lines (R161, R380); no slot runs. -/
structure Device where
  phase : Nat := 0
  changes : List Nat := []
  warm : Bool := false
  safe : Bool := false
  ctlCyc : Nat := 0
  cyc : Tab Nat := []
  slot : Nat := 0
  running : FwSet := {}
  roleOf : Tab Nat := []
  beats : Tab Nat := []
  silent : Tab Bool := []
  pendingWhistle : Nat := 0
  stop : Option Stop := none
  act : Option Activation := none
  staging : Option (Nat × Nat) := none
  pwrgd : Bool := false
  resetN : Bool := false
  straps : Option (BitVec 4) := none
  whistleLow : Nat := 0
  quar : List Nat := []
  testing : List Nat := []
  tierMark : Tab Bool := []
  torn : List Nat := []
  noSlot : Bool := false
deriving DecidableEq, Repr

/-! ## Outputs -/

/-- What the T96 sends out: writes to host memory, packets on a link, dictionary responses (with the UDP port they leave from), PLCA
restarts with their settings (R356), DOE responses, Neighbor Discovery (kind 0) and echo (kind 1) messages, configuration and BAR
completions, pins. -/
inductive Output where
  | hostWrite (addr : W64) (data : List Byte)
  | hostRead (addr : W64) (n : Nat)
  | packet (link : Nat) (p : Pkt)
  | linkCtl (link type : Nat) (args : List Nat)
  | hello (link : Nat) (h : Hello)
  | frame (path : Path) (udp : Nat) (data : List Byte)
  | opStatus (sess status : Nat)
  | plca (settings : List Nat)
  | doe (data : List Byte)
  | message (kind : Nat) (dst : Nat) (data : List Byte)
  | completion (status : Nat) (data : List Byte)
  | pin (name : String) (level : Bool)
deriving DecidableEq, Repr

/-! ## The machine -/

/-- The state of one T96. `objs` holds the dictionary's settings and counters by index × 256 + sub, where they differ
from the default of the master index (Table 12.11); `mem` is device-local memory by address (unlisted bytes 0: R178), `shadow`
and `prev` the bytes of shadow frames and of previous frames (R285, R258); `host` memory is outside. `out` lists the
outputs, newest first. `fresh` is the model's own: it numbers the free values. -/
structure State where
  pending : List Instr := []
  objs : Tab Nat := []
  dev : Device := {}
  cores : Tab Core := []
  mem : Tab Byte := []
  poison : Tab Bool := []
  shadow : Tab Byte := []
  prev : Tab Byte := []
  shadowPoison : Tab Bool := []
  prevPoison : Tab Bool := []
  cols : Tab Column := []
  keeper : Keeper := {}
  sched : Sched := {}
  pass : Pass := {}
  upd : Update := {}
  fabric : Fabric := {}
  host : HostSide := {}
  mgmt : Mgmt := {}
  access : Access := {}
  book : Scorebook := {}
  flash : Flash := {}
  power : Power := {}
  nanSeen : Tab Bool := []
  out : List Output := []
  fresh : Nat := 0
deriving DecidableEq, Repr

/-- The machine right after reset: every field at its default. -/
def State.reset : State := {}

/-- Reasons the block stops with a fault: none. What the spec calls a fault of a thread, a queue or the device is a next
state (R125, R211, R379). The constructor is raised by no meaning; a stop would be safe. -/
inductive Fault where
  | unreachable
deriving DecidableEq, Repr

/-- Reasons for no meaning. -/
inductive Refusal where
  /-- The dispatch, for a command whose meaning is not written; safe. -/
  | notModelled (mnemonic : String)
deriving DecidableEq, Repr

end Sys2Proof.Machine
end

