-- ==== Sys2Proof/Machine/Tab.lean ====
section
/-! DEFINITION. Sparse tables in canonical form: keys strictly rising, no entry equal to its key's default. The default is
passed to each operation. -/

namespace Sys2Proof

/-- The value at a key: the listed one, or the default. -/
def Tab.get {α : Type} (t : Tab α) (d : α) (k : Nat) : α :=
  match t with
  | [] => d
  | (j, v) :: r => if j = k then v else Tab.get r d k

/-- The table without a key. -/
def Tab.erase {α : Type} (t : Tab α) (k : Nat) : Tab α := t.filter (fun e => e.1 != k)

/-- A key and its value put before the first greater key. -/
def Tab.place {α : Type} (t : Tab α) (k : Nat) (x : α) : Tab α :=
  match t with
  | [] => [(k, x)]
  | (j, v) :: r => if k < j then (k, x) :: (j, v) :: r else (j, v) :: Tab.place r k x

/-- The table with a value listed at a key, in key order. -/
def Tab.insert {α : Type} (t : Tab α) (k : Nat) (x : α) : Tab α := Tab.place (Tab.erase t k) k x

/-- The table with a key's value set: removed when it is the default. -/
def Tab.set {α : Type} [DecidableEq α] (t : Tab α) (d : α) (k : Nat) (x : α) : Tab α :=
  if x = d then Tab.erase t k else Tab.insert t k x

/-- The table with a key's value replaced by a function of it. -/
def Tab.upd {α : Type} [DecidableEq α] (t : Tab α) (d : α) (k : Nat) (f : α → α) : Tab α :=
  Tab.set t d k (f (Tab.get t d k))

/-- The keys are strictly rising above a bound. -/
def Tab.rising {α : Type} (lo : Nat) : Tab α → Bool
  | [] => true
  | (j, _) :: r => decide (lo ≤ j) && Tab.rising (j + 1) r

/-- Canonical form under a default per key. -/
def Tab.wf {α : Type} [DecidableEq α] (d : Nat → α) (t : Tab α) : Bool :=
  Tab.rising 0 t && t.all (fun e => decide (e.2 ≠ d e.1))

/-- A memory is in canonical form: addresses rising, no byte listed that an unlisted address reads as (R178: 0). -/
def Memory.wf (m : Tab Byte) : Bool := Tab.wf (fun _ => 0) m

/-- The values of `n` keys from a first one. -/
def Tab.dense {α : Type} (d : α) (n i : Nat) (t : Tab α) : List α :=
  match n with
  | 0 => []
  | m + 1 =>
    match t with
    | [] => d :: Tab.dense d m (i + 1) []
    | (k, v) :: r => if k = i then v :: Tab.dense d m (i + 1) r else d :: Tab.dense d m (i + 1) ((k, v) :: r)

/-- The table of a list of values from key 0. -/
def Tab.ofList {α : Type} [DecidableEq α] (d : α) (l : List α) : Tab α :=
  ((List.range l.length).zip l).filter (fun e => decide (e.2 ≠ d))

/-- `n` bytes from an address, lowest first. -/
def Tab.readBytes (m : Tab Byte) (a : Nat) : Nat → List Byte
  | 0 => []
  | n + 1 => Tab.get m 0 a :: Tab.readBytes m (a + 1) n

/-- Bytes written from an address upwards. -/
def Tab.writeBytes (m : Tab Byte) (a : Nat) : List Byte → Tab Byte
  | [] => m
  | b :: bs => Tab.writeBytes (Tab.set m 0 a b) (a + 1) bs

/-- Little-endian value of a byte list (R7). -/
def leNat : List Byte → Nat
  | [] => 0
  | b :: bs => b.toNat + 256 * leNat bs

/-- `n` bytes of a value, little-endian (R7). -/
def leBytes (n v : Nat) : List Byte :=
  match n with
  | 0 => []
  | k + 1 => BitVec.ofNat 8 v :: leBytes k (v / 256)

/-- A little-endian field of a byte string. -/
def fieldAt (bs : List Byte) (off n : Nat) : Nat := leNat ((bs.drop off).take n)

end Sys2Proof
end

