-- ==== Sys2Proof/Machine/Dict.lean ====
section
/-! DEFINITION. The master index of the dictionary (R377, Table 12.11): the objects, their types, access codes, defaults and
ranges, and the store of the plain ones. -/

namespace Sys2Proof

/-- A row of the master index: first index, how many indices it covers, sub-index, type and access codes (Table 12.4,
Table 12.5), bytes of the value or of a table's row, default, allowed ranges (of the value; of the length of OCTETS), rows of a
table, and whether the default is "—" (R474). -/
structure ObjRow where
  idx : Nat
  n : Nat
  sub : Nat
  ty : Nat
  acc : Nat
  size : Nat
  dflt : Nat
  ok : List (Nat × Nat)
  rows : Nat
  live : Bool
deriving DecidableEq, Repr

/-- The objects of indices 1000 to 10FF. -/
def index10 : List ObjRow :=
  [⟨0x1000, 1, 0x01, 8, 1, 8, 0, [], 0, false⟩,
   ⟨0x1000, 1, 0x02, 2, 1, 1, 161, [(0, 255)], 0, false⟩,
   ⟨0x1000, 1, 0x03, 9, 1, 16, 0, [(16, 16)], 0, true⟩,
   ⟨0x1000, 1, 0x04, 2, 1, 1, 10, [(0, 255)], 0, false⟩,
   ⟨0x1000, 1, 0x05, 2, 1, 1, 6, [(0, 255)], 0, false⟩,
   ⟨0x1000, 1, 0x06, 8, 1, 7, 0, [], 0, false⟩,
   ⟨0x1000, 1, 0x07, 8, 1, 11, 0, [], 0, false⟩,
   ⟨0x1000, 1, 0x08, 9, 2, 256, 0, [(256, 256)], 0, false⟩,
   ⟨0x1001, 1, 0x00, 2, 2, 1, 0, [(0, 240)], 0, false⟩,
   ⟨0x1001, 1, 0x01, 3, 2, 2, 0, [(0, 65535)], 0, false⟩,
   ⟨0x1001, 1, 0x02, 1, 4, 1, 0, [(1, 1)], 0, true⟩,
   ⟨0x1001, 1, 0x03, 1, 2, 1, 0, [(0, 0), (1, 1)], 0, false⟩,
   ⟨0x1010, 1, 0x01, 5, 3, 8, 0, [(0, 18446744073709551615)], 0, false⟩,
   ⟨0x1010, 1, 0x02, 5, 2, 8, 0, [(0, 18446744073709551615)], 0, false⟩,
   ⟨0x1010, 1, 0x03, 5, 2, 8, 0, [(0, 18446744073709551615)], 0, true⟩,
   ⟨0x1010, 1, 0x04, 4, 2, 4, 0, [(0, 4294967295)], 0, true⟩]

/-- The objects of indices 1100 to 11FF. -/
def index11 : List ObjRow :=
  [⟨0x1100, 1, 0x01, 9, 2, 6, 0, [(6, 6)], 0, false⟩,
   ⟨0x1100, 1, 0x02, 9, 2, 16, 0, [(16, 16)], 0, true⟩,
   ⟨0x1100, 1, 0x03, 3, 3, 2, 50520, [(1024, 65535)], 0, false⟩,
   ⟨0x1100, 1, 0x04, 2, 3, 1, 255, [(0, 15), (255, 255)], 0, false⟩,
   ⟨0x1100, 1, 0x05, 2, 3, 1, 8, [(1, 16)], 0, false⟩,
   ⟨0x1100, 1, 0x06, 2, 3, 1, 32, [(1, 255)], 0, false⟩,
   ⟨0x1100, 1, 0x07, 2, 3, 1, 0, [(0, 255)], 0, false⟩,
   ⟨0x1100, 1, 0x08, 2, 3, 1, 128, [(0, 255)], 0, false⟩,
   ⟨0x1100, 1, 0x09, 1, 3, 1, 1, [(0, 0), (1, 1)], 0, false⟩,
   ⟨0x1100, 1, 0x0A, 3, 3, 2, 60, [(5, 3600)], 0, false⟩,
   ⟨0x1100, 1, 0x0B, 3, 3, 2, 50, [(1, 10000)], 0, false⟩,
   ⟨0x1100, 1, 0x0C, 5, 2, 8, 0, [(0, 18446744073709551615)], 0, false⟩,
   ⟨0x1100, 1, 0x0D, 5, 2, 8, 0, [(0, 18446744073709551615)], 0, false⟩,
   ⟨0x1100, 1, 0x0E, 10, 2, 16, 0, [], 33, false⟩,
   ⟨0x1100, 1, 0x0F, 2, 2, 1, 0, [(0, 3)], 0, false⟩]

/-- The objects of indices 1200 to 12FF. -/
def index12 : List ObjRow :=
  [⟨0x1200, 1, 0x01, 2, 2, 1, 0, [(0, 2)], 0, false⟩,
   ⟨0x1200, 1, 0x02, 9, 4, 64, 0, [(1, 64)], 0, true⟩,
   ⟨0x1200, 1, 0x03, 9, 5, 64, 0, [(1, 64)], 0, true⟩,
   ⟨0x1200, 1, 0x04, 3, 2, 2, 0, [(0, 65535)], 0, true⟩,
   ⟨0x1200, 1, 0x05, 4, 2, 4, 0, [(0, 3600000)], 0, false⟩,
   ⟨0x1200, 1, 0x06, 4, 4, 4, 0, [(0, 4294967295)], 0, true⟩,
   ⟨0x1200, 1, 0x07, 9, 2, 56, 0, [(56, 56)], 0, false⟩,
   ⟨0x1200, 1, 0x08, 10, 4, 64, 0, [], 64, true⟩,
   ⟨0x1200, 1, 0x09, 3, 4, 2, 0, [(1, 4096)], 0, true⟩,
   ⟨0x1200, 1, 0x0A, 4, 2, 4, 0, [(0, 4294967295)], 0, false⟩,
   ⟨0x1200, 1, 0x0B, 1, 4, 1, 0, [(1, 1)], 0, true⟩]

/-- The objects of indices 2000 to 20FF. -/
def index20 : List ObjRow :=
  [⟨0x2000, 1, 0x01, 4, 2, 4, 0, [(0, 4294967295)], 0, false⟩,
   ⟨0x2000, 1, 0x02, 3, 3, 2, 1800, [(600, 1800)], 0, false⟩,
   ⟨0x2000, 1, 0x03, 3, 3, 2, 2100, [(600, 2100)], 0, false⟩,
   ⟨0x2000, 1, 0x04, 3, 1, 2, 10, [(0, 65535)], 0, false⟩,
   ⟨0x2000, 1, 0x05, 3, 2, 2, 0, [(0, 65535)], 0, false⟩,
   ⟨0x2000, 1, 0x06, 3, 2, 2, 0, [(0, 65535)], 0, false⟩,
   ⟨0x2000, 1, 0x07, 10, 2, 4, 0, [], 8, true⟩,
   ⟨0x2000, 1, 0x08, 5, 2, 8, 0, [(0, 18446744073709551615)], 0, false⟩,
   ⟨0x2000, 1, 0x09, 5, 2, 8, 0, [(0, 18446744073709551615)], 0, false⟩,
   ⟨0x2000, 1, 0x0A, 10, 2, 8, 0, [], 256, true⟩]

/-- The objects of indices 2100 to 21FF. -/
def index21 : List ObjRow :=
  [⟨0x2100, 1, 0x01, 7, 2, 4, 0, [(0, 4294967295)], 0, false⟩,
   ⟨0x2100, 1, 0x02, 10, 2, 8, 0, [], 4, true⟩,
   ⟨0x2100, 1, 0x03, 7, 5, 4, 1120403456, [(1117782016, 1120403456)], 0, false⟩,
   ⟨0x2100, 1, 0x04, 7, 5, 4, 1121452032, [(1119092736, 1121452032)], 0, false⟩,
   ⟨0x2100, 1, 0x05, 7, 5, 4, 1119748096, [(1117126656, 1119748096)], 0, false⟩,
   ⟨0x2100, 1, 0x06, 7, 5, 4, 1120796672, [(1118437376, 1120796672)], 0, false⟩,
   ⟨0x2100, 1, 0x07, 7, 1, 4, 1122762752, [(0, 4294967295)], 0, false⟩,
   ⟨0x2100, 1, 0x08, 7, 1, 4, 1090519040, [(0, 4294967295)], 0, false⟩,
   ⟨0x2100, 1, 0x09, 3, 1, 2, 10, [(0, 65535)], 0, false⟩,
   ⟨0x2100, 1, 0x0A, 10, 2, 4, 0, [], 65536, false⟩,
   ⟨0x2100, 1, 0x0B, 10, 2, 16, 0, [], 96, true⟩,
   ⟨0x2100, 1, 0x0C, 5, 2, 8, 0, [(0, 18446744073709551615)], 0, false⟩,
   ⟨0x2100, 1, 0x0D, 10, 2, 192, 0, [], 4, true⟩]

/-- The objects of indices 2200 to 22FF. -/
def index22 : List ObjRow :=
  [⟨0x2200, 64, 0x01, 2, 2, 1, 0, [(0, 6)], 0, false⟩,
   ⟨0x2200, 64, 0x02, 2, 2, 1, 0, [(0, 2)], 0, false⟩,
   ⟨0x2200, 64, 0x03, 2, 2, 1, 0, [(0, 2)], 0, false⟩,
   ⟨0x2200, 64, 0x04, 1, 2, 1, 0, [(0, 0), (1, 1)], 0, false⟩,
   ⟨0x2200, 64, 0x05, 3, 2, 2, 65535, [(0, 16383), (65535, 65535)], 0, false⟩,
   ⟨0x2200, 64, 0x06, 2, 2, 1, 255, [(0, 63), (255, 255)], 0, false⟩,
   ⟨0x2200, 64, 0x07, 4, 2, 4, 0, [(0, 4294967295)], 0, false⟩,
   ⟨0x2200, 64, 0x08, 2, 3, 1, 0, [(0, 3)], 0, false⟩,
   ⟨0x2200, 64, 0x09, 2, 3, 1, 2, [(1, 2)], 0, false⟩,
   ⟨0x2200, 64, 0x0A, 1, 3, 1, 1, [(0, 0), (1, 1)], 0, false⟩,
   ⟨0x2200, 64, 0x0B, 1, 4, 1, 0, [(1, 1)], 0, true⟩,
   ⟨0x2200, 64, 0x0C, 5, 2, 8, 0, [(0, 18446744073709551615)], 0, false⟩,
   ⟨0x2200, 64, 0x0D, 5, 2, 8, 0, [(0, 18446744073709551615)], 0, false⟩,
   ⟨0x2200, 64, 0x0E, 5, 2, 8, 0, [(0, 18446744073709551615)], 0, false⟩,
   ⟨0x2200, 64, 0x0F, 5, 2, 8, 0, [(0, 18446744073709551615)], 0, false⟩,
   ⟨0x2200, 64, 0x10, 5, 2, 8, 0, [(0, 18446744073709551615)], 0, false⟩,
   ⟨0x2200, 64, 0x11, 10, 2, 8, 0, [], 10, true⟩,
   ⟨0x2200, 64, 0x12, 9, 2, 16, 0, [(16, 16)], 0, false⟩]

/-- The objects of indices 2300 to 23FF. -/
def index23 : List ObjRow :=
  [⟨0x2300, 1, 0x01, 2, 2, 1, 0, [(0, 64)], 0, false⟩,
   ⟨0x2300, 1, 0x02, 2, 2, 1, 0, [(0, 0), (1, 1), (2, 2), (4, 4), (8, 8), (16, 16)], 0, false⟩,
   ⟨0x2300, 1, 0x03, 1, 2, 1, 0, [(0, 0), (1, 1)], 0, false⟩,
   ⟨0x2300, 1, 0x04, 2, 3, 1, 64, [(8, 8), (16, 16), (32, 32), (64, 64)], 0, false⟩,
   ⟨0x2300, 1, 0x05, 1, 4, 1, 0, [(1, 1)], 0, true⟩,
   ⟨0x2300, 1, 0x06, 5, 2, 8, 0, [(0, 18446744073709551615)], 0, false⟩,
   ⟨0x2300, 1, 0x07, 5, 2, 8, 0, [(0, 18446744073709551615)], 0, false⟩,
   ⟨0x2300, 1, 0x08, 5, 2, 8, 0, [(0, 18446744073709551615)], 0, false⟩,
   ⟨0x2300, 1, 0x09, 4, 2, 4, 0, [(0, 4294967295)], 0, false⟩,
   ⟨0x2300, 1, 0x0A, 5, 2, 8, 0, [(0, 18446744073709551615)], 0, false⟩,
   ⟨0x2300, 1, 0x0B, 4, 2, 4, 32, [(1, 512)], 0, false⟩,
   ⟨0x2300, 1, 0x0C, 10, 2, 16, 0, [], 64, false⟩,
   ⟨0x2300, 1, 0x0D, 4, 2, 4, 0, [(0, 4294967295)], 0, false⟩]

/-- The objects of indices 2400 to 24FF. -/
def index24 : List ObjRow :=
  [⟨0x2400, 1, 0x01, 4, 2, 4, 393216, [(0, 393216)], 0, false⟩,
   ⟨0x2400, 1, 0x02, 2, 2, 1, 255, [(0, 255)], 0, false⟩,
   ⟨0x2400, 1, 0x03, 4, 1, 4, 3072, [(0, 4294967295)], 0, false⟩,
   ⟨0x2400, 1, 0x04, 2, 3, 1, 25, [(0, 50)], 0, false⟩,
   ⟨0x2400, 1, 0x05, 3, 3, 2, 64, [(0, 65535)], 0, false⟩,
   ⟨0x2400, 1, 0x06, 2, 3, 1, 92, [(50, 99)], 0, false⟩,
   ⟨0x2400, 1, 0x07, 1, 3, 1, 1, [(0, 0), (1, 1)], 0, false⟩,
   ⟨0x2400, 1, 0x08, 3, 3, 2, 8, [(1, 65535)], 0, false⟩,
   ⟨0x2400, 1, 0x09, 2, 3, 1, 10, [(0, 80)], 0, false⟩,
   ⟨0x2400, 1, 0x0A, 3, 3, 2, 24, [(1, 720)], 0, false⟩,
   ⟨0x2400, 1, 0x0B, 5, 2, 8, 0, [(0, 18446744073709551615)], 0, false⟩,
   ⟨0x2400, 1, 0x0C, 5, 2, 8, 0, [(0, 18446744073709551615)], 0, false⟩,
   ⟨0x2400, 1, 0x0D, 5, 2, 8, 0, [(0, 18446744073709551615)], 0, false⟩,
   ⟨0x2400, 1, 0x0E, 4, 2, 4, 0, [(0, 4294967295)], 0, false⟩,
   ⟨0x2400, 1, 0x0F, 3, 2, 2, 64, [(0, 65535)], 0, false⟩,
   ⟨0x2400, 1, 0x10, 2, 3, 1, 25, [(1, 100)], 0, false⟩,
   ⟨0x2400, 1, 0x11, 5, 2, 8, 0, [(0, 18446744073709551615)], 0, false⟩,
   ⟨0x2400, 1, 0x12, 5, 2, 8, 0, [(0, 18446744073709551615)], 0, false⟩,
   ⟨0x2400, 1, 0x13, 4, 2, 4, 0, [(0, 4294967295)], 0, false⟩,
   ⟨0x2401, 1, 0x00, 10, 2, 32, 0, [], 4, true⟩,
   ⟨0x2402, 1, 0x00, 10, 2, 32, 0, [], 4096, true⟩,
   ⟨0x2402, 1, 0x01, 3, 2, 2, 0, [(0, 4096)], 0, false⟩,
   ⟨0x2402, 1, 0x02, 3, 2, 2, 0, [(0, 4096)], 0, false⟩,
   ⟨0x2402, 1, 0x03, 4, 4, 4, 0, [(0, 4294967295)], 0, true⟩,
   ⟨0x2402, 1, 0x04, 4, 5, 4, 4294967295, [(0, 4294967295)], 0, false⟩,
   ⟨0x2410, 1, 0x01, 4, 2, 4, 12288, [(0, 12288)], 0, false⟩,
   ⟨0x2410, 1, 0x02, 2, 3, 1, 60, [(0, 80)], 0, false⟩,
   ⟨0x2410, 1, 0x03, 4, 2, 4, 0, [(0, 4294967295)], 0, false⟩,
   ⟨0x2410, 1, 0x04, 5, 2, 8, 0, [(0, 18446744073709551615)], 0, false⟩,
   ⟨0x2410, 1, 0x05, 4, 3, 4, 0, [(0, 9830)], 0, false⟩,
   ⟨0x2410, 1, 0x06, 4, 3, 4, 64, [(0, 9830)], 0, false⟩,
   ⟨0x2410, 1, 0x07, 2, 3, 1, 3, [(0, 15)], 0, false⟩,
   ⟨0x2410, 1, 0x08, 2, 3, 1, 25, [(1, 100)], 0, false⟩,
   ⟨0x2410, 1, 0x09, 5, 2, 8, 0, [(0, 18446744073709551615)], 0, false⟩,
   ⟨0x2410, 1, 0x0A, 5, 2, 8, 0, [(0, 18446744073709551615)], 0, false⟩,
   ⟨0x2410, 1, 0x0B, 5, 2, 8, 0, [(0, 18446744073709551615)], 0, false⟩,
   ⟨0x2410, 1, 0x0C, 4, 2, 4, 0, [(0, 4294967295)], 0, false⟩,
   ⟨0x2410, 1, 0x0D, 4, 3, 4, 262144, [(1, 2097151)], 0, false⟩,
   ⟨0x2410, 1, 0x0E, 4, 3, 4, 4096, [(1, 4294967295)], 0, false⟩,
   ⟨0x2411, 1, 0x00, 10, 2, 52, 0, [], 96, false⟩] ++
  [⟨0x2430, 1, 0x00, 10, 2, 20, 0, [], 8, true⟩,
   ⟨0x2430, 1, 0x01, 3, 3, 2, 1000, [(100, 60000)], 0, false⟩,
   ⟨0x2440, 1, 0x01, 3, 3, 2, 65535, [(0, 16383), (65535, 65535)], 0, false⟩,
   ⟨0x2440, 1, 0x02, 1, 3, 1, 0, [(0, 0), (1, 1)], 0, false⟩,
   ⟨0x2440, 1, 0x03, 4, 2, 4, 0, [(0, 4294967295)], 0, true⟩,
   ⟨0x2440, 1, 0x04, 4, 3, 4, 10, [(1, 10000)], 0, false⟩,
   ⟨0x2440, 1, 0x05, 4, 3, 4, 100, [(1, 60000)], 0, false⟩,
   ⟨0x2440, 1, 0x06, 4, 3, 4, 16, [(1, 1000000)], 0, false⟩,
   ⟨0x2440, 1, 0x07, 5, 2, 8, 0, [(0, 18446744073709551615)], 0, false⟩,
   ⟨0x2440, 1, 0x08, 5, 2, 8, 0, [(0, 18446744073709551615)], 0, false⟩,
   ⟨0x2440, 1, 0x09, 3, 2, 2, 0, [(0, 4096)], 0, false⟩,
   ⟨0x2440, 1, 0x0A, 5, 2, 8, 0, [(0, 18446744073709551615)], 0, false⟩,
   ⟨0x2440, 1, 0x0B, 5, 2, 8, 0, [(0, 18446744073709551615)], 0, false⟩,
   ⟨0x2440, 1, 0x0C, 3, 5, 2, 65535, [(0, 16383)], 0, false⟩,
   ⟨0x2441, 1, 0x00, 10, 3, 4, 0, [], 16384, false⟩,
   ⟨0x2442, 1, 0x00, 10, 2, 16, 0, [], 256, false⟩]

/-- The objects of indices 2500 to 25FF. -/
def index25 : List ObjRow :=
  [⟨0x2500, 1, 0x01, 4, 3, 4, 200, [(0, 100000)], 0, false⟩,
   ⟨0x2500, 1, 0x02, 2, 3, 1, 0, [(0, 24)], 0, false⟩,
   ⟨0x2500, 1, 0x03, 2, 3, 1, 2, [(0, 15)], 0, false⟩,
   ⟨0x2500, 1, 0x04, 3, 3, 2, 10, [(1, 10000)], 0, false⟩,
   ⟨0x2500, 1, 0x05, 3, 2, 2, 0, [(0, 16384)], 0, false⟩,
   ⟨0x2500, 1, 0x06, 3, 2, 2, 0, [(0, 4096)], 0, false⟩,
   ⟨0x2500, 1, 0x07, 5, 2, 8, 0, [(0, 18446744073709551615)], 0, false⟩,
   ⟨0x2500, 1, 0x08, 5, 2, 8, 0, [(0, 18446744073709551615)], 0, false⟩,
   ⟨0x2500, 1, 0x09, 5, 2, 8, 0, [(0, 18446744073709551615)], 0, false⟩,
   ⟨0x2500, 1, 0x0A, 5, 2, 8, 0, [(0, 18446744073709551615)], 0, false⟩,
   ⟨0x2500, 1, 0x0B, 5, 2, 8, 0, [(0, 18446744073709551615)], 0, false⟩,
   ⟨0x2500, 1, 0x0C, 3, 2, 2, 0, [(0, 16384)], 0, false⟩,
   ⟨0x2500, 1, 0x0D, 3, 1, 2, 256, [(0, 65535)], 0, false⟩,
   ⟨0x2501, 1, 0x00, 10, 2, 20, 0, [], 256, false⟩,
   ⟨0x2502, 1, 0x00, 10, 2, 12, 0, [], 16384, false⟩,
   ⟨0x2503, 1, 0x00, 10, 2, 20, 0, [], 65536, false⟩]

/-- The objects of indices 2600 to 26FF. -/
def index26 : List ObjRow :=
  [⟨0x2600, 1, 0x01, 1, 3, 1, 1, [(0, 0), (1, 1)], 0, false⟩,
   ⟨0x2600, 1, 0x02, 4, 3, 4, 1000, [(0, 1000000)], 0, false⟩,
   ⟨0x2600, 1, 0x03, 4, 3, 4, 65536, [(1, 4294967295)], 0, false⟩,
   ⟨0x2600, 1, 0x04, 3, 4, 2, 0, [(0, 255), (65535, 65535)], 0, true⟩,
   ⟨0x2600, 1, 0x05, 9, 2, 32, 0, [(32, 32)], 0, false⟩,
   ⟨0x2601, 1, 0x00, 10, 2, 32, 0, [], 256, false⟩]

/-- The objects of indices 2700 to 27FF. -/
def index27 : List ObjRow :=
  [⟨0x2700, 1, 0x01, 2, 2, 1, 255, [(0, 255)], 0, false⟩,
   ⟨0x2700, 1, 0x02, 4, 3, 4, 50000, [(0, 10000000)], 0, false⟩,
   ⟨0x2700, 1, 0x03, 2, 3, 1, 1, [(0, 0), (1, 1)], 0, false⟩,
   ⟨0x2700, 1, 0x04, 4, 3, 4, 2000, [(10, 600000)], 0, false⟩,
   ⟨0x2700, 1, 0x05, 2, 3, 1, 75, [(1, 100)], 0, false⟩,
   ⟨0x2700, 1, 0x06, 4, 1, 4, 16384, [(0, 4294967295)], 0, false⟩,
   ⟨0x2700, 1, 0x07, 4, 3, 4, 1000, [(1, 60000)], 0, false⟩,
   ⟨0x2700, 1, 0x08, 4, 3, 4, 1000, [(1, 1000000)], 0, false⟩,
   ⟨0x2700, 1, 0x09, 5, 2, 8, 0, [(0, 18446744073709551615)], 0, false⟩,
   ⟨0x2700, 1, 0x0A, 5, 2, 8, 0, [(0, 18446744073709551615)], 0, false⟩,
   ⟨0x2700, 1, 0x0B, 5, 2, 8, 0, [(0, 18446744073709551615)], 0, false⟩,
   ⟨0x2700, 1, 0x0C, 5, 2, 8, 0, [(0, 18446744073709551615)], 0, false⟩,
   ⟨0x2700, 1, 0x0D, 4, 2, 4, 0, [(0, 4294967295)], 0, false⟩,
   ⟨0x2700, 1, 0x0E, 5, 2, 8, 0, [(0, 18446744073709551615)], 0, false⟩,
   ⟨0x2710, 1, 0x01, 5, 3, 8, 0, [(0, 18446744073709551615)], 0, false⟩,
   ⟨0x2710, 1, 0x02, 4, 3, 4, 0, [(0, 4294967295)], 0, false⟩,
   ⟨0x2710, 1, 0x03, 3, 3, 2, 0, [(0, 65535)], 0, false⟩,
   ⟨0x2710, 1, 0x04, 3, 2, 2, 0, [(0, 65535)], 0, false⟩,
   ⟨0x2710, 1, 0x05, 4, 2, 4, 0, [(0, 4294967295)], 0, false⟩,
   ⟨0x2711, 1, 0x00, 10, 2, 32, 0, [], 8, false⟩,
   ⟨0x2720, 1, 0x01, 5, 2, 8, 0, [(0, 18446744073709551615)], 0, false⟩,
   ⟨0x2720, 1, 0x02, 5, 3, 8, 0, [(0, 18446744073709551615)], 0, false⟩,
   ⟨0x2720, 1, 0x03, 4, 3, 4, 4294967295, [(0, 4294967295)], 0, false⟩,
   ⟨0x2720, 1, 0x04, 2, 3, 1, 2, [(0, 16)], 0, false⟩,
   ⟨0x2720, 1, 0x05, 3, 3, 2, 64, [(4, 1024)], 0, false⟩,
   ⟨0x2720, 1, 0x06, 5, 2, 8, 0, [(0, 18446744073709551615)], 0, false⟩,
   ⟨0x2720, 1, 0x07, 5, 2, 8, 0, [(0, 18446744073709551615)], 0, false⟩,
   ⟨0x2720, 1, 0x08, 5, 2, 8, 0, [(0, 18446744073709551615)], 0, false⟩,
   ⟨0x2720, 1, 0x09, 5, 2, 8, 0, [(0, 18446744073709551615)], 0, false⟩,
   ⟨0x2720, 1, 0x0A, 5, 2, 8, 0, [(0, 18446744073709551615)], 0, false⟩,
   ⟨0x2720, 1, 0x0B, 5, 2, 8, 0, [(0, 18446744073709551615)], 0, false⟩,
   ⟨0x2721, 1, 0x00, 10, 2, 32, 0, [], 65536, false⟩]

/-- The objects of indices 2800 to 28FF. -/
def index28 : List ObjRow :=
  [⟨0x2800, 1, 0x01, 10, 2, 32, 0, [], 8192, false⟩,
   ⟨0x2800, 1, 0x02, 3, 2, 2, 0, [(0, 8192)], 0, false⟩,
   ⟨0x2800, 1, 0x03, 4, 2, 4, 0, [(0, 4294967295)], 0, false⟩,
   ⟨0x2800, 1, 0x04, 5, 2, 8, 0, [(0, 18446744073709551615)], 0, false⟩,
   ⟨0x2800, 1, 0x05, 5, 2, 8, 0, [(0, 18446744073709551615)], 0, false⟩,
   ⟨0x2800, 1, 0x06, 2, 5, 1, 0, [(1, 1)], 0, false⟩,
   ⟨0x2800, 1, 0x07, 2, 3, 1, 8, [(1, 255)], 0, false⟩,
   ⟨0x2800, 1, 0x08, 2, 3, 1, 16, [(1, 255)], 0, false⟩,
   ⟨0x2800, 1, 0x09, 4, 2, 4, 0, [(0, 131072)], 0, false⟩,
   ⟨0x2800, 1, 0x0A, 10, 2, 32, 0, [], 131072, true⟩]

/-- The objects of indices 2900 to 29FF. -/
def index29 : List ObjRow :=
  [⟨0x2900, 1, 0x01, 2, 2, 1, 0, [(0, 0), (1, 1)], 0, true⟩,
   ⟨0x2900, 1, 0x02, 10, 2, 36, 0, [], 2, true⟩,
   ⟨0x2900, 1, 0x03, 10, 2, 36, 0, [], 65536, true⟩,
   ⟨0x2900, 1, 0x04, 5, 3, 8, 0, [(0, 18446744073709551615)], 0, false⟩,
   ⟨0x2900, 1, 0x05, 4, 3, 4, 0, [(0, 16777216)], 0, false⟩,
   ⟨0x2900, 1, 0x06, 2, 4, 1, 0, [(1, 4)], 0, true⟩,
   ⟨0x2900, 1, 0x07, 2, 2, 1, 0, [(0, 4)], 0, false⟩,
   ⟨0x2900, 1, 0x08, 10, 2, 12, 0, [], 5, true⟩,
   ⟨0x2900, 1, 0x09, 10, 2, 8, 0, [], 8, true⟩,
   ⟨0x2900, 1, 0x0A, 4, 2, 4, 0, [(0, 4294967295)], 0, false⟩,
   ⟨0x2900, 1, 0x0B, 1, 6, 1, 0, [(0, 0), (1, 1)], 0, false⟩,
   ⟨0x2900, 1, 0x0C, 1, 6, 1, 0, [(0, 0), (1, 1)], 0, false⟩]

/-- The objects of indices 3000 to 30FF. -/
def index30 : List ObjRow :=
  [⟨0x3000, 96, 0x01, 2, 2, 1, 0, [(0, 2)], 0, false⟩,
   ⟨0x3000, 96, 0x02, 1, 5, 1, 0, [(0, 0), (1, 1)], 0, false⟩,
   ⟨0x3000, 96, 0x10, 5, 2, 8, 0, [(0, 18446744073709551615)], 0, false⟩,
   ⟨0x3000, 96, 0x11, 5, 2, 8, 0, [(0, 18446744073709551615)], 0, false⟩,
   ⟨0x3000, 96, 0x12, 5, 2, 8, 0, [(0, 18446744073709551615)], 0, false⟩,
   ⟨0x3000, 96, 0x13, 5, 2, 8, 0, [(0, 18446744073709551615)], 0, false⟩,
   ⟨0x3000, 96, 0x14, 5, 2, 8, 0, [(0, 18446744073709551615)], 0, false⟩,
   ⟨0x3000, 96, 0x15, 5, 2, 8, 0, [(0, 18446744073709551615)], 0, false⟩,
   ⟨0x3000, 96, 0x16, 5, 2, 8, 0, [(0, 18446744073709551615)], 0, false⟩,
   ⟨0x3000, 96, 0x17, 5, 2, 8, 0, [(0, 18446744073709551615)], 0, false⟩,
   ⟨0x3000, 96, 0x18, 5, 2, 8, 0, [(0, 18446744073709551615)], 0, false⟩,
   ⟨0x3000, 96, 0x19, 5, 2, 8, 0, [(0, 18446744073709551615)], 0, false⟩,
   ⟨0x3000, 96, 0x1A, 5, 2, 8, 0, [(0, 18446744073709551615)], 0, false⟩,
   ⟨0x3000, 96, 0x1B, 5, 2, 8, 0, [(0, 18446744073709551615)], 0, false⟩,
   ⟨0x3000, 96, 0x20, 10, 2, 32, 0, [], 256, false⟩,
   ⟨0x3000, 96, 0x30, 10, 2, 28, 0, [], 16, false⟩]

/-- The objects of indices 3100 to 31FF. -/
def index31 : List ObjRow :=
  [⟨0x3100, 4, 0x10, 10, 2, 17, 0, [], 96, true⟩,
   ⟨0x3100, 4, 0x11, 3, 5, 2, 65535, [(0, 3056)], 0, false⟩,
   ⟨0x3100, 4, 0x12, 2, 2, 1, 0, [(0, 2)], 0, false⟩,
   ⟨0x3100, 4, 0x13, 10, 2, 68, 0, [], 96, false⟩,
   ⟨0x3100, 4, 0x14, 10, 2, 68, 0, [], 96, false⟩]

/-- The objects of indices 5000 to 50FF. -/
def index50 : List ObjRow :=
  [⟨0x5000, 1, 0x00, 8, 2, 8, 0, [], 0, false⟩,
   ⟨0x5001, 1, 0x00, 2, 2, 1, 0, [(0, 4)], 0, false⟩,
   ⟨0x5002, 1, 0x00, 3, 2, 2, 0, [(0, 65535)], 0, false⟩,
   ⟨0x5003, 1, 0x00, 3, 2, 2, 0, [(0, 65535)], 0, false⟩,
   ⟨0x5004, 1, 0x00, 3, 3, 2, 1800, [(600, 1800)], 0, false⟩,
   ⟨0x5005, 1, 0x00, 10, 2, 1, 0, [], 64, true⟩,
   ⟨0x5006, 1, 0x00, 4, 2, 4, 0, [(0, 4294967295)], 0, false⟩,
   ⟨0x5007, 1, 0x00, 1, 4, 1, 0, [(1, 1)], 0, true⟩]

/-- The master index by the high byte of the index, which every object's row shares (cores and tiers run on). -/
def indexOf (hi : Nat) : List ObjRow :=
  match hi with
  | 0x10 => index10
  | 0x11 => index11
  | 0x12 => index12
  | 0x20 => index20
  | 0x21 => index21
  | 0x22 => index22
  | 0x23 => index23
  | 0x24 => index24
  | 0x25 => index25
  | 0x26 => index26
  | 0x27 => index27
  | 0x28 => index28
  | 0x29 => index29
  | 0x30 => index30
  | 0x31 => index31
  | 0x50 => index50
  | _ => []

/-- All blocks of the index, in address order. -/
def indexBlocks : List (List ObjRow) :=
  [index10, index11, index12, index20, index21, index22, index23, index24, index25, index26, index27, index28, index29, index30, index31, index50]

/-- The row of index:sub. -/
def findRow (idx sub : Nat) : Option ObjRow :=
  (indexOf (idx / 256)).find? (fun r => r.idx ≤ idx && idx < r.idx + r.n && r.sub == sub)

/-- The key of an object in the store. -/
def objKey (idx sub : Nat) : Nat := idx * 256 + sub

/-- The default of a key (0 where the index has no row). -/
def objDefault (k : Nat) : Nat :=
  match findRow (k / 256) (k % 256) with
  | some r => r.dflt
  | none => 0

/-- The largest value that a key's object holds, where counters stay. -/
def objMax (k : Nat) : Nat :=
  match findRow (k / 256) (k % 256) with
  | some r => if r.ty = 1 then 1 else 2 ^ (8 * r.size) - 1
  | none => 0

namespace Machine

/-- The value of a plain object. -/
def State.obj (s : State) (k : Nat) : Nat := Tab.get s.objs (objDefault k) k

/-- A plain object set, at most at its type's largest value. -/
def State.setObj (s : State) (k v : Nat) : State :=
  { s with objs := Tab.set s.objs (objDefault k) k (min v (objMax k)) }

/-- A counter advanced; it stays at its type's largest value (R85, R126). -/
def State.bump (s : State) (k n : Nat) : State := s.setObj k (s.obj k + n)

end Machine

end Sys2Proof
end

