-- ==== Sys2Proof/Machine/Book.lean ====
section
/-! DEFINITION. Adding an event to the scorebook (R449–R453, R456, Table 15.11). -/

namespace Sys2Proof.Machine

/-- The event codes of Table 15.11 with their severities. -/
def eventTable : List (Nat × Nat) :=
  [(0x1001, 2), (0x1002, 4), (0x1003, 7), (0x1004, 4), (0x1005, 3), (0x1006, 4), (0x1010, 4), (0x1011, 6),
   (0x1201, 3), (0x1202, 4), (0x1203, 5), (0x1204, 5), (0x1210, 5), (0x1211, 4), (0x1212, 5),
   (0x1220, 4), (0x1221, 2), (0x1222, 1), (0x2001, 2), (0x2002, 5), (0x2003, 4), (0x2004, 3),
   (0x2010, 4), (0x2011, 4), (0x2012, 5), (0x2101, 3), (0x2102, 2), (0x2103, 4), (0x2104, 5), (0x2105, 5), (0x2106, 6),
   (0x2107, 7), (0x2108, 5)] ++
  [(0x2201, 1), (0x2202, 4), (0x2203, 2), (0x2204, 3), (0x2205, 4), (0x2206, 4), (0x2207, 3), (0x2208, 4), (0x2209, 4),
   (0x2210, 3), (0x2211, 4), (0x2212, 3), (0x2214, 6), (0x2220, 4), (0x2221, 5), (0x2222, 4), (0x2223, 5),
   (0x22F1, 3), (0x22F2, 4), (0x22F3, 4), (0x22F4, 3), (0x22F5, 3), (0x2401, 3), (0x2410, 4), (0x2411, 5), (0x2412, 6),
   (0x2420, 3), (0x2421, 2), (0x2422, 3), (0x2423, 5), (0x2424, 6), (0x2430, 1), (0x2431, 5), (0x2432, 4), (0x2433, 6),
   (0x2434, 4), (0x2435, 5), (0x2436, 6)] ++
  [(0x2440, 4), (0x2441, 5), (0x2442, 2), (0x2443, 3), (0x2444, 5), (0x2450, 3), (0x2451, 6), (0x2452, 6), (0x2453, 4),
   (0x2460, 6), (0x2510, 5), (0x2511, 4), (0x2512, 5), (0x2513, 3), (0x2514, 2), (0x2520, 4), (0x2521, 2), (0x2522, 3),
   (0x2523, 3), (0x2525, 6), (0x2526, 5), (0x2527, 4), (0x2530, 3), (0x2531, 3), (0x2532, 5), (0x2601, 4), (0x2602, 3),
   (0x2701, 3), (0x2702, 2), (0x2703, 3), (0x2704, 4), (0x2705, 4), (0x2706, 5), (0x2707, 3), (0x2708, 4), (0x2709, 3),
   (0x270A, 6), (0x270B, 3)] ++
  [(0x2720, 4), (0x2721, 3), (0x2722, 4), (0x2723, 5), (0x2724, 5), (0x2725, 2), (0x2801, 6), (0x2802, 6),
   (0x2901, 3), (0x2902, 5), (0x2903, 5), (0x2904, 5), (0x2905, 3), (0x2906, 3), (0x2907, 5), (0x2908, 3), (0x2909, 4),
   (0x2910, 6)]

/-- The severity of a code. -/
def sevOf (code : Nat) : Nat := Tab.get eventTable 0 code

/-- A field of an event's data: its bytes and its value (R449). -/
abbrev EvField := Nat × Nat

/-- The next offset aligned to a size. -/
def alignUp (off n : Nat) : Nat := (off + n - 1) / n * n

/-- Fields packed in order, each aligned to its size; one that would end beyond byte 16 is left out; a value saturates
(R449). -/
def packEvent (off : Nat) : List EvField → List Byte
  | [] => List.replicate (16 - off) 0
  | (n, v) :: r =>
    let a := alignUp off n
    if 16 < a + n then packEvent off r
    else List.replicate (a - off) 0 ++ leBytes n (min v (2 ^ (8 * n) - 1)) ++ packEvent (a + n) r

/-- Sources of Table 15.9. -/
def srcCore (c : Nat) : Nat := c
def srcCluster (e : Nat) : Nat := 0x60 + e
def srcStack (k : Nat) : Nat := 0x68 + k
def srcTier (t : Nat) : Nat := 0x70 + t
def srcKeeper : Nat := 0x74
def srcSched : Nat := 0x75
def srcRouter : Nat := 0x76
def srcHost : Nat := 0x77
def srcPower : Nat := 0x78
def srcMgmt : Nat := 0x79
def srcSecurity : Nat := 0x7A
def srcLink (l : Nat) : Nat := 0x80 + l
def srcRole (r : Nat) : Nat := 0xC0 + r
def srcBook : Nat := 0xFE
def srcRom : Nat := 0xFF

/-- Object keys of the scorebook. -/
def oLastSeq : Nat := objKey 0x2800 3
def oDropped : Nat := objKey 0x2800 4
def oSuppressed : Nat := objKey 0x2800 5
def oRate : Nat := objKey 0x2800 7
def oBurst : Nat := objKey 0x2800 8

/-- The bytes of an entry (Table 15.7). -/
def Entry.bytes (e : Entry) : List Byte :=
  leBytes 2 e.code ++ leBytes 1 (e.suppressed * 8 + e.sev) ++ leBytes 1 e.source ++ leBytes 4 e.seq ++ leBytes 2 e.boot ++
    leBytes 6 e.cycles ++ e.data

/-- The entries without the oldest whose severity is at most `sev`, or none where there is no such entry (R452). -/
def dropOldest (sev : Nat) : List Entry → Option (List Entry)
  | [] => none
  | e :: r => if e.sev ≤ sev then some r else (dropOldest sev r).map (e :: ·)

/-- How many entries the scorebook holds (R452). -/
def bookSize : Nat := 8192

/-- An entry placed in the scorebook: the next sequence number, its code's suppressed count carried and reset; dropped
where every entry is more severe (R450–R452). -/
def State.placeEntry (s : State) (code sev source : Nat) (data : List Byte) : State :=
  let b := Tab.get s.book.buckets {} code
  let room := if s.book.entries.length < bookSize then some s.book.entries else dropOldest sev s.book.entries
  match room with
  | none => s.bump oDropped 1
  | some es =>
    let sq := s.obj oLastSeq + 1
    let e : Entry := {
      code := code, sev := sev, suppressed := min b.suppressed 31, source := source, seq := sq
      boot := s.flash.boot % 65536, cycles := s.dev.ctlCyc / 256 % 2 ^ 48, data := data }
    let bk := { s.book with
      entries := es ++ [e]
      toFlash := if 5 ≤ sev then s.book.toFlash ++ [e] else s.book.toFlash
      buckets := Tab.set s.book.buckets {} code { b with suppressed := 0 } }
    { s.setObj oLastSeq sq with book := bk }

/-- An event added by a unit: at severity 0 to 4 it spends a token of its code, or is suppressed (R451). -/
def State.event (s : State) (code source : Nat) (fields : List EvField) : State :=
  let sev := sevOf code
  let data := packEvent 0 fields
  if 5 ≤ sev then s.placeEntry code sev source data
  else
    let b := Tab.get s.book.buckets {} code
    if b.missing < s.obj oBurst then
      { s with book := { s.book with buckets := Tab.set s.book.buckets {} code { b with missing := b.missing + 1 } } }.placeEntry
        code sev source data
    else
      { s with book := { s.book with
          buckets := Tab.set s.book.buckets {} code { b with suppressed := b.suppressed + 1 } } }.bump oSuppressed 1

end Sys2Proof.Machine
end

