-- ==== Sys2Proof/Machine/Num.lean ====
section
/-! DEFINITION. Exact numbers and their rounding (R26–R29, R34, R35, R44, R45). -/

namespace Sys2Proof

/-- Is it NaN? -/
def Num.isNan : Num → Bool
  | .nan => true
  | _ => false

/-- Is it finite? -/
def Num.isFin : Num → Bool
  | .fin _ _ _ => true
  | _ => false

/-- Is it a zero? -/
def Num.isZero : Num → Bool
  | .fin _ m _ => m == 0
  | _ => false

/-- The sign, false for NaN. -/
def Num.sign : Num → Bool
  | .nan => false
  | .inf n => n
  | .fin n _ _ => n

def Num.neg : Num → Num
  | .nan => .nan
  | .inf n => .inf (!n)
  | .fin n m e => .fin (!n) m e

def Num.abs : Num → Num
  | .nan => .nan
  | .inf _ => .inf false
  | .fin _ m e => .fin false m e

/-- The plus zero. -/
def Num.zero : Num := .fin false 0 0

/-- An integer. -/
def Num.ofInt (v : Int) : Num := .fin (decide (v < 0)) v.natAbs 0

/-- The integer that ±m makes. -/
def signedInt (n : Bool) (m : Nat) : Int := if n then -(m : Int) else (m : Int)

/-- m × 2^e as a multiple of 2^q, for q ≤ e. -/
def shiftTo (m : Nat) (e q : Int) : Nat := m * 2 ^ (e - q).toNat

/-- The exact sum (R34, R35). A sum of zeros is −0 only when both are; an exact cancellation is +0. -/
def Num.add (x y : Num) : Num :=
  match x, y with
  | .nan, _ => .nan
  | _, .nan => .nan
  | .inf a, .inf b => if a = b then .inf a else .nan
  | .inf a, _ => .inf a
  | _, .inf b => .inf b
  | .fin a m e, .fin b n f =>
    if m = 0 ∧ n = 0 then .fin (a && b) 0 0
    else
      let q := min e f
      let v := signedInt a (shiftTo m e q) + signedInt b (shiftTo n f q)
      .fin (decide (v < 0)) v.natAbs q

def Num.sub (x y : Num) : Num := Num.add x (Num.neg y)

/-- The exact product; ∞ × 0 is NaN (R35). -/
def Num.mul (x y : Num) : Num :=
  match x, y with
  | .nan, _ => .nan
  | _, .nan => .nan
  | .inf a, .inf b => .inf (a != b)
  | .inf a, .fin b n _ => if n = 0 then .nan else .inf (a != b)
  | .fin a m _, .inf b => if m = 0 then .nan else .inf (a != b)
  | .fin a m e, .fin b n f => .fin (a != b) (m * n) (e + f)

/-- x × 2^k. -/
def Num.scale (x : Num) (k : Int) : Num :=
  match x with
  | .fin n m e => .fin n m (e + k)
  | y => y

/-- The exact sum of a list. -/
def Num.sum : List Num → Num
  | [] => Num.zero
  | x :: r => r.foldl Num.add x

/-- Exact comparison of two values that are not NaN, zeros equal: less. -/
def Num.lt (x y : Num) : Bool :=
  match x, y with
  | .nan, _ => false
  | _, .nan => false
  | .inf a, .inf b => a && !b
  | .inf a, _ => a
  | _, .inf b => !b
  | .fin a m e, .fin b n f =>
    let q := min e f
    decide (signedInt a (shiftTo m e q) < signedInt b (shiftTo n f q))

/-- Exact equality of values; NaN equals nothing. -/
def Num.eqv (x y : Num) : Bool :=
  !x.isNan && !y.isNan && !Num.lt x y && !Num.lt y x

/-- Total order of R79 without NaN: −0 below +0. -/
def Num.below (x y : Num) : Bool :=
  Num.lt x y || (Num.eqv x y && x.isZero && y.isZero && x.sign && !y.sign)

/-- How a magnitude is rounded: to nearest even (R44), or stochastically under r (R45). -/
inductive Rnd where
  | rne
  | stoch (r : Nat)
deriving DecidableEq, Repr

/-- m × 2^e rounded to a multiple of 2^q. -/
def Rnd.mag (r : Rnd) (m : Nat) (e q : Int) : Nat :=
  if q ≤ e then shiftTo m e q
  else
    let d := 2 ^ (q - e).toNat
    let n := m / d
    let f := m % d
    match r with
    | .rne => if 2 * f > d ∨ (2 * f = d ∧ n % 2 = 1) then n + 1 else n
    | .stoch h => if f ≠ 0 ∧ h < f * 65536 / d then n + 1 else n

/-- A floating-point layout of Table 02.2: mantissa bits, the exponent of its smallest subnormal, the code of its largest
finite value, the sign bit's place, its infinity and its canonical NaN. -/
structure FloatFmt where
  mb : Nat
  qmin : Int
  top : Nat
  sb : Nat
  inf : Option Nat
  nan : Nat
deriving DecidableEq, Repr

def fp32 : FloatFmt := ⟨23, -149, 0x7F7FFFFF, 31, some 0x7F800000, 0x7FC00000⟩
def bf16 : FloatFmt := ⟨7, -133, 0x7F7F, 15, some 0x7F80, 0x7FC0⟩
def fp16 : FloatFmt := ⟨10, -24, 0x7BFF, 15, some 0x7C00, 0x7E00⟩
def e4m3 : FloatFmt := ⟨3, -9, 0x7E, 7, none, 0x7F⟩
def e5m2 : FloatFmt := ⟨2, -16, 0x7B, 7, some 0x7C, 0x7E⟩
def e3m2 : FloatFmt := ⟨2, -4, 0x1F, 5, none, 0⟩
def e2m3 : FloatFmt := ⟨3, -3, 0x1F, 5, none, 0⟩
def e2m1 : FloatFmt := ⟨1, -1, 0x7, 3, none, 0⟩

/-- The value of a code (R26, R28, R29). -/
def FloatFmt.decode (f : FloatFmt) (c : Nat) : Num :=
  let n := c.testBit f.sb
  let g := c % 2 ^ f.sb
  if f.inf = some g then .inf n
  else if f.top < g then .nan
  else
    let ex := g / 2 ^ f.mb
    let mn := g % 2 ^ f.mb
    if ex = 0 then .fin n mn f.qmin else .fin n (2 ^ f.mb + mn) (f.qmin + (ex : Int) - 1)

/-- The code with a sign. -/
def FloatFmt.signed (f : FloatFmt) (n : Bool) (g : Nat) : Nat := if n then 2 ^ f.sb + g else g

/-- The magnitude code of m × 2^e rounded in an unbounded exponent range above the subnormals (R44, R45): codes above
`top` overflow. -/
def FloatFmt.mag (f : FloatFmt) (r : Rnd) (m : Nat) (e : Int) : Nat :=
  if m = 0 then 0
  else
    let q := max f.qmin ((Nat.log2 m : Int) + e - f.mb)
    r.mag m e q + (q - f.qmin).toNat * 2 ^ f.mb

/-- IEEE rounding into a format, overflow to ∞. -/
def FloatFmt.ieee (f : FloatFmt) (r : Rnd) (x : Num) : Nat :=
  match x with
  | .nan => f.nan
  | .inf n => f.signed n (f.inf.getD f.top)
  | .fin n m e =>
    let g := f.mag r m e
    if f.top < g then f.signed n (f.inf.getD f.top) else f.signed n g

/-- The value of an FP32 word. -/
def f32 (w : W32) : Num := fp32.decode w.toNat
/-- A value rounded to nearest even in FP32, with the special values of R35. -/
def toF32 (x : Num) : W32 := BitVec.ofNat 32 (fp32.ieee .rne x)
/-- FP32 arithmetic, each rounded once to nearest even. -/
def fadd (a b : W32) : W32 := toF32 (Num.add (f32 a) (f32 b))
def fsub (a b : W32) : W32 := toF32 (Num.sub (f32 a) (f32 b))
def fmul (a b : W32) : W32 := toF32 (Num.mul (f32 a) (f32 b))
def fma (a b c : W32) : W32 := toF32 (Num.add (Num.mul (f32 a) (f32 b)) (f32 c))

/-- An inexact value between q × 2^e and (q + 1) × 2^e, or exactly the first: a sticky bit below, for one rounding. -/
def sticky (n : Bool) (q : Nat) (e : Int) (inexact : Bool) : Num :=
  .fin n (2 * q + (if inexact then 1 else 0)) (e - 1)

/-- The quotient, for one rounding (R123); x/0 is ±∞ and 0/0, ∞/∞ are NaN, as IEEE 754 has it. -/
def Num.div (x y : Num) : Num :=
  match x, y with
  | .nan, _ => .nan
  | _, .nan => .nan
  | .inf _, .inf _ => .nan
  | .inf a, .fin b _ _ => .inf (a != b)
  | .fin a _ _, .inf b => .fin (a != b) 0 0
  | .fin a m e, .fin b n f =>
    if n = 0 then (if m = 0 then .nan else .inf (a != b))
    else
      let k := 64 + Nat.log2 n
      sticky (a != b) (m * 2 ^ k / n) (e - f - k) (m * 2 ^ k % n ≠ 0)

/-- The integer square root, by bits. -/
def isqrt (v : Nat) : Nat → Nat → Nat
  | 0, r => r
  | k + 1, r => if (r + 2 ^ k) * (r + 2 ^ k) ≤ v then isqrt v k (r + 2 ^ k) else isqrt v k r

/-- The square root, for one rounding. -/
def Num.sqrt (x : Num) : Num :=
  match x with
  | .nan => .nan
  | .inf n => if n then .nan else .inf false
  | .fin n m e =>
    if m = 0 then .fin n 0 0
    else if n then .nan
    else
      let k : Nat := if (e % 2 = 0) then 128 else 129
      let v := m * 2 ^ k
      let r := isqrt v (Nat.log2 v / 2 + 1) 0
      sticky false r ((e - k) / 2) (r * r ≠ v)

/-- 1/√x, for one rounding (R123). -/
def Num.rsqrt (x : Num) : Num :=
  match x with
  | .nan => .nan
  | .inf n => if n then .nan else .fin false 0 0
  | .fin n m e =>
    if m = 0 then .inf n
    else if n then .nan
    else
      let k : Nat := (if (e % 2 = 0) then 128 else 129) + 2 * Nat.log2 m
      let v := 2 ^ k / m
      let r := isqrt v (Nat.log2 v / 2 + 1) 0
      sticky false r ((-(e : Int) - k) / 2) (r * r * m ≠ 2 ^ k)

/-- Fixed-point fraction bits of the functions below; enough that no FP32 argument's exact result lies within the error of
a rounding boundary. -/
def fracBits : Nat := 256

/-- Σ over odd j of z^j / j, `n` terms, in fixed point: artanh z. -/
def artanhTerms (z2 : Nat) : Nat → Nat → Nat → Nat
  | 0, _, _ => 0
  | n + 1, zp, j => zp / j + artanhTerms z2 n (zp * z2 / 2 ^ fracBits) (j + 2)

/-- ln of num / den in fixed point, for 1 ≤ num / den < 2. -/
def lnFixed (num den : Nat) : Nat :=
  let z := (num - den) * 2 ^ fracBits / (num + den)
  2 * artanhTerms (z * z / 2 ^ fracBits) 96 z 1

/-- ln 2 in fixed point. -/
def ln2 : Nat := 2 * artanhTerms (2 ^ fracBits / 9) 96 (2 ^ fracBits / 3) 1

/-- Σ y^j / j! in fixed point. -/
def expTerms (y : Nat) : Nat → Nat → Nat → Nat
  | 0, _, _ => 0
  | n + 1, t, j => t + expTerms y n (t * y / 2 ^ fracBits / j) (j + 1)

/-- 2^x, for one rounding in FP32 (R123). Below 2^−30 in magnitude the rounded result is 1; above 2^9 it overflows or
vanishes. -/
def Num.exp2 (x : Num) : Num :=
  match x with
  | .nan => .nan
  | .inf n => if n then .fin false 0 0 else .inf false
  | .fin n m e =>
    if m = 0 ∨ (Nat.log2 m : Int) + e < -30 then .fin false 1 0
    else if 9 ≤ (Nat.log2 m : Int) + e then (if n then .fin false 1 (-400) else .inf false)
    else
      let v := signedInt n (m * 2 ^ (64 + e).toNat / 2 ^ (-(64 + e)).toNat)
      let i := v / (2 : Int) ^ 64
      let f := (v % (2 : Int) ^ 64).toNat
      if f = 0 then .fin false 1 i
      else .fin false (2 * expTerms (f * ln2 / 2 ^ 64) 80 (2 ^ fracBits) 1 + 1) (i - fracBits - 1)

/-- log₂ x, for one rounding in FP32 (R123). -/
def Num.log2 (x : Num) : Num :=
  match x with
  | .nan => .nan
  | .inf n => if n then .nan else .inf false
  | .fin n m e =>
    if m = 0 then .inf true
    else if n then .nan
    else
      let k := Nat.log2 m
      let i : Int := k + e
      if m = 2 ^ k then Num.ofInt i
      else
        let v : Int := i * (2 : Int) ^ fracBits + (lnFixed m (2 ^ k) * 2 ^ fracBits / ln2 : Nat)
        .fin (decide (v < 0)) v.natAbs (-(fracBits : Int))

end Sys2Proof
end

