-- ==== Sys2Proof/Machine/Fmt.lean ====
section
/-! DEFINITION. The formats of Table 02.1 and every conversion between them (R24–R54, R473). -/

namespace Sys2Proof

/-- An element of a format: a floating-point code or a two's-complement integer of a width, worth 2^scale. -/
inductive Elem where
  | flt (f : FloatFmt)
  | int (bits : Nat) (scale : Int)
deriving DecidableEq, Repr

/-- The element of a format code (Table 02.1); S2 and P2 give that of their words. -/
def elemOf (code : Nat) : Elem :=
  match code with
  | 0x00 => .flt fp32
  | 0x01 => .flt bf16
  | 0x02 => .flt fp16
  | 0x03 => .flt e4m3
  | 0x04 => .flt e5m2
  | 0x05 => .flt e2m1
  | 0x06 => .int 8 0
  | 0x07 => .int 4 0
  | 0x08 => .flt e4m3
  | 0x09 => .flt e5m2
  | 0x0A => .flt e3m2
  | 0x0B => .flt e2m3
  | 0x0C => .flt e2m1
  | 0x0D => .int 8 (-6)
  | 0x0E => .flt bf16
  | _ => .flt fp32

/-- Bits per element (Table 02.1), scales apart. -/
def fmtBits (code : Nat) : Nat :=
  match code with
  | 0x00 => 32
  | 0x01 => 16
  | 0x02 => 16
  | 0x05 => 4
  | 0x07 => 4
  | 0x0A => 6
  | 0x0B => 6
  | 0x0C => 4
  | 0x0E => 32
  | 0x0F => 64
  | _ => 8

/-- The MX formats. -/
def isMx (code : Nat) : Bool := 0x08 ≤ code && code ≤ 0x0D
/-- A listed format code: every one may be a drain target. -/
def isFmt (code : Nat) : Bool := code ≤ 0x0F

/-- A two's-complement field read as an integer. -/
def toSigned (bits v : Nat) : Int := (BitVec.ofNat bits v).toInt

/-- An integer as a two's-complement field. -/
def ofSigned (bits : Nat) (v : Int) : Nat := (BitVec.ofInt bits v).toNat

/-- The value of an element code, its block's scale apart. -/
def Elem.decode (k : Elem) (c : Nat) : Num :=
  match k with
  | .flt f => f.decode c
  | .int b s => (Num.ofInt (toSigned b c)).scale s

/-- The value of an S2 element (R54) or a P2 element (R52), and of any other format's code. -/
def decodeCode (code c : Nat) : Num :=
  if code = 0x0E then Num.add (bf16.decode (c % 65536)) (bf16.decode (c / 65536))
  else if code = 0x0F then Num.add (fp32.decode (c % 2 ^ 32)) (fp32.decode (c / 2 ^ 32))
  else (elemOf code).decode c

/-- Element `i` of packed elements `w` bits wide (R33). -/
def unpackAt (w : Nat) (bs : List Byte) (i : Nat) : Nat :=
  let b := i * w / 8
  (leNat ((bs.drop b).take ((w + 15) / 8)) / 2 ^ (i * w % 8)) % 2 ^ w

/-- Elements packed little-endian (R33). -/
def packNat (w : Nat) : List Nat → Nat
  | [] => 0
  | c :: r => c % 2 ^ w + 2 ^ w * packNat w r

def packBytes (w : Nat) (cs : List Nat) : List Byte := leBytes ((cs.length * w + 7) / 8) (packNat w cs)

/-- The value of an E8M0 scale byte (R30). -/
def e8m0 (x : Nat) : Option Int := if x = 0xFF then none else some ((x : Int) - 127)

/-- An element under its block's scale; NaN under scale 0xFF (R30). -/
def scaled (x : Num) (scale : Nat) : Num :=
  match e8m0 scale with
  | none => .nan
  | some k => x.scale k

/-- The hash h of R45. -/
def hashStep (h w : W64) : W64 :=
  let g := (h ^^^ w) * 0x9E3779B97F4A7C15#64
  g ^^^ (g >>> 29)

def hash3 (a b c : W64) : W64 := hashStep (hashStep (hashStep 0x243F6A8885A308D3#64 a) b) c

/-- r of R45: bits [63:48] of h(a, b, c). -/
def stochR (a b c : Nat) : Nat :=
  (hash3 (BitVec.ofNat 64 a) (BitVec.ofNat 64 b) (BitVec.ofNat 64 c)).toNat / 2 ^ 48

/-- What became of an element (Table 02.4, R56). -/
structure Conv where
  code : Nat := 0
  clipped : Bool := false
  nanIn : Bool := false
  zeroed : Bool := false
  blockNan : Bool := false
  exact : Bool := true
deriving DecidableEq, Repr

/-- The drain modes of Table 02.3: 0 SAT, 1 IEEE, 2 SATCLEAN. -/
def modeIeee : Nat := 1
def modeClean : Nat := 2

/-- A floating-point target outside a block: kinds F and E, and plain E2M1 of kind I (Table 02.4). -/
def convFlt (f : FloatFmt) (mode : Nat) (r : Rnd) (t : Num) : Conv :=
  let noNan := f.nan = 0
  match t with
  | .nan =>
    if noNan || mode = modeClean then { code := 0, nanIn := true, zeroed := true, exact := false }
    else { code := f.nan, nanIn := true, exact := false }
  | .inf n =>
    if mode = modeIeee && !noNan then
      match f.inf with
      | some g => { code := f.signed n g, exact := false }
      | none => { code := f.nan, exact := false }
    else { code := f.signed n f.top, clipped := true, exact := false }
  | .fin n m e =>
    let g := f.mag r m e
    if f.top < g then
      if mode = modeIeee && !noNan then
        match f.inf with
        | some i => { code := f.signed n i, clipped := true, exact := false }
        | none => { code := f.nan, clipped := true, exact := false }
      else { code := f.signed n f.top, clipped := true, exact := false }
    else { code := f.signed n g }

/-- The clip limits of an integer target (R37). -/
def intLow (bits : Nat) (z : Int) : Int := if z = 0 then 1 - (2 : Int) ^ (bits - 1) else -(2 : Int) ^ (bits - 1)
def intHigh (bits : Nat) : Int := (2 : Int) ^ (bits - 1) - 1

/-- An INT8 or INT4 target with zero point z (R37, R41, kind I of Table 02.4). -/
def convInt (bits : Nat) (z : Int) (r : Rnd) (t : Num) : Conv :=
  match t with
  | .nan => { code := ofSigned bits z, nanIn := true, zeroed := true, exact := false }
  | .inf n => { code := ofSigned bits (if n then intLow bits z else intHigh bits), clipped := true, exact := false }
  | .fin n m e =>
    let v := signedInt n (r.mag m e 0) + z
    if v < intLow bits z then { code := ofSigned bits (intLow bits z), clipped := true, exact := false }
    else if intHigh bits < v then { code := ofSigned bits (intHigh bits), clipped := true, exact := false }
    else { code := ofSigned bits v }

/-- The magnitude code of a block element: of a float, or of a 2^−6 integer (R31). -/
def Elem.magCode (k : Elem) (r : Rnd) (m : Nat) (e : Int) : Nat :=
  match k with
  | .flt f => f.mag r m e
  | .int _ s => r.mag m e s

/-- The largest magnitude code. -/
def Elem.top (k : Elem) : Nat :=
  match k with
  | .flt f => f.top
  | .int b _ => 2 ^ (b - 1) - 1

/-- A magnitude code with a sign. -/
def Elem.signed (k : Elem) (n : Bool) (g : Nat) : Nat :=
  match k with
  | .flt f => f.signed n g
  | .int b _ => ofSigned b (signedInt n g)

/-- The exponent of an element's largest finite value. -/
def Elem.topExp (k : Elem) : Int :=
  match k with
  | .flt f => f.qmin + ((f.top / 2 ^ f.mb : Nat) : Int) - 1 + f.mb
  | .int b s => (b : Int) - 2 + s

/-- The block scale exponent X of R49 from the largest finite magnitude of the block. -/
def blockExp (k : Elem) (m : Nat) (e : Int) : Int :=
  if m = 0 then 0
  else
    let x0 := (Nat.log2 m : Int) + e - k.topExp
    let x := if k.magCode .rne m (e - x0) ≤ k.top then x0 else x0 + 1
    max (-127) (min 127 x)

/-- The largest finite magnitude of a list, as m × 2^e. -/
def maxFin (ts : List Num) : Nat × Int :=
  ts.foldl (fun b t =>
    match t with
    | .fin _ m e => if Num.lt (.fin false b.1 b.2) (.fin false m e) then (m, e) else b
    | _ => b) (0, 0)

/-- An element of an MX block whose scale exponent is X (kind M of Table 02.4, R50; E5M2 elements are kind F). DEDUCED: with X
forced to 127, an element that nearest-even carries above the largest element counts as clipped though stochastic rounding does so too: R50's
exception is read as one for elements that only stochastic rounding carries. -/
def convMx (k : Elem) (mode : Nat) (r : Rnd) (x : Int) (t : Num) : Conv :=
  if k = .flt e5m2 then
    match t with
    | .fin n m e =>
      if k.magCode .rne m (e - x) ≤ k.top then { code := k.signed n (min k.top (k.magCode r m (e - x))) }
      else convFlt e5m2 mode r (.fin n m (e - x))
    | _ => convFlt e5m2 mode r t
  else
    match t with
    | .nan =>
      if mode = modeClean then { code := 0, nanIn := true, zeroed := true, exact := false }
      else { code := 0, nanIn := true, blockNan := true, exact := false }
    | .inf n =>
      if mode = modeIeee then { code := 0, blockNan := true, exact := false }
      else { code := k.signed n k.top, clipped := true, exact := false }
    | .fin n m e =>
      let ovf := k.top < k.magCode .rne m (e - x) && k.top < k.magCode r m (e - x)
      { code := k.signed n (min k.top (k.magCode r m (e - x))), clipped := ovf, exact := !ovf }

/-- A block: its scale byte and its elements (R49, R50, R473). -/
def convBlock (k : Elem) (mode : Nat) (ts : List (Num × Rnd)) : Nat × List Conv :=
  let mx := maxFin (ts.map Prod.fst)
  let x := blockExp k mx.1 mx.2
  let cs := ts.map (fun t => convMx k mode t.2 x t.1)
  if cs.any Conv.blockNan then (0xFF, cs.map (fun c => { nanIn := c.nanIn, blockNan := true, exact := false }))
  else ((x + 127).toNat, cs)

/-- A pair target (R47, R52, R54): hi by Table 02.4, lo the remainder where no row acted. -/
def convPair (f : FloatFmt) (mode : Nat) (t : Num) : Conv :=
  let h := convFlt f mode .rne t
  if h.exact then
    let lo := f.ieee .rne (Num.sub t (f.decode h.code))
    { h with code := h.code + 2 ^ (f.sb + 1) * lo }
  else h

/-- An element of a target outside the MX formats. -/
def convOne (code mode : Nat) (z : Int) (r : Rnd) (t : Num) : Conv :=
  if code = 0x0E then convPair bf16 mode t
  else if code = 0x0F then convPair fp32 mode t
  else
    match elemOf code with
    | .flt f => convFlt f mode r t
    | .int b _ => convInt b z r t

/-- Is a conversion one of the exact ones of Table 02.5? -/
def exactConv (src dst : Nat) : Bool :=
  match src with
  | 0x03 => [0x00, 0x01, 0x02].elem dst
  | 0x04 => [0x00, 0x01, 0x02].elem dst
  | 0x05 => [0x00, 0x01, 0x02, 0x03].elem dst
  | 0x06 => [0x00, 0x01, 0x02].elem dst
  | 0x07 => [0x00, 0x01, 0x02, 0x03, 0x06].elem dst
  | 0x01 => dst == 0x00
  | 0x02 => dst == 0x00
  | 0x0E => dst == 0x0F
  | _ => false

/-- A conversion outside the drain (R24, R51): an exact one keeps ∞ and NaN whatever the mode. -/
def convert (src dst mode : Nat) (r : Rnd) (t : Num) : Conv :=
  if exactConv src dst then convOne dst modeIeee 0 r t else convOne dst mode 0 r t

/-- A row or list of elements into a target, with its scale bytes, one per block of 32. -/
def convRow (code mode : Nat) (z : Int) (ts : List (Num × Rnd)) : List Nat × List Conv :=
  if isMx code then
    let b := convBlock (elemOf code) mode ts
    ([b.1], b.2)
  else ([], ts.map (fun t => convOne code mode z t.2 t.1))

/-- An exact value folded into a P2 pair (hi, lo): the two-sum of R53, reset of lo where the sum is not finite. -/
def pairAdd (p : W32 × W32) (g : W32) : W32 × W32 :=
  let s := fadd p.1 g
  let bp := fsub s p.1
  let e := fadd (fsub p.1 (fsub s bp)) (fsub g bp)
  let lo := fadd p.2 e
  if (f32 s).isFin then (s, lo) else (s, 0)

/-- The spill's fold of an accumulator pair into a slot's pair (R71). -/
def spillAdd (p : W32 × W32) (x xl : W32) : W32 × W32 :=
  let t := fadd p.1 x
  let bp := fsub t p.1
  let e := fadd (fsub p.1 (fsub t bp)) (fsub x bp)
  let l := fadd (fadd p.2 e) xl
  if (f32 t).isFin then (t, l) else (t, 0)

/-- The exact value of a P2 pair. -/
def pairVal (p : W32 × W32) : Num := Num.add (f32 p.1) (f32 p.2)

end Sys2Proof
end

