-- ==== Sys2Proof/Machine/Ops.lean ====
section
/-! DEFINITION. Named operations shared by the meanings: how a command's effect is answered, cores and threads, pages and
device memory, completion records. -/

namespace Sys2Proof.Machine

/-- The outcome of a command. -/
abbrev Out := Host.Outcome State Fault Refusal

/-- How every meaning answers: the effect runs on the state without the waiting commands and with no outputs yet; the queue
stays as it was and the effect's outputs go before the earlier ones. -/
def commit (s : State) (f : State → State) : Out :=
  let t := f { s with pending := [], out := [] }
  .next { t with pending := s.pending, out := t.out ++ s.out }

/-- An effect under a condition. -/
def State.when (s : State) (b : Bool) (f : State → State) : State := if b then f s else s

/-- An output sent. -/
def State.emit (s : State) (o : Output) : State := { s with out := o :: s.out }

/-- A fold over a list of effects. -/
def State.forAll {α : Type} (s : State) (l : List α) (f : State → α → State) : State := l.foldl f s

/-! ## Object keys -/

def oState : Nat := objKey 0x1001 0
def oCause : Nat := objKey 0x1001 1
def oPowerOff : Nat := objKey 0x1001 3
def oDevId : Nat := objKey 0x2440 1
def oFabricOn : Nat := objKey 0x2440 2
def oCore (c sub : Nat) : Nat := objKey (0x3000 + c) sub
def oTier (t sub : Nat) : Nat := objKey (0x3100 + t) sub
def oLink (l sub : Nat) : Nat := objKey (0x2200 + l) sub

/-- Device states of 1001:00. -/
def stReset : Nat := 0x00
def stReady : Nat := 0x70
def stService : Nat := 0x80
def stStopping : Nat := 0x90
def stStopped : Nat := 0xA0
def stFault : Nat := 0xF0

def State.devState (s : State) : Nat := s.obj oState
/-- READY or SERVICE: the data plane runs. -/
def State.running (s : State) : Bool := s.devState == stReady || s.devState == stService

/-- Does a core's clock run? Not while its cluster's clocks are stopped (R433, R435), nor while it is out of service (R404); in FAULT
no data-plane work issues (R384). -/
def State.clocked (s : State) (c : Nat) : Bool :=
  !s.power.tripped && s.devState != stFault && s.devState != stStopped && s.obj (oCore c 1) == 0

/-- May the data plane take new work (R384, R433)? -/
def State.working (s : State) : Bool := !s.power.tripped && s.devState != stFault

/-- SERVICE for a change (R403): the device leaves READY while a change is in progress. -/
def State.beginService (s : State) (change : Nat) : State :=
  let s1 := { s with dev := { s.dev with changes := if s.dev.changes.elem change then s.dev.changes else s.dev.changes ++ [change] } }
  if s1.devState = stReady then s1.setObj oState stService else s1

/-- A change ends; READY returns when no other is in progress (R403). -/
def State.endService (s : State) (change : Nat) : State :=
  let s1 := { s with dev := { s.dev with changes := s.dev.changes.filter (fun x => x != change) } }
  if s1.dev.changes.isEmpty ∧ s1.devState = stService then s1.setObj oState stReady else s1

/-! ## Cores and threads -/

def State.core (s : State) (c : Nat) : Core := Tab.get s.cores {} c
def State.setCore (s : State) (c : Nat) (k : Core) : State := { s with cores := Tab.set s.cores {} c k }
def State.modCore (s : State) (c : Nat) (f : Core → Core) : State := s.setCore c (f (s.core c))
def Core.thread (k : Core) (t : Nat) : Thread := Tab.get k.threads {} t
def Core.setThread (k : Core) (t : Nat) (x : Thread) : Core := { k with threads := Tab.set k.threads {} t x }
def State.thread (s : State) (c t : Nat) : Thread := (s.core c).thread t
def State.setThread (s : State) (c t : Nat) (x : Thread) : State := s.modCore c (fun k => k.setThread t x)
def State.modThread (s : State) (c t : Nat) (f : Thread → Thread) : State := s.setThread c t (f (s.thread c t))

/-- A scalar register; s0 reads 0 (R93). -/
def Thread.sreg (x : Thread) (r : Nat) : W64 := if r = 0 then 0 else Tab.get x.s 0 r
/-- A scalar register written; a write to s0 is ignored. -/
def Thread.setS (x : Thread) (r : Nat) (v : W64) : Thread := if r = 0 then x else { x with s := Tab.set x.s 0 r v }
def Thread.vreg (x : Thread) (r : Nat) : VReg := Tab.get x.v 0 r
def Thread.setV (x : Thread) (r : Nat) (v : VReg) : Thread := { x with v := Tab.set x.v 0 r v }
/-- A predicate register; p0 reads all ones (R93). -/
def Thread.preg (x : Thread) (r : Nat) : W64 := if r = 0 then BitVec.allOnes 64 else Tab.get x.p 0 r
def Thread.setP (x : Thread) (r : Nat) (v : W64) : Thread := if r = 0 then x else { x with p := Tab.set x.p 0 r v }

/-- The cycle count of a core's cluster (twelve cores each, R1). -/
def clusterOf (c : Nat) : Nat := c / 12
def State.cycles (s : State) (c : Nat) : Nat := Tab.get s.dev.cyc 0 (clusterOf c)

/-! ## Pages and device memory -/

/-- A page is keyed by its base in 64 KiB units. -/
def pageKey (a : Nat) : Nat := a / 65536

/-- Is a page's data in host slots that may be read? A lost page's may not (R344). -/
def Page.away (p : Page) : Bool := p.loc == 3 && !p.lost

/-- Bytes of a page (R165). -/
def Page.bytes (p : Page) : Nat := if p.big then 2097152 else 65536

/-- The valid leaf that a walk of a local address reaches (R166). -/
def State.pageAt (s : State) (a : Nat) : Option Page :=
  match Tab.get s.keeper.pages none (pageKey a) with
  | some p => some p
  | none =>
    match Tab.get s.keeper.pages none (a / 2097152 * 32) with
    | some p => if p.big then some p else none
    | none => none

def State.setPage (s : State) (p : Page) : State :=
  { s with keeper := { s.keeper with pages := Tab.set s.keeper.pages none (pageKey p.base) (some p) } }

/-- The device ID field of a global address, and its local part (R314). -/
def devOf (ga : W64) : Nat := ga.toNat / 2 ^ 48 % 16384
def localOf (ga : W64) : Nat := ga.toNat % 2 ^ 48
def globalOf (dev a : Nat) : W64 := BitVec.ofNat 64 (dev * 2 ^ 48 + a % 2 ^ 48)

/-- This device's number in global addresses: 2440:01, or 0 while there is none (R314). -/
def State.ownDev (s : State) : Nat := if s.obj oDevId = 0xFFFF then 0 else s.obj oDevId
def State.isLocal (s : State) (ga : W64) : Bool := devOf ga == s.ownDev

/-- The league of an open context; 0 for none (R219). -/
def State.leagueOf (s : State) (ctx : Nat) : Nat :=
  match Tab.get s.sched.ctxs none ctx with
  | some c => c.league
  | none => 0

/-- The fault code of a use of a page by context x with a league (R167): 0 for an allowed one. League 0 joins no league. -/
def useCode (p : Option Page) (x league pageLeague : Nat) (wr : Bool) : Nat :=
  match p with
  | none => 0x05
  | some g =>
    if g.ctx = x ∨ (g.sealed ∧ league ≠ 0 ∧ pageLeague = league) then
      if wr ∧ (g.sealed ∨ !g.wr) then 0x06 else 0
    else 0x05

/-- R167 at this device for a local address. -/
def State.useLocal (s : State) (x : Nat) (a : Nat) (wr : Bool) : Nat :=
  match s.pageAt a with
  | none => 0x05
  | some g => useCode (some g) x (s.leagueOf x) (s.leagueOf g.ctx) wr

/-- Is any 64 B sector of a range poisoned (R171)? -/
def poisonedIn (t : Tab Bool) (a n : Nat) : Bool :=
  if n = 0 then false
  else (List.range ((a + n - 1) / 64 - a / 64 + 1)).any (fun i => Tab.get t false (a / 64 + i))

/-- A sector is poisoned, or a whole one is written clean (R171). -/
def State.setPoison (s : State) (sector : Nat) (b : Bool) : State :=
  { s with poison := Tab.set s.poison false sector b }

/-- The bytes of a local range (R178: what was never written reads 0). -/
def State.readMem (s : State) (a n : Nat) : List Byte := Tab.readBytes s.mem a n

/-- The dead-line bit of the line of a local address: block of the page, and line of the block (R149). -/
def Page.deadAt (p : Page) (a : Nat) : Bool :=
  (Tab.get p.dmask 0 ((a - p.base) / 65536)).toNat.testBit (a / 4096 % 16)

def Page.setDead (p : Page) (a : Nat) (b : Bool) : Page :=
  let m := Tab.get p.dmask 0 ((a - p.base) / 65536)
  let bit : W16 := (1 : W16) <<< (a / 4096 % 16)
  { p with dmask := Tab.set p.dmask 0 ((a - p.base) / 65536) (if b then m ||| bit else m &&& ~~~bit) }

/-- Poison cleared on every 64 B sector that a write of n bytes at a covers whole. -/
def clearPoison (t : Tab Bool) (a n : Nat) : Tab Bool :=
  if n = 0 then t
  else (List.range ((a + n - 1) / 64 - a / 64 + 1)).foldl (fun t i =>
    let sec := a / 64 + i
    if a ≤ 64 * sec ∧ 64 * sec + 64 ≤ a + n then Tab.set t false sec false else t) t

/-- A write of bytes at a local address: a dead line becomes an ordinary one, an unbacked page gets its frame, an off-load in
progress is cancelled (R149, R178, R187). Poison stays except on sectors written whole (R171). -/
def State.writeMem (s : State) (a : Nat) (bs : List Byte) : State :=
  let s1 := { s with mem := Tab.writeBytes s.mem a bs, poison := clearPoison s.poison a bs.length }
  match s1.pageAt a with
  | none => s1
  | some p =>
    let p1 := if p.deadAt a then p.setDead a false else p
    let p2 := if p1.loc = 4 then { p1 with loc := 0 } else p1
    if p2 = p then s1 else s1.setPage p2

/-- A write under a byte mask: only the bytes whose mask is true. -/
def State.writeMasked (s : State) (a : Nat) (bs : List (Byte × Bool)) : State :=
  if bs.all Prod.snd then s.writeMem a (bs.map Prod.fst)
  else s.writeMem a ((List.zip bs (s.readMem a bs.length)).map (fun x => if x.1.2 then x.1.1 else x.2))

/-- A little-endian number at a local address. -/
def State.memNat (s : State) (a n : Nat) : Nat := leNat (s.readMem a n)

/-- The atomic operations of amo and amof (Table 04.10): add, swap, cas, max, maxu. -/
def amoResult (op : Nat) (old b c : W64) : W64 :=
  match op with
  | 0 => old + b
  | 1 => b
  | 2 => if old = c then b else old
  | 3 => if old.slt b then b else old
  | _ => if old < b then b else old

/-! ## Queues and completion records -/

def State.queue (s : State) (q : Nat) : Queue := Tab.get s.sched.queues {} q
def State.setQueue (s : State) (q : Nat) (x : Queue) : State :=
  { s with sched := { s.sched with queues := Tab.set s.sched.queues {} q x } }

/-- A field of a register, bits [hi:lo]. -/
def bitsOf (v hi lo : Nat) : Nat := v / 2 ^ lo % 2 ^ (hi - lo + 1)

def Queue.lsz (x : Queue) : Nat := bitsOf x.ctl.toNat 20 16
def Queue.ver (x : Queue) : Nat := bitsOf x.ctl.toNat 9 8
/-- Ring entries. -/
def Queue.size (x : Queue) : Nat := 2 ^ x.lsz
/-- The record size of Table 07.3. -/
def Queue.recSize (x : Queue) : Nat := if x.ver = 1 then 16 else 32

/-- The bytes of a completion record (Table 07.3). -/
def recordBytes (x : Queue) (d : Desc) (status result : Nat) : List Byte :=
  if x.ver = 1 then leBytes 4 d.tag ++ leBytes 2 status ++ leBytes 2 0 ++ leBytes 8 result
  else leBytes 4 d.n ++ leBytes 4 d.tag ++ leBytes 2 status ++ leBytes 1 d.op ++ leBytes 1 0 ++ leBytes 2 d.ctx ++
    leBytes 2 0 ++ leBytes 4 d.step ++ leBytes 4 x.c ++ leBytes 8 result

/-- A count modulo 2³². -/
def wrap32 (n : Nat) : Nat := n % 2 ^ 32

/-- May the T96 issue requests to host memory (R336)? -/
def State.hostOpen (s : State) : Bool := s.host.busMaster && !s.host.d3

/-- Is any queue running or any host slot in use? -/
def State.hostInUse (s : State) : Bool :=
  s.sched.queues.any (fun e => e.2.state == 1) || s.host.pool.any (fun e => !e.2.used.isEmpty)

/-- A wait for the host begins (R336): event 0x22F4 where a queue runs or a slot is in use. -/
def State.hostWait (s : State) : State :=
  if s.host.blocked then s
  else
    ({ s with host := { s.host with blocked := true } }).when s.hostInUse
      (fun s => s.event 0x22F4 srcHost [(1, if s.host.busMaster then 2 else 1)])

/-- A descriptor's record written (R214): at slot D mod 2^lsz, D advanced, D at the counter address; a draining queue with none
left becomes off (R210). -/
def State.writeRecord (s : State) (q n status result : Nat) : State :=
  let x := s.queue q
  match x.descs.find? (fun d => d.n == n) with
  | none => s
  | some d =>
    let slot := x.cqBase.toNat / 16 * 16 + x.d % x.size * x.recSize
    let x1 := { x with d := x.d + 1, descs := x.descs.filter (fun e => e.n != n) }
    let x2 := if x1.state = 3 ∧ x1.descs.isEmpty then { x1 with state := 0 } else x1
    ((s.setQueue q x2).emit (.hostWrite (BitVec.ofNat 64 slot) (recordBytes x d status result))).emit
      (.hostWrite (BitVec.ofNat 64 (x.cqCnt.toNat / 8 * 8)) (leBytes 8 (x.d + 1)))

/-- A descriptor's completion: its record, at once or when the host may be reached again (R336). -/
def State.complete (s : State) (q n status result : Nat) : State :=
  if s.hostOpen then s.writeRecord q n status result
  else { s with sched := { s.sched with heldDone := s.sched.heldDone ++ [(q, n, status, result)] } }.hostWait

/-- Several descriptors completed with one status and result. -/
def State.completeAll (s : State) (cmds : List (Nat × Nat)) (status result : Nat) : State :=
  s.forAll cmds (fun s c => s.complete c.1 c.2 status result)

/-- A queue halted (Table 07.8, Table 07.11): the code, and event 0x2520. -/
def State.haltQueue (s : State) (q code : Nat) : State :=
  let x := s.queue q
  (s.setQueue q { x with state := 2, halt := code }).event 0x2520 srcSched
    [(1, q), (2, code), (4, x.p), (4, x.d)]

end Sys2Proof.Machine
end

