-- ==== Sys2Proof/Machine/Pages.lean ====
section
/-! DEFINITION. The keeper's books: pools, page release, regions and what an invalidation drops. -/

namespace Sys2Proof.Machine

/-- Pools of 2401:00: 0 resident, 1 stash, 2 HBM, 3 host. -/
def poolOf (loc : Nat) : Nat :=
  match loc with
  | 1 => 0
  | 2 => 1
  | 3 => 3
  | _ => 2

def State.pool (s : State) (i : Nat) : Pool :=
  match i with
  | 0 => s.keeper.resident
  | 1 => s.keeper.stash
  | 2 => s.keeper.hbm
  | _ => s.keeper.host

def State.setPool (s : State) (i : Nat) (p : Pool) : State :=
  match i with
  | 0 => { s with keeper := { s.keeper with resident := p } }
  | 1 => { s with keeper := { s.keeper with stash := p } }
  | 2 => { s with keeper := { s.keeper with hbm := p } }
  | _ => { s with keeper := { s.keeper with host := p } }

/-- Frames of 64 KiB moved between the states of a pool (R192): taken into use, taken in flight, in flight into use, released. -/
def Pool.take (p : Pool) (n : Nat) : Pool := { p with free := p.free - n, allocated := p.allocated + n }
def Pool.fly (p : Pool) (n : Nat) : Pool := { p with free := p.free - n, inflight := p.inflight + n }
def Pool.land (p : Pool) (n : Nat) : Pool := { p with inflight := p.inflight - n, allocated := p.allocated + n }
def Pool.abort (p : Pool) (n : Nat) : Pool := { p with inflight := p.inflight - n, free := p.free + n }
def Pool.release (p : Pool) (n : Nat) : Pool := { p with allocated := p.allocated - n, free := p.free + n }

/-- A share of HBM that has fallen to 2 points below the watermark ends a run of off-loads (R185). -/
def Keeper.offOn (k : Keeper) (mark : Nat) : Bool := k.offRun && decide ((mark - 2) * k.hbm.total < k.hbm.allocated * 100)

def State.modPool (s : State) (i : Nat) (f : Pool → Pool) : State :=
  let s1 := s.setPool i (f (s.pool i))
  if i = 2 then { s1 with keeper := { s1.keeper with offRun := s1.keeper.offOn (s.obj (objKey 0x2400 6)) } } else s1

/-- Frames of a page. -/
def Page.frames (p : Page) : Nat := if p.big then 32 else 1

/-- Every valid page. -/
def State.allPages (s : State) : List Page := s.keeper.pages.filterMap Prod.snd

/-- MiB of frames, rounded down. -/
def mib (frames : Nat) : Nat := frames / 16

/-- Frames that pinned pages hold (2410:03 in MiB). -/
def State.pinnedFrames (s : State) : Nat := (s.allPages.filter (fun p => p.pin == 2)).foldl (fun n p => n + p.frames) 0

/-- The pin quota in MiB (R151). -/
def State.quota (s : State) : Nat := s.obj (objKey 0x2410 1) * s.obj (objKey 0x2410 2) / 100
def State.reservations (s : State) : Nat := s.obj (objKey 0x2410 5) + s.obj (objKey 0x2410 6)

/-- Cached copies of a page's leaf removed from every core (R169). -/
def State.dropTlb (s : State) (key : Nat) : State :=
  { s with cores := s.cores.map (fun e => (e.1, { e.2 with tlb := e.2.tlb.filter (fun k => k != key) })) }

/-- Table entries with keys in a range removed. -/
def dropRange {α : Type} (t : Tab α) (lo hi : Nat) : Tab α := t.filter (fun e => e.1 < lo || hi ≤ e.1)

/-- Host slots given back, and a region of no used slots freed where it was being revoked or lost (R343, R344). -/
def State.releaseSlots (s : State) (first n : Nat) : State :=
  let r := first / 2 ^ 24
  let reg := Tab.get s.host.pool {} r
  let u := reg.used.filter (fun k => k < first || first + n ≤ k)
  let st := if u.isEmpty ∧ (reg.state = 2 ∨ reg.state = 3) then 0 else reg.state
  let s1 := { s with host := { s.host with pool := Tab.set s.host.pool {} r { reg with used := u, state := st } } }
  s1.modPool 3 (fun p =>
    if st = 0 ∧ reg.state ≠ 0 then
      { p with total := p.total - reg.slots, free := p.free - (reg.slots - reg.used.length), allocated := p.allocated - n }
    else if reg.state = 2 ∨ reg.state = 3 then { p with allocated := p.allocated - n, free := p.free + n }
    else p.release n)

/-- Deck lines of a local range dropped. -/
def dropLines (cols : Tab Column) (lo hi : Nat) : Tab Column :=
  cols.map (fun e => (e.1, { e.2 with lines := e.2.lines.filter (fun l => l.remote || l.line < lo / 4096 || hi / 4096 ≤ l.line) }))

/-- A page gone (R179): its frame or its slots released, its data and its leaf's copies dropped; a later page at the address starts
from its last epoch (R478). -/
def State.removePage (s : State) (p : Page) : State :=
  let hi := p.base + p.bytes
  let k := pageKey p.base
  let mig := s.keeper.migs.filter (fun m => m.page == p.base)
  let ret := s.keeper.rets.filter (fun m => m.page == p.base)
  let off := s.keeper.offs.filter (fun m => m.page == p.base)
  let s1 := s.forAll mig (fun s m =>
    if m.switched then s.modPool (poolOf m.srcLoc) (fun b => b.release p.frames)
    else s.modPool (poolOf m.loc) (fun b => b.abort p.frames))
  let s2 := s1.forAll ret (fun s r => s.modPool (poolOf r.loc) (fun b => b.abort p.frames))
  let s3 := s2.forAll off (fun s o => s.forAll o.slots (fun s k => (s.modPool 3 (fun b => b.land 1)).releaseSlots k 1))
  let held := (s.keeper.shadows.filter (fun e => e.page == p.base)).map (fun (e : Shadow) => poolOf e.loc) ++
    (s.keeper.flipped.filter (fun e => e.page == p.base)).map (fun (e : Flipped) => poolOf e.loc)
  let s3 := s3.forAll held (fun s i => s.modPool i (fun b => b.release p.frames))
  let s4 := if p.loc = 3 then s3.releaseSlots p.place p.frames else s3.modPool (poolOf p.loc) (fun b => b.release p.frames)
  let kp := { s4.keeper with
    pages := Tab.set s4.keeper.pages none k none
    migs := s4.keeper.migs.filter (fun m => m.page != p.base)
    rets := s4.keeper.rets.filter (fun m => m.page != p.base)
    offs := s4.keeper.offs.filter (fun m => m.page != p.base)
    pinned := s4.keeper.pinned.filter (fun b => b != p.base)
    demoted := s4.keeper.demoted.filter (fun b => b != p.base)
    shadows := s4.keeper.shadows.filter (fun e => e.page != p.base)
    flipped := s4.keeper.flipped.filter (fun e => e.page != p.base)
    waitRets := s4.keeper.waitRets.filter (fun b => b != p.base)
    dying := s4.keeper.dying.filter (fun b => b != p.base)
    rehome := s4.keeper.rehome.filter (fun e => e.1 != p.base)
    traffic := Tab.set s4.keeper.traffic 0 k 0
    lastEpoch := if p.sepoch = 0 then s4.keeper.lastEpoch else Tab.set s4.keeper.lastEpoch 0 k p.sepoch
    winWasted := if p.unread then s4.keeper.winWasted + 1 else s4.keeper.winWasted }
  { s4 with
    keeper := kp
    mem := dropRange s4.mem p.base hi
    poison := dropRange s4.poison (p.base / 64) (hi / 64)
    shadow := dropRange s4.shadow p.base hi
    prev := dropRange s4.prev p.base hi
    shadowPoison := dropRange s4.shadowPoison (p.base / 64) (hi / 64)
    prevPoison := dropRange s4.prevPoison (p.base / 64) (hi / 64)
    cols := dropLines s4.cols p.base hi }.dropTlb k

/-- The region that holds a page. -/
def State.regionOf (s : State) (a : Nat) : Option Region :=
  s.keeper.regions.find? (fun r => r.base ≤ a && a < r.base + r.size)

def State.setRegion (s : State) (r : Region) : State :=
  { s with keeper := { s.keeper with regions := s.keeper.regions.map (fun x => if x.base = r.base then r else x) } }

/-- A region deleted once it has no sealed page left (R478); 2440:09 counts the regions. -/
def State.dropRegion (s : State) (base : Nat) : State :=
  let rs := s.keeper.regions.filter (fun r => r.base != base)
  { s with keeper := { s.keeper with regions := rs } }.setObj (objKey 0x2440 9) rs.length

def State.pagesIn (s : State) (lo hi : Nat) : List Page := s.allPages.filter (fun p => lo ≤ p.base && p.base < hi)

/-- A region without sealed pages is deleted. -/
def State.tidyRegion (s : State) (r : Region) : State :=
  if (s.pagesIn r.base (r.base + r.size)).any (fun p => p.sealed) then s else s.dropRegion r.base

/-- A link that an entry of the routing table lists and that is up, by a hash (R310); none where no link is up. -/
def State.linkUp (s : State) (l : Nat) : Bool :=
  let st := s.obj (oLink l 1)
  (st == 3 || st == 4) && !(Tab.get s.fabric.links {} l).excluded

def routeLinks (e : Nat) : List Nat :=
  [bitsOf e 23 18, bitsOf e 17 12, bitsOf e 11 6, bitsOf e 5 0].take (bitsOf e 25 24 + 1)

def State.routeRow (s : State) (dev : Nat) : Nat := (Tab.get s.fabric.routes 0 dev).toNat

/-- Is a device reachable: a valid row, with the fabric enabled? -/
def State.routed (s : State) (dev : Nat) : Bool := s.obj oFabricOn == 1 && (s.routeRow dev).testBit 31

def State.pickLink (s : State) (dev hash : Nat) : Option Nat :=
  let up := (routeLinks (s.routeRow dev)).filter s.linkUp
  if up.isEmpty then none else up[hash % up.length]?

/-- The xor-fold of a line number to 6 bits (R132). -/
def fold6 (g : Nat) : Nat :=
  (List.range 9).foldl (fun x i => x ^^^ (g / 64 ^ i % 64)) 0

/-- The hash of R310 for a packet. -/
def pktHash (p : Pkt) : Nat :=
  if p.type = 0x10 ∨ p.type = 0x11 ∨ p.type = 0x12 ∨ p.type = 0x14 ∨ p.type = 0x18 ∨ p.type = 0x19 ∨ p.type = 0x1A then
    fold6 (p.addr.toNat % 2 ^ 62 / 4096)
  else if p.type = 0x20 ∨ p.type = 0x21 then fold6 (fieldAt p.payload 8 4) ^^^ fold6 (fieldAt p.payload 12 4 / 16)
  else p.src

/-- Link state beside the objects. -/
def State.link (s : State) (l : Nat) : Link := Tab.get s.fabric.links {} l
def State.setLink (s : State) (l : Nat) (x : Link) : State :=
  { s with fabric := { s.fabric with links := Tab.set s.fabric.links {} l x } }

/-- Flits of a packet: its header and its payload (R302). -/
def pktFlits (p : Pkt) : Nat := 1 + (p.payload.length + 31) / 32

/-- A packet discarded (R312): counted, with event 0x2210. Causes: 0 fifth link, 1 R305, 2 destination row, 3 type unlisted,
4 generation. -/
def State.discardPkt (s : State) (cause dst src : Nat) : State :=
  (s.bump (objKey 0x2440 7) 1).event 0x2210 srcRouter [(1, cause), (2, dst), (2, src)]

/-- The frames that a packet takes, a packet starting a frame. -/
def pktFrames (p : Pkt) : Nat := (pktFlits p + 19) / 20

/-- Flits that a receiver may hold by VC (Table 10.7). -/
def vcAlloc (vc : Nat) : Nat :=
  match vc / 2 with
  | 0 => 192
  | 1 => 896
  | 2 => 832
  | _ => 64

/-- The CREDIT that reports freed flits (R306). -/
def State.sendCredit (s : State) (l : Nat) : State :=
  let x := s.link l
  if x.freed.isEmpty then s
  else (s.setLink l { x with freed := [] }).emit (.linkCtl l 1 ((List.range 10).map (fun v => Tab.get x.freed 0 v) ++ [0]))

/-- Flits of a VC freed: reported at once from 64 on (R306). -/
def State.freeVc (s : State) (l vc flits : Nat) : State :=
  let x := s.link l
  let n := Tab.get x.freed 0 vc + flits
  let s1 := s.setLink l { x with freed := Tab.set x.freed 0 vc n }
  if 64 ≤ n then s1.sendCredit l else s1

/-- The flits of a packet freed. -/
def State.freeFlits (s : State) (l : Nat) (p : Pkt) : State := s.freeVc l p.vc (pktFlits p)

/-- A packet's flits stay held at the link that it came by. -/
def State.holdFlits (s : State) (l : Nat) (p : Pkt) : State :=
  let x := s.link l
  s.setLink l { x with held := Tab.upd x.held 0 p.vc (fun n => n + pktFlits p) }

/-- Held flits of a packet freed. -/
def State.unholdFlits (s : State) (l : Nat) (p : Pkt) : State :=
  let x := s.link l
  (s.setLink l { x with held := Tab.upd x.held 0 p.vc (fun n => n - pktFlits p) }).freeFlits l p

/-- A packet arrives on a link: its bytes counted. -/
def State.countRx (s : State) (l : Nat) (p : Pkt) : State := s.bump (oLink l 0x10) (32 * pktFlits p)

/-- A packet arrives and is consumed. -/
def State.arrive (s : State) (l : Nat) (p : Pkt) : State := (s.countRx l p).freeFlits l p

/-- A forwarded packet has left: its flits at the link that it came by are free (R306, R311). -/
def State.passedOn (s : State) (l : Nat) (p : Pkt) : State :=
  match s.fabric.transit.find? (fun (t : Transit) => t.out == l && t.sent == p) with
  | none => s
  | some t => ({ s with fabric := { s.fabric with transit := s.fabric.transit.erase t } } : State).unholdFlits t.link t.came

/-- Can a link send a packet now: it is up, its VC holds the credits, its replay buffer has room (R301, R306)? -/
def State.canSend (s : State) (l : Nat) (p : Pkt) : Bool :=
  let x := s.link l
  let st := s.obj (oLink l 1)
  (st == 3 || st == 4) && decide (pktFlits p ≤ Tab.get x.credits 0 p.vc) && decide (x.replay.length + pktFrames p ≤ 256)

/-- A packet sent: its credits, its frames in the replay buffer, its bytes. -/
def State.transmit (s : State) (l : Nat) (p : Pkt) : State :=
  let x := s.link l
  let n := pktFrames p
  let tag := if p.src = s.ownDev ∧ p.type < 0x18 then p.tag + 1 else 0
  let x1 := { x with
    credits := Tab.set x.credits 0 p.vc (Tab.get x.credits 0 p.vc - pktFlits p)
    replay := x.replay ++ (List.range n).map (fun i => ((x.nextSeq + i) % 4096, tag))
    nextSeq := (x.nextSeq + n) % 4096 }
  (((s.setLink l x1).bump (oLink l 15) (32 * pktFlits p)).emit (.packet l p)).passedOn l p

/-- A packet put on a link: sent where it can be and nothing of its VC waits before it, else queued (R306). -/
def State.sendOn (s : State) (l : Nat) (p : Pkt) : State :=
  let x := s.link l
  if x.queued.all (fun q => q.vc != p.vc) && s.canSend l p then s.transmit l p
  else s.setLink l { x with queued := x.queued ++ [p] }

/-- The queued packets of a link sent in order, each VC on its own, as far as credits and the replay buffer allow. -/
def State.drainLink (s : State) (l : Nat) : State :=
  let q := (s.link l).queued
  (s.setLink l { s.link l with queued := [] }).forAll q (fun s p => s.sendOn l p)

/-- The flipped step that a request of a league carries (R258, R315). -/
def State.fstepOf (s : State) (league : Nat) : Nat :=
  match s.pass.layout with
  | some l => if l.league = league ∧ league ≠ 0 then s.pass.fstep % 2 ^ 24 else 0
  | none => 0

/-- A packet that this device sends: its own ID as the source, on lane 0 of its class (R304, R305, R310). Before the fabric is
enabled nothing is sent (R308). With no listed link up it waits on the first listed link (R310). -/
def State.sendPkt (s : State) (p : Pkt) : State :=
  if s.obj oFabricOn = 0 then s
  else
    let row := s.routeRow p.dst
    if !row.testBit 31 then s.discardPkt 2 p.dst s.ownDev
    else
      let p1 := { p with src := s.ownDev }
      match s.pickLink p.dst (pktHash p1) with
      | some l => if (s.link l).fabric = 1 ∧ 0x30 ≤ p.type ∧ p.type ≤ 0x33 then s.discardPkt 4 p.dst s.ownDev else s.sendOn l p1
      | none => s.sendOn ((routeLinks row).headD 0) p1

/-- Does device d take seal traffic: its row says generation 2 (R325)? -/
def State.sealsTo (s : State) (d : Nat) : Bool := !(s.routeRow d).testBit 28

/-- INV to a device (R321): region base, size and new epoch. -/
def State.sendInv (s : State) (d : Nat) (r : Region) (e : Nat) : State :=
  s.sendPkt { type := 0x30, vc := 6, dst := d, addr := globalOf s.ownDev r.base,
              payload := leBytes 8 r.size ++ leBytes 2 e }

/-- Frames of a retained copy. -/
def Retained.frames (r : Retained) : Nat := if r.big then 32 else 1

/-- Retained copies dropped but for those kept: their resident frames are free again (R183). -/
def State.dropRetained (s : State) (keep : Retained → Bool) : State :=
  let gone := s.keeper.retained.filter (fun r => !keep r)
  { s with keeper := { s.keeper with
    retained := s.keeper.retained.filter keep
    resident := s.keeper.resident.release (gone.foldl (fun n r => n + r.frames) 0) } }

/-- What this device drops for a range of global addresses (R105, R147, R168): near-cache and instruction-cache lines, cached
translations, remote lines, remote translations, retained copies. -/
def State.dropCopies (s : State) (lo hi : Nat) : State :=
  let keepLine : NcLine → Bool := fun l => (l.line + 1) * 1024 ≤ lo || hi ≤ l.line * 1024
  let keepLeaf : Nat → Bool := fun k =>
    let g := (globalOf s.ownDev (k * 65536)).toNat
    g + 65536 ≤ lo || hi ≤ g
  let cores := s.cores.map (fun e => (e.1, { e.2 with
    nc := e.2.nc.filter keepLine, ic := e.2.ic.filter keepLine, tlb := e.2.tlb.filter keepLeaf }))
  let cols := s.cols.map (fun e => (e.1, { e.2 with
    lines := e.2.lines.filter (fun l => !l.remote || (l.line + 1) * 4096 ≤ lo || hi ≤ l.line * 4096)
    mshrs := e.2.mshrs.map (fun m =>
      if m.remote ∧ lo < (m.line + 1) * 4096 ∧ m.line * 4096 < hi then { m with install := false } else m) }))
  { s with
    cores := cores
    cols := cols
    keeper := { s.keeper with
      remote := s.keeper.remote.filter (fun r => r.page + (if r.big then 2097152 else 65536) ≤ lo || hi ≤ r.page) } }.dropRetained
    (fun r => decide (r.page + 65536 * r.frames ≤ lo) || decide (hi ≤ r.page))

/-- Requests of this device's threads to a page that have been issued and are not yet served (R169, R179), as core and number; those that wait
for the page's return are not counted, since the free cancels it. -/
def State.openOn (s : State) (p : Page) : List (Nat × Nat) :=
  if p.away then []
  else s.cores.flatMap (fun (e : Nat × Core) => (e.2.far.filter (fun (r : FarReq) => s.isLocal r.addr && decide (p.base ≤ localOf r.addr) &&
    decide (localOf r.addr < p.base + p.bytes) && (match r.stage with
      | .served _ _ => false
      | _ => true))).map (fun (r : FarReq) => (e.1, r.id)))

/-- A free begins (R179, R478): an unsealed page, or one that no peer holds, goes at once; else its epoch advances, the readers are
sent INV, and it goes once they have answered. While its region unseals, that has been done, and it goes when the unsealing ends. -/
def State.freeNow (s : State) (p : Page) : State :=
  if !p.sealed then s.removePage p
  else
    match s.regionOf p.base with
    | none => s.removePage p
    | some r =>
      if r.unsealing then
        (if r.freeing.elem p.base then s else s.setRegion { r with freeing := r.freeing ++ [p.base] })
      else
      let e := (p.sepoch + 1) % 2 ^ 16
      let p1 := { p with sepoch := e }
      let s1 := (s.setPage p1).dropCopies (globalOf s.ownDev p.base).toNat ((globalOf s.ownDev p.base).toNat + p.bytes)
      let rd := r.readers.filter s.sealsTo
      if rd.isEmpty then (s1.removePage p1).tidyRegion r
      else
        let r1 := { r with freeing := r.freeing ++ [p.base], awaited := rd, invEpoch := e }
        (s1.setRegion r1).forAll rd (fun s d => s.sendInv d r1 e)

/-- A free takes effect once every request already issued to the page has completed (R179). -/
def State.freePage (s : State) (p : Page) : State :=
  if (s.openOn p).isEmpty then s.freeNow p
  else if s.keeper.dying.elem p.base then s
  else { s with keeper := { s.keeper with dying := s.keeper.dying ++ [p.base] } }

/-- The frees that wait take effect where their pages' requests have completed. -/
def State.sweepFrees (s : State) : State :=
  s.forAll s.keeper.dying (fun s b =>
    match s.pageAt b with
    | some p => if (s.openOn p).isEmpty then
        ({ s with keeper := { s.keeper with dying := s.keeper.dying.filter (fun x => x != b) } } : State).freeNow p
      else s
    | none => { s with keeper := { s.keeper with dying := s.keeper.dying.filter (fun x => x != b) } })

end Sys2Proof.Machine
end

