-- ==== Sys2Proof/Machine/Threads.lean ====
section
/-! DEFINITION. Threads ending and faulting, the array claim, and what becomes of a sequence (R77, R92, R116, R125, R224, R225,
R475). -/

namespace Sys2Proof.Machine

/-- The array's reset state (R77), for a new claim. -/
def Core.arrayReset (k : Core) : Core :=
  { k with accs := [], wts := [], mcfg := 0, tk := {}, aq := [], mmaQ := [], sideQ := [], sideList := [] }

/-- Every array instruction issued so far has completed. -/
def Core.arrayIdle (k : Core) : Bool := k.aq.isEmpty && k.mmaQ.isEmpty && k.sideQ.isEmpty

/-- A release that waited takes effect once the array is idle; a thread that the scheduler freed then enters FREE (R77, R125,
R225). -/
def Core.settle (k : Core) : Core :=
  let k1 := if k.releasing ∧ k.arrayIdle then { k with claim := none, releasing := false } else k
  (List.range 16).foldl (fun k t =>
    let x := k.thread t
    if x.freeing ∧ k.claim ≠ some t then k.setThread t {} else k) k1

/-- A thread gives up the claim, at once or once earlier array instructions have completed. -/
def Core.release (k : Core) (t : Nat) : Core :=
  let k1 := { k with claimQ := k.claimQ.filter (fun u => u != t) }
  if k1.claim = some t then { k1 with releasing := true } else k1

/-- R125 for a thread: it stops, its far loads' data will be discarded, its far stores complete and their faults reach no thread, its queued stream descriptors are cancelled after the current
one, its claim is released. -/
def Core.stop (k : Core) (t : Nat) : Core :=
  let x := k.thread t
  let k1 := k.setThread t { x with st := .fault, why := .none, ending := false }
  let far := k1.far.map (fun (r : FarReq) => if r.thread = t then { r with discard := true } else r)
  let se := k1.se.map (fun e => (e.1, { e.2 with
    queue := (e.2.queue.take 1).filter (fun (d : StreamDesc) => d.thread != t || d.moved) ++
             (e.2.queue.drop 1).filter (fun (d : StreamDesc) => d.thread != t) }))
  let drops (r : FarReq) : Bool := r.thread == t && r.stage == FarStage.waiting && (r.kind == .ld || r.kind == .vld || r.kind == .wtw)
  ({ k1 with far := far.filter (fun r => !drops r), se := se, fetching := k1.fetching.filter (fun e => e.1 != t) }).release t

/-- The sequence in a slot. -/
def State.slot (s : State) (n : Nat) : Option Seq := Tab.get s.sched.slots none n
def State.setSlot (s : State) (n : Nat) (x : Option Seq) : State :=
  let k := s.sched
  let f := if x.isSome ∧ (s.slot n).isNone then k.freeSlots - 1 else if x.isNone ∧ (s.slot n).isSome then k.freeSlots + 1 else k.freeSlots
  { s with sched := { k with slots := Tab.set k.slots none n x, freeSlots := f } }

/-- Slots in use. -/
def State.slotsUsed (s : State) : Nat := s.sched.slots.length

/-- A snapshot's pages freed where they are this device's; those that a peer allocated its own keeper frees (R219, R234). -/
def State.freeSnap (s : State) (x : Snap) : State :=
  if x.dev = 0xFFFF then s.forAll (s.pagesIn (x.dst % 2 ^ 48) (x.dst % 2 ^ 48 + x.size)) State.freePage else s

/-- A sequence lets go of the snapshot at an address; a replaced one is freed with its last bound sequence (R234). -/
def State.letGo (s : State) (ctx dst : Nat) : State :=
  let hit := s.sched.snaps.map (fun (x : Snap) => if x.ctx = ctx ∧ x.dst = dst then { x with bound := x.bound - 1 } else x)
  let gone := hit.filter (fun (x : Snap) => x.replaced && x.bound == 0)
  let s1 := { s with sched := { s.sched with snaps := hit.filter (fun (x : Snap) => !(x.replaced && x.bound == 0)) } }
  s1.forAll gone State.freeSnap

/-- A sequence lets go of the snapshot it was bound to. -/
def State.unbind (s : State) (q : Seq) : State := if q.eval then s.letGo q.ctx q.snap.toNat else s

/-- The number of the scheduler's rebuild among the changes of R403. -/
def chgSched : Nat := 0x3000

/-- The number by which event 0x2525 names a book (Table 07.11 gives none): kind 0 a queue's counts, 1 the slots, 2 a core's threads. -/
def bookNo (kind i : Nat) : Nat := Config.freeFn 0x2525 [kind, i] % 256

/-- The threads of a core that are not FREE. -/
def Core.taken (k : Core) : Nat := (k.threads.filter (fun e => e.2.st != .free)).length

/-- FREE threads and the others of a core, as the scheduler counts them (R227). -/
def Core.threadCount (k : Core) : Nat := 16 - (k.threads.filter (fun e => decide (e.1 < 16) && e.2.st != .free)).length + k.taken

/-- The first balance of R227 that does not hold: its book, what is expected and what is found. -/
def State.schedBad (s : State) : Option (Nat × Nat × Nat) :=
  if s.sched.freeSlots + s.slotsUsed ≠ 4096 then some (bookNo 1 0, 4096, s.sched.freeSlots + s.slotsUsed)
  else (s.cores.find? (fun e => e.2.threadCount != 16)).map (fun e => (bookNo 2 e.1, 16, e.2.threadCount))

/-- R227: the two balances, checked after each placement, start and end: a failed check adds event 0x2525 and enters SERVICE. -/
def State.checkSched (s : State) : State :=
  match s.schedBad with
  | some x => if s.dev.changes.elem chgSched then s else (s.event 0x2525 srcSched [(1, x.1), (4, x.2.1), (4, x.2.2)]).beginService chgSched
  | none => s

/-- A sequence's slot freed (R224); 2500:06 counts the slots in use. -/
def State.freeSlot (s : State) (n : Nat) : State :=
  match s.slot n with
  | none => s
  | some q =>
    let s1 := s.setSlot n none
    ((s1.setObj (objKey 0x2500 6) s1.slotsUsed).unbind q).checkSched

/-- Threads freed by the scheduler (R225): stopped, then FREE once they hold no claim. -/
def State.freeThreads (s : State) (l : List (Nat × Nat)) : State :=
  s.forAll l (fun s ct => s.modCore ct.1 (fun k =>
    let k1 := if (k.thread ct.2).st = .fault then k else k.stop ct.2
    (k1.setThread ct.2 { k1.thread ct.2 with freeing := true }).settle))

/-- A sequence ended: its commands' records, its slot. -/
def State.endSeq (s : State) (n status result : Nat) : State :=
  match s.slot n with
  | none => s
  | some q => (s.completeAll q.cmds status result).freeSlot n

/-- The result of an instance is its batch number, of a plain sequence its slot (Table 07.4). -/
def Seq.okResult (q : Seq) (n : Nat) : Nat := if q.kind = 2 then q.number else n

/-- The update sequences of running chunks ended. -/
def State.endUpdates (s : State) (l : List BufChunk) : State :=
  s.forAll (l.filter BufChunk.running) (fun s b =>
    match s.slot b.slot with
    | some q => (s.freeThreads q.live).endSeq b.slot 0 0
    | none => s)

/-- The updates of a layer stopped for the step, which the owner will declare failed (R286): its chunks' update sequences end and their
buffers are freed. -/
def State.stopLayer (s : State) (layer : Nat) : State :=
  let s1 := s.endUpdates ((s.upd.bufs.flatMap Prod.snd).filter (fun (b : BufChunk) => b.layer == layer))
  { s1 with
    pass := { s1.pass with failed := true }
    upd := { s1.upd with
      stopped := layer :: s1.upd.stopped.filter (fun l => l != layer)
      bufs := s1.upd.bufs.map (fun e => (e.1, e.2.filter (fun (b : BufChunk) => b.layer != layer))) } }

/-- What a thread's fault does to its sequence (R225). `paddr` is the poisoned local address. -/
def State.seqFault (s : State) (c t : Nat) (code : Nat) (pc : W64) (paddr : Nat) (recoverable : Bool) : State :=
  let n := (s.thread c t).seq
  match s.slot n with
  | none => s
  | some q =>
    if !q.live.elem (c, t) then s
    else
      let s1 := s.freeThreads q.live
      if q.kind = 3 then
        ((s1.endSeq n 0 0).stopLayer q.number).event 0x2723 srcSched [(4, q.step), (4, q.number), (1, q.nextBatch), (8, paddr)]
      else if recoverable && q.restart && decide (q.restarts < (q.limits.map Prod.fst).getD (s.obj (objKey 0x2500 3))) then
        (s1.setSlot n (some { q with live := [], restarting := true, restarts := q.restarts + 1 })).event 0x2523 srcSched
          [(2, q.ctx), (2, n), (4, q.restarts + 1), (8, paddr)]
      else if recoverable then s1.endSeq n 0x0402 paddr
      else
        (s1.endSeq n 0x0401 ((pc.toNat % 2 ^ 32) * 2 ^ 32 + c * 2 ^ 16 + t * 2 ^ 8 + code)).event 0x2522 srcSched
          [(2, q.ctx), (2, n), (1, c), (1, code)]

/-- The core's fault records keep the last 16 (Table 04.13). -/
def pushFault (l : List FaultRec) (r : FaultRec) : List FaultRec := (l ++ [r]).drop (l.length + 1 - 16)

/-- A thread fault (R125, Table 04.12): the thread stops before the instruction takes effect, a record, event 0x2511, then the
scheduler's part. -/
def State.threadFault (s : State) (c t code : Nat) (pc addr : W64) (recoverable : Bool := false) : State :=
  let r : FaultRec := { thread := t, code := code, pc := pc, addr := addr, cyc := s.cycles c, recoverable := recoverable }
  let s1 := s.modCore c (fun k => { k.stop t with faults := pushFault k.faults r })
  let s2 := s1.event 0x2511 (srcCore c) [(1, c), (1, t), (1, code), (4, pc.toNat % 2 ^ 32)]
  (s2.modCore c Core.settle).seqFault c t code pc (addr.toNat % 2 ^ 48) recoverable

/-- Is a set or register in use by an earlier array-side instruction (R76)? -/
def ArrayOp.uses (o : ArrayOp) (set : Nat) : Bool :=
  match o with
  | .drain n _ _ => n == set
  | .spill n _ => n == set
  | .tkIns n _ _ _ _ => n == set
  | _ => false

/-- A fault found while array work executes (R475): array-side instructions queued behind the faulting one and matrix instructions in
flight are dropped; those ahead of it, `keep`, complete (R125), apart from those that wait for a dropped matrix instruction (DEDUCED,
assumption 108). Of a thread that has faulted already nothing more is recorded. -/
def State.arrayFault (s : State) (c code : Nat) (pc addr : W64) (keep : List ArrayOp) : State :=
  let k := s.core c
  let lost (set : Nat) : Bool := k.mmaQ.any (fun m => m.set == set)
  match k.claim with
  | none => s
  | some t =>
    let k1 := { k with
      aq := keep.filter (fun o => !(List.range 8).any (fun n => lost n && o.uses n))
      mmaQ := []
      sideQ := if keep.isEmpty then [] else k.sideQ.filter (fun (q : SideTerm) => !lost q.set) }
    if (k.thread t).st = .fault then (s.setCore c k1).modCore c Core.settle
    else (s.setCore c k1).threadFault c t code pc addr

/-- An end instruction's conditions (R92): every far store acknowledged and every stream descriptor complete. -/
def Core.quiet (k : Core) (t : Nat) : Bool :=
  k.far.all (fun r => r.thread != t || r.kind == .ld || r.kind == .vld || r.discard || r.kind == .wtw) &&
    k.se.all (fun e => e.2.queue.all (fun d => d.thread != t))

/-- A thread of a sequence has passed its end: the last one completes it (R224). -/
def State.threadEnded (s : State) (c t n : Nat) : State :=
  match s.slot n with
  | none => s
  | some q =>
    if !q.live.elem (c, t) then s
    else
      let live := q.live.filter (fun x => x != (c, t))
      let s1 := s.setSlot n (some { q with live := live })
      if live.isEmpty && q.kind != 1 then s1.endSeq n 0 (q.okResult n) else s1

end Sys2Proof.Machine
end

