-- ==== Sys2Proof/Machine/Operands.lean ====
section
/-! DEFINITION. Operands of instructions: what the fields of a format may hold, guards, scratchpad access and results (R93, R94, R96–R99,
R121, R122). -/

namespace Sys2Proof

/-! ## Encoding checks (R121, R122) -/

/-- Format A: reserved bits, the register fields an opcode does not use, and the fn bits it does not use. -/
def FmtA.ok (f : FmtA) (d a b c : Bool) (mask : W16) : Bool :=
  f.res == 0 && (d || f.d == 0) && (a || f.a == 0) && (b || f.b == 0) && (c || f.c == 0) && (f.fn &&& ~~~mask) == 0

/-- Format I. -/
def FmtI.ok (f : FmtI) (d a imm : Bool) (mask : BitVec 10) : Bool :=
  (d || f.d == 0) && (a || f.a == 0) && (imm || f.imm == 0) && (f.fn &&& ~~~mask) == 0

/-- Format Q. -/
def FmtQ.ok (f : FmtQ) (set a n m off : Bool) : Bool :=
  f.res == 0 && (set || f.set == 0) && (a || f.a == 0) && (n || f.n == 0) && (m || f.m == 0) && (off || f.off == 0)

/-- A predicate operand uses the low 3 bits of its field. -/
def predOk (r : BitVec 5) : Bool := r.toNat < 8

/-- The lane type of fn[15:13], listed up to 5. -/
def FmtA.lane (f : FmtA) : Nat := f.fn.toNat / 2 ^ 13
def FmtA.laneOk (f : FmtA) : Bool := f.lane ≤ 5

/-- The signed immediate as a 64-bit word. -/
def FmtI.sx (f : FmtI) : W64 := f.imm.signExtend 64

namespace Machine

/-! ## Guards -/

/-- The guard's bits after the negate bit (R94). -/
def Thread.guard (x : Thread) (pg : BitVec 3) (pn : Bool) : W64 :=
  let p := x.preg pg.toNat
  if pn then ~~~p else p

/-! ## Scratchpad access (R96–R99) -/

/-- Does an access of n bytes at a window offset stay inside the window (R97)? -/
def Thread.inWindow (x : Thread) (off n : Nat) : Bool := off + n ≤ x.spSize * 65536

/-- The physical address of an offset. -/
def Thread.phys (x : Thread) (off : Nat) : Nat := x.spBase * 65536 + off

/-- Bytes of a core's scratchpad. -/
def Core.readSp (k : Core) (a n : Nat) : List Byte := Tab.readBytes k.sp a n

/-- Is a poisoned 8 B word read (R99)? -/
def Core.spBad (k : Core) (a n : Nat) : Bool :=
  if k.spPoison.isEmpty ∨ n = 0 then false
  else (List.range ((a + n - 1) / 8 - a / 8 + 1)).any (fun i => Tab.get k.spPoison false (a / 8 + i))

/-- The address of the first poisoned word of a range that holds one. -/
def Core.badWord (k : Core) (a n : Nat) : Nat :=
  8 * (((List.range ((a + n - 1) / 8 - a / 8 + 1)).find? (fun i => Tab.get k.spPoison false (a / 8 + i))).getD 0 + a / 8)

/-- Scratchpad bytes written; a whole word written clears its poison (R99). -/
def Core.writeSp (k : Core) (a : Nat) (bs : List Byte) : Core :=
  let n := bs.length
  let po := if k.spPoison.isEmpty ∨ n = 0 then k.spPoison
    else (List.range ((a + n - 1) / 8 - a / 8 + 1)).foldl (fun p i =>
      if a ≤ 8 * (a / 8 + i) ∧ 8 * (a / 8 + i) + 8 ≤ a + n then Tab.set p false (a / 8 + i) false else p) k.spPoison
  { k with sp := Tab.writeBytes k.sp a bs, spPoison := po }

def State.readSp (s : State) (c : Nat) (x : Thread) (off n : Nat) : List Byte := (s.core c).readSp (x.phys off) n
def State.spNat (s : State) (c : Nat) (x : Thread) (off n : Nat) : Nat := leNat (s.readSp c x off n)
def State.writeSp (s : State) (c : Nat) (x : Thread) (off : Nat) (bs : List Byte) : State :=
  s.modCore c (fun k => k.writeSp (x.phys off) bs)

/-! ## Results -/

def State.putS (s : State) (c t r : Nat) (v : W64) : State := s.modThread c t (fun x => x.setS r v)
def State.putP (s : State) (c t r : Nat) (v : W64) : State := s.modThread c t (fun x => x.setP r v)

/-- A vector register written in the 32-bit lanes whose mask bit is 1 (R93, R94). -/
def maskV (m : W64) (new old : VReg) : VReg :=
  (List.range 64).foldl (fun v l =>
    if m.toNat.testBit l then v ||| ((new >>> (32 * l) &&& 0xFFFFFFFF) <<< (32 * l))
    else v ||| ((old >>> (32 * l) &&& 0xFFFFFFFF) <<< (32 * l))) 0

def State.putV (s : State) (c t r : Nat) (m : W64) (v : VReg) : State :=
  s.modThread c t (fun x => x.setV r (maskV m v (x.vreg r)))

end Machine

end Sys2Proof
end

