-- ==== Sys2Proof/Machine/Flags.lean ====
section
/-! DEFINITION. Conditions: comparison results and predicate words (R93, R95, R476; the T96 has no status flags of its own). -/

namespace Sys2Proof.Machine

/-- The conditions of cmp: eq, ne, lt, ge, ltu, geu. -/
def condS (k : Nat) (a b : W64) : Bool :=
  match k with
  | 0 => a == b
  | 1 => a != b
  | 2 => a.slt b
  | 3 => b.sle a
  | 4 => decide (a < b)
  | _ => decide (b ≤ a)

/-- A predicate of all bits. -/
def allBits (b : Bool) : W64 := if b then BitVec.allOnes 64 else 0

/-- The combinations of pop: and, or, xor, and-not. -/
def popOp (k : Nat) (a b : W64) : W64 :=
  match k with
  | 0 => a &&& b
  | 1 => a ||| b
  | 2 => a ^^^ b
  | _ => a &&& ~~~b

/-- Does a word meet a wtw condition: eq, ne, ≥ unsigned (R476)? -/
def wtwMet (k : Nat) (word v : W64) : Bool :=
  match k with
  | 0 => word == v
  | 1 => word != v
  | _ => decide (v ≤ word)

end Sys2Proof.Machine
end

