-- ==== Sys2Proof/Machine/Issue.lean ====
section
/-! DEFINITION. Issuing one instruction of a thread: fetch and encoding checks, guard, operand readiness, outcome, and the choice of
the running thread (R87–R94, R107, R121, R122). -/

namespace Sys2Proof.Machine

/-- What an instruction comes to once it may issue. -/
inductive Act where
  /-- It takes effect and the pc advances. -/
  | done (s : State)
  /-- It takes effect and the pc becomes the target. -/
  | jump (s : State) (pc : W64)
  /-- It faults the thread (Table 04.12). -/
  | fault (code : Nat) (addr : W64)
  /-- It faults the thread with code 0x07 marked recoverable, at a far address (R172). -/
  | poisoned (addr : W64)
  /-- It parks the thread and issues again once the thread runs again. -/
  | park (s : State) (why : ParkWhy)
  /-- It has issued, and the thread parks. -/
  | parkAfter (s : State) (why : ParkWhy)
  /-- It cannot issue yet. -/
  | stall

/-- The sequencer's choice among READY threads after the last that ran (R89). -/
def Core.nextReady (k : Core) (skip : Option Nat) : Option Nat :=
  ((List.range 16).map (fun i => (k.lastRan + 1 + i) % 16)).find? (fun t => (k.thread t).st == .ready && some t != skip)

/-- The thread in RUN. -/
def Core.running (k : Core) : Option Nat := (List.range 16).find? (fun t => (k.thread t).st == .run)

/-- A thread chosen to run; another than the last that ran is a switch (3000+c:14). DESIGN CHOICE (assumption 26): after reset thread 15
counts as the last that ran. -/
def State.runThread (s : State) (c t : Nat) : State :=
  let k := s.core c
  let s1 := s.setCore c ({ k with lastRan := t }.setThread t { k.thread t with st := .run })
  if k.lastRan = t then s1 else s1.bump (oCore c 0x14) 1

/-- The choice of R89: the claimant whenever it is READY and not suspended, pre-empting another; otherwise, with none in RUN,
round-robin. -/
def State.resched (s : State) (c : Nat) : State :=
  let k := s.core c
  let holder := if k.susp = 0 then (k.claim.filter (fun t => (k.thread t).st == .ready)) else none
  match k.running, holder with
  | some r, some t => (s.setThread c r { k.thread r with st := .ready }).runThread c t
  | some _, none => s
  | none, some t => s.runThread c t
  | none, none =>
    let skip := if k.susp = 0 then none else k.claim
    match k.nextReady skip with
    | some t => s.runThread c t
    | none =>
      match k.nextReady none with
      | some t => (s.setCore c { k with susp := 0 }).runThread c t
      | none => s

/-- A thread becomes READY; the all-parked signal falls (R91). -/
def State.ready (s : State) (c t : Nat) : State :=
  s.modCore c (fun k => { k.setThread t { k.thread t with st := .ready } with allParked := false })

/-- A far load whose data a register still waits for (Table 04.2): scalar r is r, vector r is 32 + r. -/
def Core.farPending (k : Core) (t r : Nat) : Bool :=
  k.far.any (fun q => q.thread == t && !q.discard &&
    (match q.kind with
      | .ld => r != 0 && q.dest == r
      | .amo _ _ _ => r != 0 && q.dest == r
      | .vld => q.dest + 32 == r
      | _ => false))

/-- The fault code of fetching at a pc (R107): 0x05 for a target that no rule lets the context read, 0x0B for a page that is not
sealed. A peer's page is judged by the remote translation that the device holds; where it holds none, the page is first asked for. -/
def State.fetchCode (s : State) (ctx : Nat) (pc : W64) : Nat :=
  if pc.toNat % 8 ≠ 0 ∨ 2 ^ 62 ≤ pc.toNat then 0x05
  else if s.isLocal pc then
    let u := s.useLocal ctx (localOf pc) false
    if u ≠ 0 then u
    else
      match s.pageAt (localOf pc) with
      | some p => if p.sealed then 0 else 0x0B
      | none => 0x05
  else if s.leagueOf ctx = 0 then 0x05
  else
    match s.keeper.remote.find? (fun r => r.page ≤ pc.toNat && pc.toNat < r.page + (if r.big then 2097152 else 65536)) with
    | some r => if r.sealed then 0 else 0x0B
    | none => 0

/-! ## The instruction cache (R107) -/

/-- The seal epoch of the page of a pc that may be fetched from; none for another page. -/
def State.fetchEpoch (s : State) (pc : W64) : Option Nat :=
  if s.isLocal pc then (s.pageAt (localOf pc)).bind (fun p => if p.sealed then some p.sepoch else none)
  else (s.keeper.remote.find? (fun r => r.page ≤ pc.toNat && pc.toNat < r.page + (if r.big then 2097152 else 65536))).map (·.epoch)

/-- Does the instruction cache hold the line of a pc under its page's epoch? -/
def State.icHit (s : State) (c : Nat) (pc : W64) : Bool :=
  match s.fetchEpoch pc with
  | some e => (s.core c).ic.any (fun l => l.line == pc.toNat / 1024 && l.epoch == e)
  | none => false

/-- A line put into the instruction cache: 64 lines, the least recently filled out (DESIGN CHOICE, assumption 112). -/
def Core.icPut (k : Core) (l : NcLine) : Core := { k with ic := (l :: k.ic.filter (fun x => x.line != l.line)).take 64 }

/-- A fetch that misses fills its line, as a far request (R100, R107). -/
def State.icFill (s : State) (c : Nat) (pc : W64) : State :=
  match s.fetchEpoch pc with
  | none => s
  | some e =>
    if s.icHit c pc then s
    else (s.modCore c (fun k => k.icPut { line := pc.toNat / 1024, epoch := e })).bump (oCore c 0x16) 1

/-- The tag by which a fetch of thread t waits for a peer. -/
def idFetch (t : Nat) : Nat := 2 ^ 36 + t

/-- The fault code with which a fetch of thread t from a peer has failed. -/
def Core.fetchFailed (k : Core) (t : Nat) : Nat := ((k.fetching.find? (fun e => e.1 == t)).map Prod.snd).getD 0

/-- Must a fetch ask a peer for its line first (R100, R107, R168)? -/
def State.fetchAsks (s : State) (c t : Nat) : Bool :=
  let x := s.thread c t
  !s.isLocal x.pc && !s.icHit c x.pc && s.fetchCode x.ctx x.pc == 0 && (s.core c).fetchFailed t == 0

/-- The request of a fetch sent to its peer, once. -/
def State.askFetch (s : State) (c t : Nat) : State :=
  let x := s.thread c t
  if (s.core c).fetching.any (fun e => e.1 == t) then s
  else
    let tag := s.fabric.nextTag % 65536
    let a := BitVec.ofNat 64 (x.pc.toNat / 1024 * 1024)
    let p : Pkt := { type := 0x10, dst := devOf a, tag := tag, attr := 1024, league := s.leagueOf x.ctx, addr := a, ctx := x.ctx
                     fstep := s.fstepOf (s.leagueOf x.ctx) }
    let o : Outstanding := { tag := tag, core := c, id := idFetch t, ctx := x.ctx, addr := a, fstep := p.fstep }
    let s1 := (s.modCore c (fun k => { k with fetching := k.fetching ++ [(t, 0)] })).bump (oCore c 0x16) 1
    { s1 with fabric := { s1.fabric with outs := s1.fabric.outs ++ [o], nextTag := tag + 1 } }.sendPkt p

/-- The event of an uncorrectable scratchpad word that a read consumes (R99). -/
def State.spError (s : State) (c a : Nat) : State := s.event 0x2512 (srcCore c) [(1, c), (8, a)]

/-- A thread fault found by an instruction; an uncorrectable scratchpad word also adds event 0x2512 (R99). -/
def State.instrFault (s : State) (c t code : Nat) (addr : W64) : State :=
  let x := s.thread c t
  let s1 := if code = 0x08 then s.spError c (x.spBase * 65536 + addr.toNat) else s
  s1.threadFault c t code x.pc addr

/-- The pc after a taken effect; what the thread waited for is over. -/
def State.setPc (s : State) (c t : Nat) (pc : W64) : State := s.modThread c t (fun x => { x with pc := pc, why := .none })

/-- One cycle of a suspended claimant's wait, for an instruction of another thread (R89). -/
def Core.tickSusp (k : Core) (t : Nat) : Core := if k.claim = some t then k else { k with susp := k.susp - 1 }

/-- An act carried out. -/
def State.carry (s : State) (c t : Nat) (a : Act) : State :=
  let pc := (s.thread c t).pc
  match a with
  | .done s1 => (s1.setPc c t (pc + 8)).modCore c (fun k => k.tickSusp t)
  | .jump s1 target => (s1.setPc c t target).modCore c (fun k => k.tickSusp t)
  | .fault code addr => s.instrFault c t code addr
  | .poisoned addr => s.threadFault c t 0x07 pc addr true
  | .park s1 why => s1.modThread c t (fun x => { x with st := .park, why := why })
  | .parkAfter s1 why => s1.modThread c t (fun x => { x with st := .park, why := why, pc := pc + 8 })
  | .stall => s

/-- What becomes of an instruction before its own act: a fetch fault, an encoding fault, a guard of 0, registers still awaited (R88,
R94, R107, R122); none where it may act. -/
def State.before (s : State) (c t : Nat) (pg : BitVec 3) (pn enc lanes : Bool) (uses : List Nat) : Option Act :=
  let x := s.thread c t
  let g := x.guard pg pn
  let fc := if (s.core c).fetchFailed t = 0 then s.fetchCode x.ctx x.pc else (s.core c).fetchFailed t
  if fc ≠ 0 then some (.fault fc x.pc)
  else if !enc then some (.fault 0x01 0)
  else if (if lanes then g == 0 else !g.toNat.testBit 0) then some (.done s)
  else if uses.any (fun r => (s.core c).farPending t r) then some (.park s (.farData uses))
  else none

/-- The fetch of an instruction: a miss of the instruction cache fills its line (R107). -/
def State.fetched (s : State) (c t : Nat) : State :=
  let x := s.thread c t
  if (s.core c).fetchFailed t = 0 ∧ s.fetchCode x.ctx x.pc = 0 then s.icFill c x.pc else s

/-- An instruction of thread t of core c issues: only from the thread in RUN, once its line is fetched; fetch check, encoding checks,
guard, operand readiness, then its own act; the sequencer then chooses (R88–R94, R107, R122). `uses` are the registers it names; `lanes` says
that each lane is guarded by its own bit. -/
def State.issue (s : State) (c t : Nat) (pg : BitVec 3) (pn enc lanes : Bool) (uses : List Nat) (act : State → Thread → Act) : State :=
  let x := s.thread c t
  if x.st ≠ .run ∨ !s.clocked c then s
  else if s.fetchAsks c t then s.askFetch c t
  else
    let s := s.fetched c t
    (s.carry c t ((s.before c t pg pn enc lanes uses).getD (act s x))).resched c

/-- Scratchpad words that a read finds in error, as physical 8 B words with whether the error is uncorrectable: corrected ones are
counted in 3000+c:1B, the others poisoned (R99). -/
def State.upset (s : State) (c : Nat) (errs : List (Nat × Bool)) : State :=
  s.forAll (errs.filter (fun e => decide (e.1 < 524288))) (fun s e =>
    if e.2 then s.modCore c (fun k => { k with spPoison := Tab.set k.spPoison false e.1 true }) else s.bump (oCore c 0x1B) 1)

/-- An instruction that reads scratchpad and finds errors there: what it does follows the words so poisoned; an act that comes to no
read finds none. -/
def State.issueE (s : State) (c t : Nat) (pg : BitVec 3) (pn enc lanes : Bool) (uses : List Nat) (errs : List (Nat × Bool))
    (act : State → Thread → Act) : State :=
  let x := s.thread c t
  if x.st ≠ .run ∨ !s.clocked c then s
  else if s.fetchAsks c t then s.askFetch c t
  else
    let s := s.fetched c t
    match s.before c t pg pn enc lanes uses with
    | some a => (s.carry c t a).resched c
    | none =>
      let s1 := s.upset c errs
      match act s1 x with
      | .fault 0x08 addr => (s1.carry c t (.fault 0x08 addr)).resched c
      | a => (s.carry c t a).resched c

/-! ## Scratchpad access (R96–R99) -/

/-- An access checked, then an act: a misaligned offset or one outside the window is 0x04, a poisoned word read is 0x08. -/
def State.spAct (s : State) (c : Nat) (x : Thread) (off n align : Nat) (rd : Bool) (k : State → Act) : Act :=
  if off % align ≠ 0 ∨ !x.inWindow off n then .fault 0x04 (BitVec.ofNat 64 off)
  else if rd ∧ (s.core c).spBad (x.phys off) n then
    .fault 0x08 (BitVec.ofNat 64 ((s.core c).badWord (x.phys off) n - x.phys 0))
  else k s

end Sys2Proof.Machine
end

