-- ==== Sys2Proof/Machine/Scalar.lean ====
section
/-! DEFINITION. The scalar instructions (Table 04.10, opcodes 0x00–0x3A and pop; R86–R95, R116, R122, R124, R476), the thread
events of R88–R92, and the far requests' issue. -/

namespace Sys2Proof.Machine

/-- s[d] ← s[a] op s[b]. -/
def aluA (c : CoreId) (t : ThreadId) (f : FmtA) (op : W64 → W64 → W64) (s : State) : Out :=
  commit s (fun s => s.issue c t f.pg f.pn (f.ok true true true false 0) false [f.d.toNat, f.a.toNat, f.b.toNat]
    (fun s x => .done (s.putS c t f.d.toNat (op (x.sreg f.a.toNat) (x.sreg f.b.toNat)))))

/-- s[d] ← s[a] op imm, the immediate sign-extended. -/
def aluI (c : CoreId) (t : ThreadId) (f : FmtI) (op : W64 → W64 → W64) (s : State) : Out :=
  commit s (fun s => s.issue c t f.pg f.pn (f.ok true true true 0) false [f.d.toNat, f.a.toNat]
    (fun s x => .done (s.putS c t f.d.toNat (op (x.sreg f.a.toNat) f.sx))))

/-- add adds. -/
def opAdd (a b : W64) : W64 := a + b

/-- R122, add. -/
def execAdd (c : CoreId) (t : ThreadId) (f : FmtA) (s : State) : Out := aluA c t f opAdd s

/-- sub subtracts. -/
def opSub (a b : W64) : W64 := a - b

/-- R122, sub. -/
def execSub (c : CoreId) (t : ThreadId) (f : FmtA) (s : State) : Out := aluA c t f opSub s

/-- mul writes the low 64 bits of the product. -/
def opMul (a b : W64) : W64 := a * b

/-- R122, mul. -/
def execMul (c : CoreId) (t : ThreadId) (f : FmtA) (s : State) : Out := aluA c t f opMul s

/-- mulh writes the signed upper 64 bits of the product. -/
def opMulh (a b : W64) : W64 := BitVec.ofInt 64 (a.toInt * b.toInt / 2 ^ 64)

/-- R122, mulh. -/
def execMulh (c : CoreId) (t : ThreadId) (f : FmtA) (s : State) : Out := aluA c t f opMulh s

/-- and ands. -/
def opAnd (a b : W64) : W64 := a &&& b

/-- R122, and. -/
def execAnd (c : CoreId) (t : ThreadId) (f : FmtA) (s : State) : Out := aluA c t f opAnd s

/-- or ors. -/
def opOr (a b : W64) : W64 := a ||| b

/-- R122, or. -/
def execOr (c : CoreId) (t : ThreadId) (f : FmtA) (s : State) : Out := aluA c t f opOr s

/-- xor xors. -/
def opXor (a b : W64) : W64 := a ^^^ b

/-- R122, xor. -/
def execXor (c : CoreId) (t : ThreadId) (f : FmtA) (s : State) : Out := aluA c t f opXor s

/-- shl shifts left by s[b][5:0]. -/
def opShl (a b : W64) : W64 := a <<< (b.toNat % 64)

/-- R122, shl. -/
def execShl (c : CoreId) (t : ThreadId) (f : FmtA) (s : State) : Out := aluA c t f opShl s

/-- shr shifts right logically by s[b][5:0]. -/
def opShr (a b : W64) : W64 := a >>> (b.toNat % 64)

/-- R122, shr. -/
def execShr (c : CoreId) (t : ThreadId) (f : FmtA) (s : State) : Out := aluA c t f opShr s

/-- sar shifts right arithmetically by s[b][5:0]. -/
def opSar (a b : W64) : W64 := a.sshiftRight (b.toNat % 64)

/-- R122, sar. -/
def execSar (c : CoreId) (t : ThreadId) (f : FmtA) (s : State) : Out := aluA c t f opSar s

/-- min takes the signed minimum. -/
def opMin (a b : W64) : W64 := if a.sle b then a else b

/-- R122, min. -/
def execMin (c : CoreId) (t : ThreadId) (f : FmtA) (s : State) : Out := aluA c t f opMin s

/-- max takes the signed maximum. -/
def opMax (a b : W64) : W64 := if a.sle b then b else a

/-- R122, max. -/
def execMax (c : CoreId) (t : ThreadId) (f : FmtA) (s : State) : Out := aluA c t f opMax s

/-- minu takes the unsigned minimum. -/
def opMinu (a b : W64) : W64 := if a ≤ b then a else b

/-- R122, minu. -/
def execMinu (c : CoreId) (t : ThreadId) (f : FmtA) (s : State) : Out := aluA c t f opMinu s

/-- maxu takes the unsigned maximum. -/
def opMaxu (a b : W64) : W64 := if a ≤ b then b else a

/-- R122, maxu. -/
def execMaxu (c : CoreId) (t : ThreadId) (f : FmtA) (s : State) : Out := aluA c t f opMaxu s

/-- R122, addi adds imm. -/
def execAddi (c : CoreId) (t : ThreadId) (f : FmtI) (s : State) : Out := aluI c t f opAdd s

/-- R122, andi ands imm. -/
def execAndi (c : CoreId) (t : ThreadId) (f : FmtI) (s : State) : Out := aluI c t f opAnd s

/-- R122, ori ors imm. -/
def execOri (c : CoreId) (t : ThreadId) (f : FmtI) (s : State) : Out := aluI c t f opOr s

/-- R122, xori xors imm. -/
def execXori (c : CoreId) (t : ThreadId) (f : FmtI) (s : State) : Out := aluI c t f opXor s

/-- R122, shli shifts left by imm[5:0]. -/
def execShli (c : CoreId) (t : ThreadId) (f : FmtI) (s : State) : Out := aluI c t f opShl s

/-- R122, shri shifts right logically by imm[5:0]. -/
def execShri (c : CoreId) (t : ThreadId) (f : FmtI) (s : State) : Out := aluI c t f opShr s

/-- R122, sari shifts right arithmetically by imm[5:0]. -/
def execSari (c : CoreId) (t : ThreadId) (f : FmtI) (s : State) : Out := aluI c t f opSar s

/-- R122, li: the sign-extended immediate. -/
def execLi (c : CoreId) (t : ThreadId) (f : FmtI) (s : State) : Out :=
  commit s (fun s => s.issue c t f.pg f.pn (f.ok true false true 0) false [f.d.toNat]
    (fun s _ => .done (s.putS c t f.d.toNat f.sx)))

/-- R122, lih: imm above s[a][31:0]. -/
def execLih (c : CoreId) (t : ThreadId) (f : FmtI) (s : State) : Out :=
  aluI c t f (fun a _ => BitVec.ofNat 64 (f.imm.toNat * 2 ^ 32 + a.toNat % 2 ^ 32)) s

/-- R122, cmp: every bit of p[d] takes the comparison. -/
def execCmp (c : CoreId) (t : ThreadId) (f : FmtA) (s : State) : Out :=
  commit s (fun s => s.issue c t f.pg f.pn (f.ok true true true false 7 && predOk f.d && decide (f.fn.toNat % 8 < 6)) false
    [f.a.toNat, f.b.toNat]
    (fun s x => .done (s.putP c t f.d.toNat (allBits (condS (f.fn.toNat % 8) (x.sreg f.a.toNat) (x.sreg f.b.toNat))))))

/-- R122, cmpi. -/
def execCmpi (c : CoreId) (t : ThreadId) (f : FmtI) (s : State) : Out :=
  commit s (fun s => s.issue c t f.pg f.pn (f.ok true true true 7 && predOk f.d && decide (f.fn.toNat % 8 < 6)) false [f.a.toNat]
    (fun s x => .done (s.putP c t f.d.toNat (allBits (condS (f.fn.toNat % 8) (x.sreg f.a.toNat) f.sx)))))

/-- R122, pop. -/
def execPop (c : CoreId) (t : ThreadId) (f : FmtA) (s : State) : Out :=
  commit s (fun s => s.issue c t f.pg f.pn (f.ok true true true false 3 && predOk f.d && predOk f.a && predOk f.b) false []
    (fun s x => .done (s.putP c t f.d.toNat (popOp (f.fn.toNat % 4) (x.preg f.a.toNat) (x.preg f.b.toNat)))))

/-- R122, br: pc + imm × 8. -/
def execBr (c : CoreId) (t : ThreadId) (f : FmtI) (s : State) : Out :=
  commit s (fun s => s.issue c t f.pg f.pn (f.ok false false true 0) false []
    (fun s x => .jump s (x.pc + f.sx * 8)))

/-- R122, brl: s[d] ← pc + 8 and the branch. -/
def execBrl (c : CoreId) (t : ThreadId) (f : FmtI) (s : State) : Out :=
  commit s (fun s => s.issue c t f.pg f.pn (f.ok true false true 0) false [f.d.toNat]
    (fun s x => .jump (s.putS c t f.d.toNat (x.pc + 8)) (x.pc + f.sx * 8)))

/-- R107, R122, jr: a target that is not 8 B-aligned is fault 0x05. -/
def execJr (c : CoreId) (t : ThreadId) (f : FmtI) (s : State) : Out :=
  commit s (fun s => s.issue c t f.pg f.pn (f.ok false true false 0) false [f.a.toNat]
    (fun s x => if (x.sreg f.a.toNat).toNat % 8 ≠ 0 then .fault 0x05 (x.sreg f.a.toNat) else .jump s (x.sreg f.a.toNat)))

/-- R122, nop (opcode 0), and a word whose opcode Table 04.10 does not list: it is rejected at issue with fault 0x01 (assumption 119: the
row NOP carries such words). -/
def execNop (c : CoreId) (t : ThreadId) (f : FmtN) (s : State) : Out :=
  commit s (fun s => s.issue c t f.pg f.pn (f.op == 0 && f.ok false false false false 0) false [] (fun s _ => .done s))

/-- R92, end: the thread issues nothing more and waits, in PARK (DESIGN CHOICE, assumption 115: Table 04.2 has no row for it), for its stores and descriptors; its loads' data will be discarded. -/
def execEnd (c : CoreId) (t : ThreadId) (f : FmtA) (s : State) : Out :=
  commit s (fun s => s.issue c t f.pg f.pn (f.ok false false false false 0) false []
    (fun s _ => .parkAfter (s.modCore c (fun k =>
      let x := k.thread t
      { k.setThread t { x with ending := true } with
        far := k.far.map (fun r => if r.thread = t.val ∧ (r.kind = .ld ∨ r.kind = .vld) then { r with discard := true } else r) }))
      .none))

/-- R92: the ending thread's stores are acknowledged and its descriptors complete: its claim is released and it enters FREE. -/
def execEndComplete (c : CoreId) (t : ThreadId) (s : State) : Out :=
  commit s (fun s =>
    let k := s.core c
    let x := k.thread t
    if x.ending && k.quiet t then
      let k1 := (k.release t).settle
      if k1.claim = some t.val then s.setCore c k1
      else (((s.setCore c (k1.setThread t {})).threadEnded c t x.seq).resched c)
    else s)

/-- R88, yield: from RUN to READY. -/
def execYield (c : CoreId) (t : ThreadId) (f : FmtA) (s : State) : Out :=
  commit s (fun s => s.issue c t f.pg f.pn (f.ok false false false false 0) false []
    (fun s _ => .done (s.modThread c t (fun x => { x with st := .ready }))))

/-- Are all earlier far requests of a thread complete (R124)? -/
def Core.farDone (k : Core) (t : Nat) : Bool := k.far.all (fun r => r.thread != t || r.discard)

/-- R124, fence: scratchpad stores are visible at once; fence f parks while a far request of the thread is not complete. -/
def execFence (c : CoreId) (t : ThreadId) (f : FmtA) (s : State) : Out :=
  commit s (fun s => s.issue c t f.pg f.pn (f.ok false false false false 3 && f.fn != 0) false []
    (fun s _ => if f.fn.toNat.testBit 1 && !(s.core c).farDone t then .park s .fence else .done s))

/-- The control and status registers of Table 04.4; none for an address that the table does not list. -/
def State.csr (s : State) (c t : Nat) (a : Nat) : Option W64 :=
  let x := s.thread c t
  match a with
  | 0x000 => some (BitVec.ofNat 64 t)
  | 0x001 => some (BitVec.ofNat 64 c)
  | 0x002 => some (BitVec.ofNat 64 (s.cycles c))
  | 0x003 => some (BitVec.ofNat 64 x.ctx)
  | 0x004 => some (BitVec.ofNat 64 x.seq)
  | 0x005 => some (BitVec.ofNat 64 x.spBase)
  | 0x006 => some (BitVec.ofNat 64 x.spSize)
  | 0x007 => some (BitVec.ofNat 64 x.seMask)
  | 0x008 => some x.cvtTid
  | 0x009 => some x.park
  | 0x00A => some (if (s.core c).claim = some t ∧ !(s.core c).releasing then 1 else 0)
  | _ => none

/-- R95, csrr. -/
def execCsrr (c : CoreId) (t : ThreadId) (f : FmtI) (s : State) : Out :=
  commit s (fun s => s.issue c t f.pg f.pn (f.ok true false true 0 && decide (f.imm.toNat < 4096)) false [f.d.toNat]
    (fun s _ =>
      match s.csr c t f.imm.toNat with
      | some v => .done (s.putS c t f.d.toNat v)
      | none => .fault 0x0C (BitVec.ofNat 64 f.imm.toNat)))

/-- R95, csrw: only cvt_tid is RW. -/
def execCsrw (c : CoreId) (t : ThreadId) (f : FmtI) (s : State) : Out :=
  commit s (fun s => s.issue c t f.pg f.pn (f.ok false true true 0 && decide (f.imm.toNat < 4096)) false [f.a.toNat]
    (fun s x =>
      if f.imm.toNat = 0x008 then .done (s.modThread c t (fun y => { y with cvtTid := x.sreg f.a.toNat }))
      else .fault 0x0C (BitVec.ofNat 64 f.imm.toNat)))

/-- A far request appended, not yet in a slot (R100, R103). -/
def State.addFar (s : State) (c : Nat) (r : FarReq) : State :=
  (s.modCore c (fun k => { k with far := k.far ++ [{ r with id := k.nextFar }], nextFar := k.nextFar + 1 })).bump (oCore c 0x16) 1

/-- The fault code of naming a far address by a register (R100, R101, R315): 0x05 for bits [63:62] of the register or of the address,
misalignment, or a peer's address from league 0. -/
def State.farCode (s : State) (ctx : Nat) (reg a : W64) (align : Nat) : Nat :=
  if 2 ^ 62 ≤ reg.toNat ∨ 2 ^ 62 ≤ a.toNat ∨ a.toNat % align ≠ 0 then 0x05
  else if !s.isLocal a && s.leagueOf ctx == 0 then 0x05
  else 0

/-- The bank that the home mapping names for a local address (R130, R131), by column × 128 + bank; the lines of peers by R132. -/
def slotOf (l : Nat) : Nat := (List.range 6).foldl (fun x i => x ^^^ (l / 64 ^ i % 64)) 0

/-- The home column of a local address (R130): of a resident page, its frame's column. -/
def Page.homeCol (p : Page) (a : Nat) : Nat :=
  if p.loc = 1 ∨ p.loc = 2 then p.place / 2 ^ 23 % 128
  else if p.big then (p.place / 2 ^ 23 + (a - p.base) / 65536) % 96
  else p.place / 2 ^ 23 % 128

/-- A column's cache-local steering entry: tier × 17 + bank; by default that of R477. -/
def Column.localBank (k : Column) (slot : Nat) : Nat := Tab.get k.steerL (slot / 16 * 17 + slot % 16) slot

/-- The bank queue of a request (R102, R130–R132): column × 128 + bank. Of a peer's line it is the bank that the cache-remote steering
table names; where it names none, and of an unmapped address, no bank's cap is counted (DESIGN CHOICE, assumption 113). -/
def State.bankOf (s : State) (ga : W64) : Option Nat :=
  if s.isLocal ga then
    let a := localOf ga
    match s.pageAt a with
    | some p =>
      let c := p.homeCol a
      if p.loc = 1 ∨ p.loc = 2 then some (c * 128 + bitsOf p.place 22 21 * 17 + bitsOf p.place 20 16)
      else some (c * 128 + (Tab.get s.cols {} c).localBank (slotOf (a / 4096)))
    | none => none
  else
    let g := ga.toNat % 2 ^ 62 / 4096
    let b := Tab.get (Tab.get s.cols {} (g % 96)).steerR 0 (fold6 g)
    if b = 0 then none else some (g % 96 * 128 + b - 1)

/-- The requests of a core's stream engines that wait for a peer's acknowledgement, by slot and address. -/
def State.streamSlots (s : State) (c : Nat) : List (Nat × W64) :=
  ((s.fabric.outs.filter (fun (o : Outstanding) => o.core == c && o.slot != 0)).map (fun o => (o.slot, o.addr))).foldl
    (fun (l : List (Nat × W64)) e => if l.any (fun x => x.1 == e.1) then l else l ++ [e]) []

/-- Slots of a core in use: every thread's request that is past waiting, the stream engines' requests, and the slots granted to engines
(R102, R103). -/
def State.slotsHeld (s : State) (c : Nat) : Nat :=
  ((s.core c).far.filter (fun (r : FarReq) => r.stage != FarStage.waiting)).length + (s.streamSlots c).length +
    ((s.core c).se.filter (fun (e : Nat × StreamEng) => e.2.granted)).length

/-- Slots of a core on one bank. -/
def State.bankHeld (s : State) (c b : Nat) : Nat :=
  ((s.core c).far.filter (fun (r : FarReq) => r.stage != FarStage.waiting && s.bankOf r.addr == some b)).length +
    ((s.streamSlots c).filter (fun e => s.bankOf e.2 == some b)).length

/-- Is a request's bank at its cap of 12 (R102)? -/
def State.bankFull (s : State) (c : Nat) (a : W64) : Bool := (s.bankOf a).any (fun b => decide (12 ≤ s.bankHeld c b))

/-- May a request take a slot: one of 48 free, and fewer than 12 on its bank (R102)? -/
def State.slotFree (s : State) (c : Nat) (a : W64) : Bool := decide (s.slotsHeld c < 48) && !s.bankFull c a

/-- A thread issues a far request: it takes a slot at once where one is free for it, or the thread parks (Table 04.2, R102). A request that
waits for its bank's cap alone parks it too (DEDUCED, assumption 114: no slot is free for it). -/
def State.farIssue (s : State) (c t : Nat) (x : Thread) (reg a : W64) (r : FarReq) (align : Nat) : Act :=
  let code := s.farCode x.ctx reg a align
  if code ≠ 0 then .fault code a
  else
    let free := s.slotFree c a
    let s1 := s.addFar c { r with thread := t, ctx := x.ctx, addr := a, pc := x.pc, stage := if free then .slotted else .waiting }
    if free then .done s1 else .parkAfter s1 .farSlot

/-- R100, R101, ldf. -/
def execLdf (c : CoreId) (t : ThreadId) (f : FmtI) (s : State) : Out :=
  commit s (fun s => s.issue c t f.pg f.pn (f.ok true true true 0) false [f.d.toNat, f.a.toNat]
    (fun s x => s.farIssue c t x (x.sreg f.a.toNat) (x.sreg f.a.toNat + f.sx) { kind := .ld, dest := f.d.toNat } 8))

/-- R100, R101, stf. -/
def execStf (c : CoreId) (t : ThreadId) (f : FmtI) (s : State) : Out :=
  commit s (fun s => s.issue c t f.pg f.pn (f.ok true true true 0) false [f.d.toNat, f.a.toNat]
    (fun s x => s.farIssue c t x (x.sreg f.a.toNat) (x.sreg f.a.toNat + f.sx) { kind := .st, data := leBytes 8 (x.sreg f.d.toNat).toNat } 8))

/-- R140, amof: as amo, at the home of far address s[a]. -/
def execAmof (c : CoreId) (t : ThreadId) (f : FmtA) (s : State) : Out :=
  commit s (fun s => s.issue c t f.pg f.pn
    (f.ok true true true (f.fn.toNat % 8 == 2) 7 && decide (f.fn.toNat % 8 < 5)) false [f.d.toNat, f.a.toNat, f.b.toNat, f.c.toNat]
    (fun s x => s.farIssue c t x (x.sreg f.a.toNat) (x.sreg f.a.toNat)
      { kind := .amo (f.fn.toNat % 8) (x.sreg f.b.toNat) (x.sreg f.c.toNat), dest := f.d.toNat } 8))

/-- R476, wtw. -/
def execWtw (c : CoreId) (t : ThreadId) (f : FmtI) (errs : List (Nat × Bool)) (s : State) : Out :=
  commit s (fun s => s.issueE c t f.pg f.pn (f.ok true true true 7 && decide (f.fn.toNat % 4 < 3)) false [f.d.toNat, f.a.toNat] errs
    (fun s x =>
      let a := x.sreg f.a.toNat + f.sx
      let v := x.sreg f.d.toNat
      let k := f.fn.toNat % 4
      if f.fn.toNat.testBit 2 then
        if x.why = .wtw true a v k true then .done s
        else
          let code := s.farCode x.ctx (x.sreg f.a.toNat) a 8
          if code ≠ 0 then .fault code a
          else .park (s.addFar c { kind := .wtw, thread := t.val, ctx := x.ctx, addr := a, pc := x.pc,
                                   stage := if s.slotFree c a then .slotted else .waiting }) (.wtw true a v k false)
      else s.spAct c x a.toNat 8 8 true (fun s =>
        if wtwMet k (BitVec.ofNat 64 (s.spNat c x a.toNat 8)) v then .done s else .park s (.wtw false a v k false))))

/-- R476: a parked far wtw whose read came back without its condition reads again. -/
def execWtwReread (c : CoreId) (t : ThreadId) (s : State) : Out :=
  commit s (fun s =>
    let x := s.thread c t
    match x.st, x.why with
    | .park, .wtw true a _ _ false =>
      if (s.core c).far.any (fun r => r.thread == t.val && r.kind == .wtw && !r.discard) then s
      else s.addFar c { kind := .wtw, thread := t.val, ctx := x.ctx, addr := a, pc := x.pc,
                        stage := if s.slotFree c a then .slotted else .waiting }
    | _, _ => s)

/-- Bytes that a load or store moves. -/
def accSize (fn : BitVec 10) : Nat := 2 ^ (fn.toNat % 4)

/-- R122, lds: 1 to 8 bytes, sign-extended where fn[2] is 1. -/
def execLds (c : CoreId) (t : ThreadId) (f : FmtI) (errs : List (Nat × Bool)) (s : State) : Out :=
  commit s (fun s => s.issueE c t f.pg f.pn (f.ok true true true 7) false [f.d.toNat, f.a.toNat] errs
    (fun s x =>
      let off := (x.sreg f.a.toNat + f.sx).toNat
      let n := accSize f.fn
      s.spAct c x off n n true (fun s =>
        let v := s.spNat c x off n
        .done (s.putS c t f.d.toNat (if f.fn.toNat.testBit 2 then BitVec.ofInt 64 (toSigned (8 * n) v) else BitVec.ofNat 64 v)))))

/-- The blocks that queued tk.mrg instructions are yet to read, as addresses and bytes: each with the rows that the tk.init
instructions queued before it leave in use (R80, R82). -/
def mrgBlocks : Nat → List ArrayOp → List (Nat × Nat)
  | _, [] => []
  | rows, o :: r =>
    match o with
    | .tkInit _ m _ => mrgBlocks m r
    | .tkMrg addr ks _ => (addr, rows * (8 + 8 * ks)) :: mrgBlocks rows r
    | _ => mrgBlocks rows r

/-- Do two ranges of scratchpad touch a common 1 KiB granule? -/
def granulesMeet (a n b m : Nat) : Bool :=
  m != 0 && n != 0 && decide (a / 1024 ≤ (b + m - 1) / 1024) && decide (b / 1024 ≤ (a + n - 1) / 1024)

/-- Is a scratchpad store held until a queued tk.mrg has read its block (R80, Table 04.12a)? -/
def Core.mrgHold (k : Core) (a n : Nat) : Bool := (mrgBlocks k.tk.rows k.aq).any (fun e => granulesMeet a n e.1 e.2)

/-- R122, sts. -/
def execSts (c : CoreId) (t : ThreadId) (f : FmtI) (s : State) : Out :=
  commit s (fun s => s.issue c t f.pg f.pn (f.ok true true true 3) false [f.d.toNat, f.a.toNat]
    (fun s x =>
      let off := (x.sreg f.a.toNat + f.sx).toNat
      let n := accSize f.fn
      s.spAct c x off n n false (fun s =>
        if (s.core c).claim = some t.val && (s.core c).mrgHold (x.phys off) n then .stall
        else .done (s.writeSp c x off (leBytes n (x.sreg f.d.toNat).toNat)))))

/-- R122, amo: an atomic on an 8 B scratchpad word; s[d] takes the old value. -/
def execAmo (c : CoreId) (t : ThreadId) (f : FmtA) (errs : List (Nat × Bool)) (s : State) : Out :=
  commit s (fun s => s.issueE c t f.pg f.pn
    (f.ok true true true (f.fn.toNat % 8 == 2) 7 && decide (f.fn.toNat % 8 < 5)) false [f.d.toNat, f.a.toNat, f.b.toNat, f.c.toNat] errs
    (fun s x =>
      let off := (x.sreg f.a.toNat).toNat
      s.spAct c x off 8 8 true (fun s =>
        if (s.core c).claim = some t.val && (s.core c).mrgHold (x.phys off) 8 then .stall
        else
          let old := BitVec.ofNat 64 (s.spNat c x off 8)
          let new := amoResult (f.fn.toNat % 8) old (x.sreg f.b.toNat) (x.sreg f.c.toNat)
          .done ((s.writeSp c x off (leBytes 8 new.toNat)).putS c t f.d.toNat old))))

/-- Has a parked thread's condition ended (Table 04.2)? -/
def State.wakeable (s : State) (c t : Nat) : Bool :=
  let k := s.core c
  let x := k.thread t
  match x.why with
  | .none => false
  | .farData regs => regs.all (fun r => !k.farPending t r)
  | .farSlot => k.far.all (fun r => r.thread != t || r.discard || r.stage != .waiting)
  | .stWait e target => decide (((Tab.get k.se {} e).done - BitVec.ofNat 32 target).toNat < 2 ^ 31) || Tab.get x.stFault 0 e != 0
  | .stGo e => decide ((Tab.get k.se {} e).queue.length < 4) || Tab.get x.stFault 0 e != 0
  | .wtw false a v cd _ => wtwMet cd (BitVec.ofNat 64 (s.spNat c x a.toNat 8)) v
  | .wtw true _ _ _ met => met
  | .claim => k.claim == some t && !k.releasing
  | .fence => k.farDone t

/-- R90: a parked thread whose condition has ended becomes READY. -/
def execThreadWake (c : CoreId) (t : ThreadId) (s : State) : Out :=
  commit s (fun s =>
    if (s.thread c t).st = .park && !(s.thread c t).ending && s.wakeable c t then (s.ready c t).resched c else s)

/-- R89: after 4,096 consecutive cycles the running thread is pre-empted while another is READY; a claimant's precedence is then
suspended for 64 cycles. -/
def execThreadPreempt (c : CoreId) (s : State) : Out :=
  commit s (fun s =>
    let k := s.core c
    match k.running with
    | none => s
    | some r =>
      if (k.nextReady (some r)).isSome then
        let k1 := k.setThread r { k.thread r with st := .ready }
        (s.setCore c { k1 with susp := if k.claim = some r then 64 else k1.susp }).resched c
      else s)

end Sys2Proof.Machine
end

