-- ==== Sys2Proof/Machine/Clock.lean ====
section
/-! DEFINITION. What happens on an empty queue: one cycle of the control complex, and what the clusters and tiers count meanwhile
(R16, R86, R91, R102, R143; assumption 2). -/

namespace Sys2Proof.Machine

/-- Do the clusters' and tiers' clocks run: not after the trip (R433), not in STOPPED (R435)? -/
def State.clocksRun (s : State) : Bool := !s.power.tripped && s.devState != stStopped

/-- Cycles that cluster k makes in this control cycle; k = 8 is the tier clock. -/
def State.ticks (s : State) (k : Nat) : Nat := if s.clocksRun then Config.clusterCycles (9 * s.fresh + k) else 0

/-- The clusters' cycle counts after the cycle. -/
def clusterTick (s : State) : Tab Nat := (List.range 8).foldl (fun t k => Tab.set t 0 k (Tab.get t 0 k + s.ticks k)) s.dev.cyc

/-- What a core counts over some of its cycles: those that its threads are parked, all-parked cycles, and waits for a slot or for a bank
alone. Slot-full cycles are those in which a request also waits (DEDUCED, assumption 116). -/
def State.coreTick (s : State) (c d : Nat) : State :=
  let k := s.core c
  let waits := k.far.filter (fun (r : FarReq) => r.stage == FarStage.waiting)
  let full := decide (48 ≤ s.slotsHeld c)
  let ts := k.threads.map (fun (e : Nat × Thread) => (e.1, if e.2.st = .park then { e.2 with park := e.2.park + BitVec.ofNat 64 d } else e.2))
  let s1 := s.setCore c { k with threads := ts }
  let s2 := s1.when k.allParked (fun s => s.bump (oCore c 0x15) d)
  let s3 := s2.when (full && !waits.isEmpty) (fun s => s.bump (oCore c 0x18) d)
  s3.when (!full && waits.any (fun r => s.bankFull c r.addr)) (fun s => s.bump (oCore c 0x17) d)

/-- An idle step. -/
def idle (s : State) : State :=
  let s1 := s.forAll (s.cores.map Prod.fst) (fun s c => s.coreTick c (s.ticks (clusterOf c)))
  let cols := s1.cols.map (fun (e : Nat × Column) => (e.1, if e.2.freeMshr = 0 then { e.2 with fullCycles := e.2.fullCycles + s.ticks 8 } else e.2))
  { s1 with cols := cols, dev := { s1.dev with ctlCyc := s1.dev.ctlCyc + 1, cyc := clusterTick s }, fresh := s.fresh + 1 }

end Sys2Proof.Machine
end

