-- ==== Sys2Proof/Machine/Wr.lean ====
section
/-! DEFINITION. Dictionary writes: sessions, the checks of Table 12.7 in order, and how a write command answers (R359–R362, R364,
R366, R368, R474). -/

namespace Sys2Proof.Machine

/-! ## Statuses (Table 12.7) -/

def dOk : Nat := 0x00
def dOp : Nat := 0x01
def dSession : Nat := 0x02
def dNoobj : Nat := 0x03
def dAccess : Nat := 0x04
def dLevel : Nat := 0x05
def dType : Nat := 0x06
def dRes : Nat := 0x07
def dRows : Nat := 0x08
def dRange : Nat := 0x09
def dBusy : Nat := 0x0A
def dState : Nat := 0x0B
def dPart : Nat := 0x0C
def dRoom : Nat := 0x0D
def dSkipped : Nat := 0x0E

/-- A write's outcome: the state and the status. -/
abbrev Wr := State × Nat

/-! ## Sessions (R364) -/

/-- The mailbox session's number. -/
def mailboxSession : Nat := 0xFFFFFFFF

/-- The number of the session in a slot. -/
def sessionNo (slot : Nat) (x : Session) : Nat := x.opens * 32 + slot

/-- An open session by its number. -/
def State.session (s : State) (n : Nat) : Option Session :=
  if n = mailboxSession then some s.mgmt.mbSession
  else
    let x := Tab.get s.mgmt.sessions {} (n % 32)
    if x.isOpen ∧ sessionNo (n % 32) x = n then some x else none

def State.setSession (s : State) (n : Nat) (x : Session) : State :=
  if n = mailboxSession then { s with mgmt := { s.mgmt with mbSession := x } }
  else { s with mgmt := { s.mgmt with sessions := Tab.set s.mgmt.sessions {} (n % 32) x } }

/-- A session's level: 0 none, 1 owner, 2 vendor. -/
def State.level (s : State) (n : Nat) : Nat :=
  match s.session n with
  | some x => x.level
  | none => 0

/-! ## Checks of a written value -/

/-- The vendor scope bit that covers an RWV object (Table 15.1). -/
def scopeBit (key : Nat) : Nat := if key = objKey 0x2900 0x0B then 0 else 1

/-- May the session write the object (Table 12.5)? 0 where it may. -/
def State.accessCode (s : State) (sess : Nat) (r : ObjRow) (key : Nat) : Nat :=
  match r.acc with
  | 3 => dOk
  | 4 => dOk
  | 5 => if 1 ≤ s.level sess then dOk else dLevel
  | 6 => if (s.obj (objKey 0x1200 0x0A)).testBit (scopeBit key) then dOk else dLevel
  | _ => dAccess

/-- UTF-8 well-formedness of a byte string (R359). -/
def utf8Ok : List Nat → Nat → Bool
  | [], k => k == 0
  | b :: r, 0 =>
    if b < 0x80 then utf8Ok r 0
    else if 0xC2 ≤ b ∧ b < 0xE0 then utf8Ok r 1
    else if 0xE0 ≤ b ∧ b < 0xF0 then
      (match r with
        | c :: _ => (b != 0xE0 || 0xA0 ≤ c) && (b != 0xED || c < 0xA0) && utf8Ok r 2
        | [] => false)
    else if 0xF0 ≤ b ∧ b < 0xF5 then
      (match r with
        | c :: _ => (b != 0xF0 || 0x90 ≤ c) && (b != 0xF4 || c < 0x90) && utf8Ok r 3
        | [] => false)
    else false
  | b :: r, k + 1 => 0x80 ≤ b && b < 0xC0 && utf8Ok r k

/-- Is the length one that the type takes (R359)? -/
def lenOk (r : ObjRow) (n : Nat) : Bool :=
  if r.ty = 9 then r.ok.any (fun p => p.1 ≤ n && n ≤ p.2)
  else if r.ty = 8 then n ≤ 256
  else n == r.size

/-- Is the value within its type and the Range column? -/
def rangeOk (r : ObjRow) (data : List Byte) : Bool :=
  let v := leNat data
  if r.ty = 9 then true
  else if r.ty = 8 then utf8Ok (data.map BitVec.toNat) 0
  else if r.ty = 7 ∧ v / 2 ^ 23 % 256 = 255 then false
  else r.ok.isEmpty || r.ok.any (fun p => p.1 ≤ v && v ≤ p.2)

/-- Bits of a written value that are res (R445). -/
def resBits (key v : Nat) : Bool := key == objKey 0x1200 6 && v / 4 != 0

/-- The start-up phase with whose end the unit behind an index has started (R474): the deck and the cores with TIER_TEST, the keeper's
memory with MEM_TRAIN, the rest with the control cores. -/
def unitPhase (idx : Nat) : Nat :=
  if idx = 0x2400 ∨ idx = 0x2401 ∨ idx = 0x2402 ∨ idx = 0x2430 then 0x50
  else if idx = 0x2410 ∨ idx = 0x2411 ∨ 0x3000 ≤ idx ∧ idx < 0x3200 then 0x40
  else if idx < 0x1300 ∨ idx = 0x1010 then 0x20
  else 0x30

/-- Has the unit behind an index started? -/
def State.started (s : State) (idx : Nat) : Bool := decide (unitPhase idx ≤ s.dev.phase)

/-- The checks of a write to an object before its subject's own, in the order of Table 12.7. -/
def State.valueCheck (s : State) (sess key : Nat) (data : List Byte) : Nat :=
  match findRow (key / 256) (key % 256) with
  | none => dNoobj
  | some r =>
    let a := s.accessCode sess r key
    if a ≠ dOk then a
    else if r.ty = 10 ∨ !lenOk r data.length then dType
    else if resBits key (leNat data) then dRes
    else if !rangeOk r data then dRange
    else if !s.started (key / 256) then dBusy
    else dOk

/-- The same in a frame, whose session must be open. -/
def State.writeCheck (s : State) (sess key : Nat) (data : List Byte) : Nat :=
  if sess = 0 ∨ (s.session sess).isNone then dSession else s.valueCheck sess key data

/-- Write commands with a subject of their own: the checks, then the subject, then the status to the session (R368). -/
def writeSubject (sess key : Nat) (data : List Byte) (f : State → Wr) (s : State) : State :=
  let c := s.writeCheck sess key data
  if c ≠ dOk then s.emit (.opStatus sess c)
  else
    let r := f s
    if r.2 = dOk then r.1.emit (.opStatus sess dOk) else s.emit (.opStatus sess r.2)

/-- The bytes of a number that a command writes: one byte more than the object's where it does not fit, which is the wrong length. -/
def numBytes (key v : Nat) : List Byte :=
  match findRow (key / 256) (key % 256) with
  | some r => if v < 2 ^ (8 * r.size) then leBytes r.size v else leBytes (r.size + 1) v
  | none => leBytes 8 v

/-- A plain write: the object takes the value. -/
def State.wrPlain (s : State) (key v : Nat) : Wr := (s.setObj key v, dOk)

/-- A write command of a number. -/
def writeNum (sess key v : Nat) (f : State → Wr) (s : State) : Out := commit s (writeSubject sess key (numBytes key v) f)

end Sys2Proof.Machine
end

