-- ==== Sys2Proof/Machine/Scorebook.lean ====
section
/-! DEFINITION. The scorebook's own commands: token buckets, the flash ring, clearing (R451, R453, R454). -/

namespace Sys2Proof.Machine

/-- R451: a bucket below full gains a token. -/
def execTokenRefill (code : Nat) (s : State) : Out :=
  commit s (fun s =>
    let b := Tab.get s.book.buckets {} code
    { s with book := { s.book with buckets := Tab.set s.book.buckets {} code { b with missing := b.missing - 1 } } })

/-- How many tokens a bucket of size `old` with `missing` lacks once the size is `new`: tokens are clipped, never added (R451). -/
def resizeBucket (old new missing : Nat) : Nat := new - min new (old - missing)

/-- R451: the burst size written; every bucket keeps its tokens, clipped at the new size. -/
def State.wrBurst (s : State) (v : Nat) : Wr :=
  let old := s.obj oBurst
  let codes := (eventTable.filter (fun e => e.2 < 5)).map Prod.fst
  let t := codes.foldl (fun t c =>
    let b := Tab.get s.book.buckets {} c
    Tab.set t {} c { b with missing := resizeBucket old v b.missing }) s.book.buckets
  ({ s with book := { s.book with buckets := t } }.setObj oBurst v, dOk)

/-- R451, a write to 2800:08. -/
def execBurstWrite (sess v : Nat) (s : State) : Out := writeNum sess oBurst v (fun s => s.wrBurst v) s

/-! ## The flash ring (R453) -/

/-- Entries of the flash ring, and of one of its sectors. -/
def ringSize : Nat := 131072
def ringSector : Nat := 2048

/-- An entry appended to the ring; a full ring loses its oldest sector first. -/
def ringPush (l : List Entry) (e : Entry) : List Entry := (if ringSize ≤ l.length then l.drop ringSector else l) ++ [e]

/-- May an entry go to flash: no erase runs, but for step 3 of the orderly stop, which pauses it (R454)? -/
def State.ringOpen (s : State) : Bool := !s.book.erasing || s.dev.stop.any (fun x => x.step == 3)

/-- The oldest entry that waits is written, or fails: event 0x2802 once per boot. -/
def State.ringWrite (s : State) (ok : Bool) : State :=
  match s.book.toFlash with
  | [] => s
  | e :: r =>
    if ok then { s with flash := { s.flash with ring := ringPush s.flash.ring e }, book := { s.book with toFlash := r, retrying := false } }
    else
      let s1 := { s with book := { s.book with retrying := true, told := true } }
      if s.book.told then s1 else s1.event 0x2802 srcBook [(4, e.seq)]

/-- R453: an entry of severity 5 and above is written to the ring. -/
def execFlashRingWrite (ok : Bool) (s : State) : Out :=
  commit s (fun s => if s.ringOpen ∧ !s.book.retrying then s.ringWrite ok else s)

/-- R453: the retry, once a second. -/
def execFlashRingRetry (ok : Bool) (s : State) : Out :=
  commit s (fun s => if s.ringOpen ∧ s.book.retrying then s.ringWrite ok else s)

/-! ## Clearing (R454) -/

/-- Is an entry a CLEAR? -/
def Entry.isClear (e : Entry) : Bool := e.code == 0x2801

/-- Entries that a clear removes, or keeps: CLEAR entries and those from its own on. -/
def Entry.kept (sq : Nat) (e : Entry) : Bool := e.isClear || decide (sq ≤ e.seq)

/-- R454: the CLEAR entry, and everything before it but CLEAR entries removed; the erase of the ring begins. -/
def State.wrClear (sess : Nat) (s : State) (_v : Nat) : Wr :=
  if s.book.erasing then (s, dState)
  else
    let n := (s.book.entries.filter (fun e => !e.isClear)).length
    let m := (s.flash.ring.filter (fun e => !e.isClear)).length
    let sq := s.obj oLastSeq + 1
    let s1 := s.event 0x2801 srcBook [(1, s.level sess), (4, n), (4, m)]
    let b := { s1.book with
      entries := s1.book.entries.filter (Entry.kept sq)
      toFlash := s1.book.toFlash.filter (Entry.kept sq)
      erasing := true
      clearSeq := sq }
    (({ s1 with book := b }.setObj oDropped 0).setObj oSuppressed 0, dOk)

/-- R454, a write to 2800:06. -/
def execClearScorebook (sess v : Nat) (s : State) : Out := writeNum sess (objKey 0x2800 6) v (fun s => s.wrClear sess v) s

/-- R454: the erase ends; it pauses while step 3 of the orderly stop runs. -/
def execScorebookEraseDone (s : State) : Out :=
  commit s (fun s =>
    if !s.book.erasing ∨ s.dev.stop.any (fun x => x.step == 3) then s
    else { s with
      flash := { s.flash with ring := s.flash.ring.filter (Entry.kept s.book.clearSeq) }
      book := { s.book with erasing := false } })

end Sys2Proof.Machine
end

