-- ==== Sys2Proof/Machine/Access.lean ====
section
/-! DEFINITION. Access control: the owner password and its lockout, vendor scopes, test access and JTAG (R439–R446). -/

namespace Sys2Proof.Machine

/-- This device's serial number, 1000:03. -/
def serial : List Byte := (List.range 16).map Config.serialByte

/-! ## The lockout (R442) -/

/-- Milliseconds of the lockout left, 1200:05. -/
def State.lockoutLeft (s : State) : Nat := s.access.lockoutMs - (s.dev.ctlCyc - s.access.lockoutAt) / 1200000

/-- The lockout after F failures, in s (Table 15.3). -/
def lockoutFor (f : Nat) : Nat := if f < 5 then 0 else min (60 * 2 ^ min (f - 5) 6) 3600

def State.setLockout (s : State) (sec : Nat) : State :=
  { s with access := { s.access with lockoutMs := sec * 1000, lockoutAt := s.dev.ctlCyc } }

/-- The copy of the owner record that is read (Table 15.2, handled as the boot record). -/
def Flash.ownerRec (f : Flash) : Nat × OwnerRec :=
  match f.ownerA, f.ownerB with
  | some a, some b => if b.1 < a.1 then a else b
  | some a, none => a
  | none, some b => b
  | none, none => (0, {})

/-- A change of the owner record goes into the copy that is not read, with the next number. -/
def Flash.saveOwner (f : Flash) (o : OwnerRec) : Flash :=
  let r := f.ownerRec
  let m := ((r.1 + 1) % 2 ^ 32, o)
  if f.ownerA = some r then { f with owner := o, ownerB := some m } else { f with owner := o, ownerA := some m }

/-- The copy of the owner record last written is lost in a power loss. -/
def Flash.tearOwner (f : Flash) : Flash :=
  if f.ownerA.isNone ∨ f.ownerB.isNone then f else if f.ownerA = some f.ownerRec then { f with ownerA := none } else { f with ownerB := none }

/-- A change of the owner record, into the copy not read. -/
def State.setOwner (s : State) (o : OwnerRec) : State := { s with flash := s.flash.saveOwner o }

/-- The level of a session set. -/
def State.setLevel (s : State) (sess lv : Nat) : State :=
  match s.session sess with
  | some x => s.setSession sess { x with level := lv }
  | none => s

/-- Does an entry match (R441)? With no password set it is the serial number. -/
def OwnerRec.accepts (o : OwnerRec) (entry : List Byte) : Bool :=
  if o.state = 1 then Config.sha384 (o.salt ++ entry) == o.hash else entry == serial

/-- R441, R442: an attempt is counted before it is compared; a mismatch from the fifth on begins a lockout. -/
def State.wrPassword (sess : Nat) (entry : List Byte) (s : State) : Wr :=
  if s.lockoutLeft ≠ 0 then (s, dState)
  else
    let o := s.flash.owner
    let f := min (o.failures + 1) (2 ^ 32 - 1)
    let s := s.setOwner { o with failures := f }
    if o.accepts entry then
      (((s.setOwner { o with failures := 0 }).setLevel sess (max 1 (s.level sess))).event 0x1201 srcSecurity [(4, sess)], dOk)
    else
      let s1 := s.event 0x1202 srcSecurity [(4, sess), (4, f)]
      if f < 5 then (s1, dOk) else ((s1.setLockout (lockoutFor f)).event 0x1203 srcSecurity [(4, f), (4, lockoutFor f)], dOk)

/-- R441, a write to 1200:02. -/
def execOwnerPasswordEntry (sess : Nat) (entry : List Byte) (s : State) : Out :=
  commit s (writeSubject sess (objKey 0x1200 2) entry (fun s => s.wrPassword sess entry))

/-- R442: the lockout's time has passed. -/
def execLockoutExpire (s : State) : Out := commit s (fun s => s.setLockout 0)

/-- Bytes of the random generator, a fresh draw. -/
def State.random (s : State) (n : Nat) : List Byte := (List.range n).map (Config.randomByte s.fresh)

/-- R443: a new password; one shorter than 8 bytes is rejected. -/
def State.wrNewPassword (sess : Nat) (entry : List Byte) (s : State) : Wr :=
  if entry.length < 8 then (s, dState)
  else
    let salt := s.random 32
    (((({ s with fresh := s.fresh + 1 }.setOwner { state := 1, salt := salt, hash := Config.sha384 (salt ++ entry) }).setLockout 0).event
      0x1204 srcSecurity [(4, sess)]), dOk)

/-- R443, a write to 1200:03. -/
def execNewOwnerPassword (sess : Nat) (entry : List Byte) (s : State) : Out :=
  commit s (writeSubject sess (objKey 0x1200 3) entry (fun s => s.wrNewPassword sess entry))

/-- R444: the session's level returns to 0; no scope closes. -/
def State.wrLeave (sess : Nat) (s : State) (_v : Nat) : Wr := (s.setLevel sess 0, dOk)

/-- R444, a write to 1200:0B. -/
def execLeaveLevel (sess v : Nat) (s : State) : Out := writeNum sess (objKey 0x1200 0x0B) v (fun s => s.wrLeave sess v) s

/-! ## Vendor scope (R445, R446) -/

def oScopes : Nat := objKey 0x1200 0x0A

/-- R445: a fresh challenge, bound to the session; it replaces a live one. -/
def State.wrScope (sess : Nat) (s : State) (v : Nat) : Wr :=
  let c : Challenge := { sess := sess, scope := v, bytes := s.random 32 ++ serial ++ leBytes 4 v ++ leBytes 4 0 }
  ({ s with fresh := s.fresh + 1, access := { s.access with challenge := some c } }, dOk)

/-- R445, a write to 1200:06. -/
def execVendorScopeRequest (sess v : Nat) (s : State) : Out := writeNum sess (objKey 0x1200 6) v (fun s => s.wrScope sess v) s

/-- R445: 300 s after it was issued the challenge lapses. -/
def execVendorChallengeExpire (s : State) : Out := commit s (fun s => { s with access := { s.access with challenge := none } })

/-- A row of 1200:08. -/
def State.responseRow (s : State) (i : Nat) : List Byte := Tab.get s.access.response (List.replicate 64 0) i

/-- ASCII bytes of a name. -/
def ascii (t : String) : List Byte := t.toList.map (fun c => BitVec.ofNat 8 c.toNat)

/-- Is a response to a challenge right: two signatures over the digest, by the keys of the running manifest (R446)? -/
def State.responseOk (s : State) (c : Challenge) (len : Nat) : Bool :=
  let r := ((List.range 64).flatMap s.responseRow).take len
  let d := Config.sha384 (ascii "BXZ-VENDOR-SCOPE" ++ c.bytes)
  len == 3373 && Config.edVerify s.dev.running.edkey d (r.take 64) && Config.mlVerify s.dev.running.mlkey d (r.drop 64)

/-- R446: the response is verified and the challenge consumed. -/
def State.wrResponse (sess : Nat) (s : State) (v : Nat) : Wr :=
  match s.access.challenge with
  | none => (s, dState)
  | some c =>
    if c.sess ≠ sess then (s, dState)
    else
      let s1 := { s with access := { s.access with challenge := none, response := [] } }
      if s.responseOk c v then
        (((((s1.setLevel sess 2).setObj oScopes (s.obj oScopes ||| c.scope)).setOwner { s.flash.owner with failures := 0 }).setLockout 0).event
          0x1210 srcSecurity [(4, sess), (4, c.scope)], dOk)
      else (s1.event 0x1211 srcSecurity [(4, sess), (2, v)], dOk)

/-- R446, a write to 1200:09. -/
def execVendorResponseLength (sess v : Nat) (s : State) : Out :=
  writeNum sess (objKey 0x1200 9) v (fun s => s.wrResponse sess v) s

/-! ## Test access and JTAG (R439, R440) -/

/-- R439, R440: an item opened stays open until RESET; opening adds event 0x1212. -/
def State.wrOpenPath (sub : Nat) (s : State) (v : Nat) : Wr :=
  if v = 1 then ((s.setObj (objKey 0x2900 sub) 1).event 0x1212 srcSecurity [(1, sub)], dOk)
  else if s.obj (objKey 0x2900 sub) = 1 then (s, dState)
  else (s, dOk)

/-- R440, a write to 2900:0B. -/
def execTestAccessEnable (sess v : Nat) (s : State) : Out := writeNum sess (objKey 0x2900 0x0B) v (fun s => s.wrOpenPath 0x0B v) s

/-- R440, a write to 2900:0C. -/
def execJtagEnable (sess v : Nat) (s : State) : Out := writeNum sess (objKey 0x2900 0x0C) v (fun s => s.wrOpenPath 0x0C v) s

end Sys2Proof.Machine
end

