-- ==== Sys2Proof/Machine/Vector.lean ====
section
/-! DEFINITION. The vector instructions (R93, R94, R123; opcodes 0x40–0x5F, 0x73, 0x74). -/

namespace Sys2Proof.Machine

/-- Lane widths of the lane types: FP32, BF16, FP16, INT32, INT16, INT8. -/
def laneW (ty : Nat) : Nat :=
  match ty with
  | 0 => 32
  | 1 => 16
  | 2 => 16
  | 3 => 32
  | 4 => 16
  | _ => 8

/-- The floating-point layout of a lane type. -/
def laneFmt (ty : Nat) : Option FloatFmt :=
  match ty with
  | 0 => some fp32
  | 1 => some bf16
  | 2 => some fp16
  | _ => none

/-- The lanes of a register, and back. -/
def lanesOf (w : Nat) (v : VReg) : List Nat := (List.range (2048 / w)).map (fun i => v.toNat / 2 ^ (w * i) % 2 ^ w)
def ofLanes (w : Nat) (l : List Nat) : VReg := BitVec.ofNat 2048 (packNat w l)

/-- A floating-point operation rounded once to nearest even (R123), or an integer one that wraps. -/
def laneOp (ty : Nat) (fl : Num → Num → Num) (it : Int → Int → Int) (a b : Nat) : Nat :=
  match laneFmt ty with
  | some f => f.ieee .rne (fl (f.decode a) (f.decode b))
  | none => ofSigned (laneW ty) (it (toSigned (laneW ty) a) (toSigned (laneW ty) b))

/-- The smaller and the larger of two values: NaN where either is, −0 below +0 (IEEE 754 minimum and maximum). -/
def numMin (x y : Num) : Num := if x.isNan || y.isNan then .nan else if Num.below y x then y else x
def numMax (x y : Num) : Num := if x.isNan || y.isNan then .nan else if Num.below x y then y else x

def vAdd (ty a b : Nat) : Nat := laneOp ty Num.add (· + ·) a b
def vSub (ty a b : Nat) : Nat := laneOp ty Num.sub (· - ·) a b
def vMul (ty a b : Nat) : Nat := laneOp ty Num.mul (· * ·) a b
def vMin (ty a b : Nat) : Nat := laneOp ty numMin min a b
def vMax (ty a b : Nat) : Nat := laneOp ty numMax max a b
def vAbs (ty a _b : Nat) : Nat := laneOp ty (fun x _ => x.abs) (fun x _ => (x.natAbs : Int)) a a
def vNeg (ty a _b : Nat) : Nat := laneOp ty (fun x _ => x.neg) (fun x _ => -x) a a
/-- v[a] × v[b] + v[c], rounded once. -/
def vFma (ty a b c : Nat) : Nat :=
  match laneFmt ty with
  | some f => f.ieee .rne (Num.add (Num.mul (f.decode a) (f.decode b)) (f.decode c))
  | none => ofSigned (laneW ty) (toSigned (laneW ty) a * toSigned (laneW ty) b + toSigned (laneW ty) c)
def vAnd (_ty a b : Nat) : Nat := a &&& b
def vOr (_ty a b : Nat) : Nat := a ||| b
def vXor (_ty a b : Nat) : Nat := a ^^^ b
/-- A shift by the lane of v[b]; by the lane's width or more the spec states no result (assumption 12). -/
def vShl (ty a b : Nat) : Nat :=
  if b < laneW ty then a * 2 ^ b % 2 ^ laneW ty else Config.freeFn 0x57 [ty, a, b] % 2 ^ laneW ty
def vShr (ty a b : Nat) : Nat :=
  if b < laneW ty then a / 2 ^ b else Config.freeFn 0x58 [ty, a, b] % 2 ^ laneW ty

/-- v[d] ← a lane operation of v[a], v[b] and v[c], under the lanes' guard; `n` sources. -/
def vecOp (c : CoreId) (t : ThreadId) (f : FmtA) (n : Nat) (fp32Only : Bool) (op : Nat → Nat → Nat → Nat → Nat) (s : State) : Out :=
  commit s (fun s => s.issue c t f.pg f.pn
    (f.ok true true (decide (2 ≤ n)) (decide (3 ≤ n)) 0xE000 && f.laneOk && (!fp32Only || f.lane == 0)) true
    (([f.d.toNat, f.a.toNat] ++ (if 2 ≤ n then [f.b.toNat] else []) ++ (if 3 ≤ n then [f.c.toNat] else [])).map (32 + ·))
    (fun s x =>
      let w := laneW f.lane
      let a := lanesOf w (x.vreg f.a.toNat)
      let b := lanesOf w (x.vreg f.b.toNat)
      let e := lanesOf w (x.vreg f.c.toNat)
      let r := List.zipWith (fun a be => op f.lane a be.1 be.2) a (List.zip b e)
      .done (s.putV c t f.d.toNat (x.guard f.pg f.pn) (ofLanes w r))))

/-- Two sources. -/
def vec2 (c : CoreId) (t : ThreadId) (f : FmtA) (op : Nat → Nat → Nat → Nat) (s : State) : Out :=
  vecOp c t f 2 false (fun ty a b _ => op ty a b) s

/-- One source. -/
def vec1 (c : CoreId) (t : ThreadId) (f : FmtA) (op : Nat → Nat → Nat → Nat) (s : State) : Out :=
  vecOp c t f 1 false (fun ty a b _ => op ty a b) s

/-- R123, vadd: lanewise sum. -/
def execVadd (c : CoreId) (t : ThreadId) (f : FmtA) (s : State) : Out := vec2 c t f vAdd s

/-- R123, vsub: lanewise difference. -/
def execVsub (c : CoreId) (t : ThreadId) (f : FmtA) (s : State) : Out := vec2 c t f vSub s

/-- R123, vmul: lanewise product. -/
def execVmul (c : CoreId) (t : ThreadId) (f : FmtA) (s : State) : Out := vec2 c t f vMul s

/-- R123, vmin: lanewise minimum. -/
def execVmin (c : CoreId) (t : ThreadId) (f : FmtA) (s : State) : Out := vec2 c t f vMin s

/-- R123, vmax: lanewise maximum. -/
def execVmax (c : CoreId) (t : ThreadId) (f : FmtA) (s : State) : Out := vec2 c t f vMax s

/-- R123, vand: lanewise and. -/
def execVand (c : CoreId) (t : ThreadId) (f : FmtA) (s : State) : Out := vec2 c t f vAnd s

/-- R123, vor: lanewise or. -/
def execVor (c : CoreId) (t : ThreadId) (f : FmtA) (s : State) : Out := vec2 c t f vOr s

/-- R123, vxor: lanewise exclusive or. -/
def execVxor (c : CoreId) (t : ThreadId) (f : FmtA) (s : State) : Out := vec2 c t f vXor s

/-- R123, vshl: lanes shifted left. -/
def execVshl (c : CoreId) (t : ThreadId) (f : FmtA) (s : State) : Out := vec2 c t f vShl s

/-- R123, vshr: lanes shifted right logically. -/
def execVshr (c : CoreId) (t : ThreadId) (f : FmtA) (s : State) : Out := vec2 c t f vShr s

/-- R123, vabs: lanewise absolute value. -/
def execVabs (c : CoreId) (t : ThreadId) (f : FmtA) (s : State) : Out := vec1 c t f vAbs s

/-- R123, vneg: lanewise negation. -/
def execVneg (c : CoreId) (t : ThreadId) (f : FmtA) (s : State) : Out := vec1 c t f vNeg s

/-- R123, vfma: v[a] × v[b] + v[c], rounded once. -/
def execVfma (c : CoreId) (t : ThreadId) (f : FmtA) (s : State) : Out := vecOp c t f 3 false vFma s

/-- A function of FP32 lanes, correctly rounded (R123). -/
def vecFun (c : CoreId) (t : ThreadId) (f : FmtA) (g : Num → Num) (s : State) : Out :=
  vecOp c t f 1 true (fun _ a _ _ => fp32.ieee .rne (g (fp32.decode a))) s

/-- R123, vdiv. -/
def execVdiv (c : CoreId) (t : ThreadId) (f : FmtA) (s : State) : Out :=
  vecOp c t f 2 true (fun _ a b _ => fp32.ieee .rne (Num.div (fp32.decode a) (fp32.decode b))) s

/-- R123, vsqrt. -/
def execVsqrt (c : CoreId) (t : ThreadId) (f : FmtA) (s : State) : Out := vecFun c t f Num.sqrt s

/-- R123, vrcp: 1/x. -/
def execVrcp (c : CoreId) (t : ThreadId) (f : FmtA) (s : State) : Out := vecFun c t f (Num.div (Num.ofInt 1)) s

/-- R123, vrsq: 1/√x. -/
def execVrsq (c : CoreId) (t : ThreadId) (f : FmtA) (s : State) : Out := vecFun c t f Num.rsqrt s

/-- R123, vexp2. -/
def execVexp2 (c : CoreId) (t : ThreadId) (f : FmtA) (s : State) : Out := vecFun c t f Num.exp2 s

/-- R123, vlog2. -/
def execVlog2 (c : CoreId) (t : ThreadId) (f : FmtA) (s : State) : Out := vecFun c t f Num.log2 s

/-- The conditions of vcmp: eq, ne, lt, le, gt, ge, unordered; with a NaN only ne and unordered hold. -/
def laneCond (ty k a b : Nat) : Bool :=
  match laneFmt ty with
  | some f =>
    let x := f.decode a
    let y := f.decode b
    match k with
    | 0 => Num.eqv x y
    | 1 => !Num.eqv x y
    | 2 => Num.lt x y
    | 3 => Num.lt x y || Num.eqv x y
    | 4 => Num.lt y x
    | 5 => Num.lt y x || Num.eqv x y
    | _ => x.isNan || y.isNan
  | none =>
    let x := toSigned (laneW ty) a
    let y := toSigned (laneW ty) b
    match k with
    | 0 => decide (x = y)
    | 1 => decide (x ≠ y)
    | 2 => decide (x < y)
    | 3 => decide (x ≤ y)
    | 4 => decide (y < x)
    | 5 => decide (y ≤ x)
    | _ => false

/-- The predicate bit of a 32-bit lane: its narrow lanes' common outcome; where they differ the spec states none (assumption 13). -/
def cmpBit (ty k a b : Nat) : Bool :=
  let w := laneW ty
  let r := (List.range (32 / w)).map (fun i => laneCond ty k (a / 2 ^ (w * i) % 2 ^ w) (b / 2 ^ (w * i) % 2 ^ w))
  if r.all id then true
  else if r.all (!·) then false
  else Config.freeFn 0x4E [ty, k, a, b] % 2 == 1

/-- A 64-bit word of bits. -/
def ofBits (l : List Bool) : W64 := BitVec.ofNat 64 (packNat 1 (l.map (fun b => if b then 1 else 0)))

/-- R123, vcmp: the guarded bits of p[d]. -/
def execVcmp (c : CoreId) (t : ThreadId) (f : FmtA) (s : State) : Out :=
  commit s (fun s => s.issue c t f.pg f.pn
    (f.ok true true true false 0xFC00 && f.laneOk && predOk f.d && decide (f.fn.toNat / 1024 % 8 < 7)) true
    [32 + f.a.toNat, 32 + f.b.toNat]
    (fun s x =>
      let m := x.guard f.pg f.pn
      let r := ofBits (List.zipWith (cmpBit f.lane (f.fn.toNat / 1024 % 8)) (lanesOf 32 (x.vreg f.a.toNat))
        (lanesOf 32 (x.vreg f.b.toNat)))
      .done (s.putP c t f.d.toNat ((r &&& m) ||| (x.preg f.d.toNat &&& ~~~m)))))

/-- R123, vsel: v[a] where p[c] is 1, else v[b]. -/
def execVsel (c : CoreId) (t : ThreadId) (f : FmtA) (s : State) : Out :=
  commit s (fun s => s.issue c t f.pg f.pn (f.ok true true true true 0xE000 && f.laneOk && predOk f.c) true
    [32 + f.d.toNat, 32 + f.a.toNat, 32 + f.b.toNat]
    (fun s x => .done (s.putV c t f.d.toNat (x.guard f.pg f.pn)
      (maskV (x.preg f.c.toNat) (x.vreg f.a.toNat) (x.vreg f.b.toNat)))))

/-- The format code of a lane type's lanes, for the exact conversions of Table 02.5; 0x10 for integer lanes that are no format. -/
def laneCode (ty : Nat) : Nat :=
  match ty with
  | 0 => 0x00
  | 1 => 0x01
  | 2 => 0x02
  | 5 => 0x06
  | _ => 0x10

/-- The exact value of a lane. -/
def laneVal (ty a : Nat) : Num :=
  match laneFmt ty with
  | some f => f.decode a
  | none => Num.ofInt (toSigned (laneW ty) a)

/-- Lanes converted (R24): the codes of the target, packed from lane 0; the scale bytes of an MX target have no place in a register
(assumption 14). -/
def cvtLanes (ty dst mode : Nat) (rs : List (Num × Rnd)) : List Nat :=
  if isMx dst then
    (List.range ((rs.length + 31) / 32)).flatMap (fun b => (convBlock (elemOf dst) mode ((rs.drop (32 * b)).take 32)).2.map Conv.code)
  else rs.map (fun r => (convert (laneCode ty) dst mode r.2 r.1).code)

/-- R24, vcvt: as many source lanes as both registers hold, converted and packed from lane 0 of the destination; the other lanes keep
their values (assumption 14). -/
def execVcvt (c : CoreId) (t : ThreadId) (f : FmtA) (s : State) : Out :=
  commit s (fun s => s.issue c t f.pg f.pn (f.ok true true true true 0xFFE0 && f.laneOk) true
    [32 + f.d.toNat, 32 + f.a.toNat, f.b.toNat, f.c.toNat]
    (fun s x =>
      let dst := f.fn.toNat / 256 % 32
      let mode := f.fn.toNat / 64 % 4
      if !isFmt dst ∨ mode = 3 then .fault 0x02 0
      else
        let src := lanesOf (laneW f.lane) (x.vreg f.a.toNat)
        let n := min src.length (2048 / fmtBits dst)
        let rnd : Nat → Rnd := fun i =>
          if f.fn.toNat / 32 % 2 = 1 then
            .stoch (stochR (x.sreg f.b.toNat).toNat x.cvtTid.toNat ((x.sreg f.c.toNat).toNat + i))
          else .rne
        let rs := List.zipWith (fun a i => (laneVal f.lane a, rnd i)) (src.take n) (List.range n)
        let out := packNat (fmtBits dst) (cvtLanes f.lane dst mode rs)
        let bits := n * fmtBits dst
        let old := (x.vreg f.d.toNat).toNat
        .done (s.putV c t f.d.toNat (x.guard f.pg f.pn) (BitVec.ofNat 2048 (out + old / 2 ^ bits * 2 ^ bits)))))

/-- A reduction in the tree of R123: lane l with lane l + half, then the halves again. -/
def redTree (op : Nat → Nat → Nat) : Nat → List Nat → Nat
  | 0, l => l.headD 0
  | n + 1, l => if l.length ≤ 1 then l.headD 0 else redTree op n (List.zipWith op l (l.drop (l.length / 2)))

/-- R123, vred: sum, max or min. The order of a BF16 or FP16 sum is not stated (assumption 15). -/
def execVred (c : CoreId) (t : ThreadId) (f : FmtA) (s : State) : Out :=
  commit s (fun s => s.issue c t f.pg f.pn
    (f.ok true true false false 0xF800 && f.laneOk && decide (f.fn.toNat / 2048 % 4 < 3)) false [f.d.toNat, 32 + f.a.toNat]
    (fun s x =>
      let k := f.fn.toNat / 2048 % 4
      let l := lanesOf (laneW f.lane) (x.vreg f.a.toNat)
      let op := match k with
        | 0 => vAdd f.lane
        | 1 => vMax f.lane
        | _ => vMin f.lane
      let v := if k = 0 ∧ (f.lane = 1 ∨ f.lane = 2) then Config.freeFn 0x51 (f.lane :: l) % 2 ^ 16 else redTree op 8 l
      .done (s.putS c t f.d.toNat (BitVec.ofNat 64 v))))

/-- R123, vbc. -/
def execVbc (c : CoreId) (t : ThreadId) (f : FmtA) (s : State) : Out :=
  commit s (fun s => s.issue c t f.pg f.pn (f.ok true true false false 0xE000 && f.laneOk) true [32 + f.d.toNat, f.a.toNat]
    (fun s x => .done (s.putV c t f.d.toNat (x.guard f.pg f.pn)
      (ofLanes (laneW f.lane) (List.replicate (2048 / laneW f.lane) (x.sreg f.a.toNat).toNat)))))

/-- R123, vext: a lane, zero-extended; of a lane number beyond the register the spec states no value (assumption 12). -/
def execVext (c : CoreId) (t : ThreadId) (f : FmtA) (s : State) : Out :=
  commit s (fun s => s.issue c t f.pg f.pn (f.ok true true true false 0xE000 && f.laneOk) false
    [f.d.toNat, 32 + f.a.toNat, f.b.toNat]
    (fun s x =>
      let l := lanesOf (laneW f.lane) (x.vreg f.a.toNat)
      let i := (x.sreg f.b.toNat).toNat
      let v := if i < l.length then l.getD i 0 else Config.freeFn 0x53 [f.lane, (x.vreg f.a.toNat).toNat, i] % 2 ^ laneW f.lane
      .done (s.putS c t f.d.toNat (BitVec.ofNat 64 v))))

/-- The 256 bytes of a register, and back. -/
def vBytes (v : VReg) : List Byte := leBytes 256 v.toNat
def ofVBytes (l : List Byte) : VReg := BitVec.ofNat 2048 (leNat l)

/-- R122, vld: 256 B of scratchpad into the guarded lanes. -/
def execVld (c : CoreId) (t : ThreadId) (f : FmtI) (errs : List (Nat × Bool)) (s : State) : Out :=
  commit s (fun s => s.issueE c t f.pg f.pn (f.ok true true true 0) true [32 + f.d.toNat, f.a.toNat] errs
    (fun s x =>
      let off := (x.sreg f.a.toNat + f.sx).toNat
      s.spAct c x off 256 256 true (fun s =>
        .done (s.putV c t f.d.toNat (x.guard f.pg f.pn) (ofVBytes (s.readSp c x off 256))))))

/-- The guarded lanes of a register written to scratchpad, word by word of 8 B. -/
def State.writeLanes (s : State) (c : Nat) (x : Thread) (off : Nat) (m : W64) (bs : List Byte) : State :=
  (List.range 32).foldl (fun s w =>
    let lo := m.toNat.testBit (2 * w)
    let hi := m.toNat.testBit (2 * w + 1)
    let b := (bs.drop (8 * w)).take 8
    if lo && hi then s.writeSp c x (off + 8 * w) b
    else if lo then s.writeSp c x (off + 8 * w) (b.take 4)
    else if hi then s.writeSp c x (off + 8 * w + 4) (b.drop 4)
    else s) s

/-- R122, vst: the guarded lanes to 256 B of scratchpad. -/
def execVst (c : CoreId) (t : ThreadId) (f : FmtI) (s : State) : Out :=
  commit s (fun s => s.issue c t f.pg f.pn (f.ok true true true 0) true [32 + f.d.toNat, f.a.toNat]
    (fun s x =>
      let off := (x.sreg f.a.toNat + f.sx).toNat
      s.spAct c x off 256 256 false (fun s =>
        if (s.core c).claim = some t.val && (s.core c).mrgHold (x.phys off) 256 then .stall
        else .done (s.writeLanes c x off (x.guard f.pg f.pn) (vBytes (x.vreg f.d.toNat))))))

/-- R100, R101, vldf: a far 256 B load into the guarded lanes. -/
def execVldf (c : CoreId) (t : ThreadId) (f : FmtI) (s : State) : Out :=
  commit s (fun s => s.issue c t f.pg f.pn (f.ok true true true 0) true [32 + f.d.toNat, f.a.toNat]
    (fun s x => s.farIssue c t x (x.sreg f.a.toNat) (x.sreg f.a.toNat + f.sx)
      { kind := .vld, dest := f.d.toNat, mask := x.guard f.pg f.pn } 256))

/-- R100, R101, vstf: a far 256 B store of the guarded lanes. -/
def execVstf (c : CoreId) (t : ThreadId) (f : FmtI) (s : State) : Out :=
  commit s (fun s => s.issue c t f.pg f.pn (f.ok true true true 0) true [32 + f.d.toNat, f.a.toNat]
    (fun s x => s.farIssue c t x (x.sreg f.a.toNat) (x.sreg f.a.toNat + f.sx)
      { kind := .vst, data := vBytes (x.vreg f.d.toNat), mask := x.guard f.pg f.pn } 256))

/-- Bytes of a hint: a negative immediate names none. -/
def hintBytes (imm : W32) : Nat := if imm.msb then 0 else imm.toNat

/-- A hint sent (R103): it takes no slot. -/
def State.addHint (s : State) (c : Nat) (dead : Bool) (ctx : Nat) (a : W64) (n : Nat) : State :=
  s.modCore c (fun k => { k with hints := k.hints ++ [(dead, ctx, a, n)] })

/-- R103, pf. -/
def execPf (c : CoreId) (t : ThreadId) (f : FmtI) (s : State) : Out :=
  commit s (fun s => s.issue c t f.pg f.pn (f.ok false true true 0) false [f.a.toNat]
    (fun s x =>
      let a := x.sreg f.a.toNat
      if s.farCode x.ctx a a 1 ≠ 0 then .fault 0x05 a else .done (s.addHint c false x.ctx a (hintBytes f.imm))))

/-- R103, dead. -/
def execDead (c : CoreId) (t : ThreadId) (f : FmtI) (s : State) : Out :=
  commit s (fun s => s.issue c t f.pg f.pn (f.ok false true true 0) false [f.a.toNat]
    (fun s x =>
      let a := x.sreg f.a.toNat
      if s.farCode x.ctx a a 1 ≠ 0 then .fault 0x05 a else .done (s.addHint c true x.ctx a (hintBytes f.imm))))

end Sys2Proof.Machine
end

