-- ==== Sys2Proof/Machine/Matrix.lean ====
section
/-! DEFINITION. The matrix array: claim, weight loads, matrix instructions, spills, the side path (R60–R78, R84, R116, R117, R120,
Tables 03.1–03.3). -/

namespace Sys2Proof.Machine

/-! ## The configuration word (Table 03.3) -/

def cfgBase (w : Nat) : Nat := bitsOf w 63 54
def cfgSize (w : Nat) : Nat := bitsOf w 53 48
def cfgSide (w : Nat) : Bool := w.testBit 47
def cfgIv (w : Nat) : Nat := bitsOf w 45 33
def cfgZp (w : Nat) : Int := toSigned 8 (bitsOf w 31 24)
def cfgMask (w : Nat) : Nat := bitsOf w 15 8
/-- The offset of the spill slots in the overflow buffer: 36 KiB behind the outlier slice (R75). -/
def cfgOff (w : Nat) : Nat := if cfgSide w then 36864 else 0
/-- Does spill slot n fit (R75)? -/
def slotFits (w n : Nat) : Bool := cfgOff w + (n + 1) * 8192 ≤ cfgSize w * 4096

def Core.acc (k : Core) (n : Nat) : AccSet := Tab.get k.accs {} n
def Core.setAcc (k : Core) (n : Nat) (a : AccSet) : Core := { k with accs := Tab.set k.accs {} n a }
def Core.wt (k : Core) (n : Nat) : WtReg := Tab.get k.wts {} n

/-- Physical addresses in the overflow buffer of the claimant's window. -/
def Core.claimBase (k : Core) : Nat :=
  match k.claim with
  | some t => (k.thread t).spBase * 65536
  | none => 0
def Core.obBase (k : Core) : Nat := k.claimBase + cfgBase k.mcfg.toNat * 4096
def Core.slotAddr (k : Core) (n : Nat) : Nat := k.obBase + cfgOff k.mcfg.toNat + n * 8192
def Core.sideAddr (k : Core) (n : Nat) : Nat := k.obBase + n * 4096
def Core.sideOperand (k : Core) (i e : Nat) : Nat := k.obBase + 32768 + 128 * i + 2 * e

/-- A spill slot's pairs (R71, R75): an empty slot reads (+0, +0). -/
def Core.slotVals (k : Core) (n : Nat) : List (W32 × W32) :=
  if (k.acc n).slotEmpty then List.replicate 1024 (0, 0)
  else
    let bs := k.readSp (k.slotAddr n) 8192
    (List.range 1024).map (fun i => (BitVec.ofNat 32 (fieldAt bs (8 * i) 4), BitVec.ofNat 32 (fieldAt bs (8 * i + 4) 4)))

/-- The words of the lists. -/
def AccSet.his (a : AccSet) : List W32 := Tab.dense 0 1024 0 a.hi
def AccSet.los (a : AccSet) : List W32 := Tab.dense 0 1024 0 a.lo

/-- The exact accumulator terms of a set (R41, R73). -/
def Core.accTerms (k : Core) (n : Nat) : List Num :=
  let a := k.acc n
  let own := if a.pair then List.zipWith (fun h l => Num.add (f32 h) (f32 l)) a.his a.los else a.his.map f32
  if a.slotEmpty then own else List.zipWith (fun p x => Num.add (pairVal p) x) (k.slotVals n) own

/-- A set spilled (R71): its slot takes the fold, both halves become +0 and the count 0. The lo half of a set that is not a pair set
is +0. -/
def Core.spillSet (k : Core) (n : Nat) : Core :=
  let a := k.acc n
  let new := List.zipWith (fun p x => spillAdd p x.1 x.2) (k.slotVals n) (List.zip a.his a.los)
  let bytes := new.flatMap (fun p => leBytes 4 p.1.toNat ++ leBytes 4 p.2.toNat)
  (k.writeSp (k.slotAddr n) bytes).setAcc n { a with hi := [], lo := [], count := 0, slotEmpty := false }

/-! ## Formats of operands (Table 03.1, R61) -/

/-- Operand classes: 8, 6, 4, 16, 2 for S2, 0 for a format that is no operand. -/
def classOf (f : Nat) : Nat :=
  match f with
  | 0x03 => 8
  | 0x04 => 8
  | 0x06 => 8
  | 0x08 => 8
  | 0x09 => 8
  | 0x0D => 8
  | 0x0A => 6
  | 0x0B => 6
  | 0x05 => 4
  | 0x07 => 4
  | 0x0C => 4
  | 0x01 => 16
  | 0x02 => 16
  | 0x0E => 2
  | _ => 0

/-- May the classes meet (R61)? -/
def classesMeet (a w : Nat) : Bool := a == w || (a == 8 && (w == 6 || w == 4)) || (w == 8 && (a == 6 || a == 4))

/-- K positions of an instruction (Table 03.1, R61). -/
def kOf (a w : Nat) : Nat :=
  if a ≠ w then 32
  else match a with
    | 4 => 64
    | 16 => 16
    | 2 => 16
    | _ => 32

/-- A size rounded up to a power of two, of those R63 names. -/
def tileAlign (n : Nat) : Nat := if n ≤ 512 then 512 else if n ≤ 1024 then 1024 else 2048

/-- Does the thread hold the claim? -/
def Core.holds (k : Core) (t : Nat) : Bool := k.claim == some t && !k.releasing

/-- An array instruction of a thread without the claim faults with 0x03 (R116). -/
def State.claimed (s : State) (c t : Nat) (k : State → Act) : Act := if (s.core c).holds t then k s else .fault 0x03 0

/-- A tile and its scale array checked (R63, R97, R99): alignment 0x02, window 0x04, poison 0x08. DESIGN CHOICE (assumption 29): where
several hold, the first of this order is taken. -/
def State.tileCode (s : State) (c : Nat) (x : Thread) (off n soff sn : Nat) : Nat :=
  if off % tileAlign n ≠ 0 ∨ (sn ≠ 0 ∧ soff % sn ≠ 0) then 0x02
  else if !x.inWindow off n ∨ (sn ≠ 0 ∧ !x.inWindow soff sn) then 0x04
  else if (s.core c).spBad (x.phys off) n ∨ (s.core c).spBad (x.phys soff) sn then 0x08
  else 0

/-- The offset that the fault of a tile's check names: the first bad word of a poisoned one, else the tile's own. -/
def State.tileAddr (s : State) (c : Nat) (x : Thread) (code off n soff sn : Nat) : W64 :=
  if code ≠ 0x08 then BitVec.ofNat 64 off
  else if (s.core c).spBad (x.phys off) n then BitVec.ofNat 64 ((s.core c).badWord (x.phys off) n - x.phys 0)
  else BitVec.ofNat 64 ((s.core c).badWord (x.phys soff) sn - x.phys 0)

/-- A feed of the array and the feed before it (R64, R85): one of the other kind with the same bit 10, or an S2 tile, may have wanted
the same cycle. Whether the two met in one cycle is a free value: the model keeps no issue cycles (assumption 30). -/
def State.fed (s : State) (c : Nat) (weight whole : Bool) (off : Nat) : State :=
  let b := off.testBit 10
  let meet := (s.core c).lastFeed.any (fun e => e.1 != weight && (whole || e.2 == b))
  let s1 := s.modCore c (fun k => { k with lastFeed := some (weight, b) })
  if meet then ({ s1 with fresh := s.fresh + 1 }).bump (oCore c 0x12) (Config.freeFn 0x85 [s.fresh] % 2) else s1

/-! ## Claim -/

/-- R116, arr.claim: at once where the array is free, no effect for the holder, else in claim order. -/
def execArrClaim (c : CoreId) (t : ThreadId) (f : FmtA) (s : State) : Out :=
  commit s (fun s => s.issue c t f.pg f.pn (f.ok false false false false 0) false []
    (fun s _ =>
      let k := s.core c
      if k.holds t then .done s
      else if k.claim = none ∧ k.claimQ = [] then .done (s.setCore c { k.arrayReset with claim := some t.val })
      else .park (s.setCore c { k with claimQ := if k.claimQ.elem t.val then k.claimQ else k.claimQ ++ [t.val] }) .claim))

/-- R77, R116: a released claim passes to the longest-waiting claimant, with the array in its reset state. -/
def execClaimGrant (c : CoreId) (s : State) : Out :=
  commit s (fun s =>
    let k := s.core c
    match k.claim, k.claimQ with
    | none, t :: r => s.setCore c { k.arrayReset with claim := some t, claimQ := r }
    | _, _ => s)

/-- R77, R116, arr.rel: the release takes effect once earlier array instructions have completed. -/
def execArrRel (c : CoreId) (t : ThreadId) (f : FmtA) (s : State) : Out :=
  commit s (fun s => s.issue c t f.pg f.pn (f.ok false false false false 0) false []
    (fun s _ => s.claimed c t (fun s => .done (s.modCore c (fun k => (k.release t).settle)))))

/-- R117, arr.sync: a stall until every earlier array instruction has completed. -/
def execArrSync (c : CoreId) (t : ThreadId) (f : FmtA) (s : State) : Out :=
  commit s (fun s => s.issue c t f.pg f.pn (f.ok false false false false 0) false []
    (fun s _ => s.claimed c t (fun s => if (s.core c).arrayIdle then .done s else .stall)))

/-- The checks of R74, in order: 0 for a word that may be written. R74 and R75 ask nothing of a buffer smaller than its outlier slice:
such a word is taken, and the slice has its 36 KiB (DEDUCED, assumption 110). -/
def Core.mcfgCode (k : Core) (x : Thread) (w : Nat) : Nat :=
  let old := k.mcfg.toNat
  let moved := cfgBase w ≠ cfgBase old ∨ cfgSize w ≠ cfgSize old ∨ cfgSide w ≠ cfgSide old
  if 32 < cfgSize w ∨ 4096 < cfgIv w ∨ 4194304 < (cfgBase w + cfgSize w) * 4096 then 0x02
  else if w.testBit 46 ∨ w.testBit 32 ∨ bitsOf w 23 16 ≠ 0 ∨ bitsOf w 7 0 ≠ 0 then 0x02
  else if (List.range 8).any (fun n => (cfgMask w).testBit n && !slotFits w n) then 0x02
  else if moved ∧ (List.range 8).any (fun n => !(k.acc n).slotEmpty || (k.acc n).sideSum) then 0x02
  else if cfgSize w ≠ 0 ∧ !x.inWindow (cfgBase w * 4096) (cfgSize w * 4096) then 0x04
  else 0

/-- R74, mcfg: held until earlier array instructions have used the old word (R76). -/
def execMcfg (c : CoreId) (t : ThreadId) (f : FmtA) (s : State) : Out :=
  commit s (fun s => s.issue c t f.pg f.pn (f.ok false true false false 0) false [f.a.toNat]
    (fun s x => s.claimed c t (fun s =>
      let w := x.sreg f.a.toNat
      let code := (s.core c).mcfgCode x w.toNat
      if !(s.core c).arrayIdle then .stall
      else if code ≠ 0 then .fault code 0
      else .done (s.modCore c (fun k => { k with mcfg := w })))))

/-! ## Weight loads -/

/-- The tile bytes that a weight load reads (Table 03.1, R65). -/
def wtBytes (f : Nat) (pr : Bool) : Nat := if pr then 2048 else if classOf f = 6 then 768 else 1024

/-- Is a weight load of the 512 B 4-bit tile of a mixed instruction (R61, R63)? DEDUCED (assumption 106): of the two 4-bit tiles, the
load takes the 1,024 B one where its addresses and the window allow it. -/
def wtHalf (x : Thread) (f : Nat) (pr : Bool) (off soff : Nat) : Bool :=
  !pr && classOf f == 4 && !(off % 1024 == 0 && (!isMx f || soff % 64 == 0) && x.inWindow off 1024 && (!isMx f || x.inWindow soff 64))
/-- Scale bytes of a weight tile or A tile (Table 03.1). -/
def scaleBytes (f blocks : Nat) : Nat := if isMx f then 32 * blocks else 0

/-- May the weight load name this format and pair bit (R25, R65)? -/
def wtAllowed (f : Nat) (pr : Bool) (wt : Nat) : Bool :=
  if pr then wt % 2 == 0 && (f == 0x0E || f == 0x01 || f == 0x02 || f == 0x05 || f == 0x07)
  else classOf f != 0 && classOf f != 2

/-- R65, wtld. A side computation not yet done took its weights at issue, so a load never waits for it. -/
def execWtld (c : CoreId) (t : ThreadId) (f : FmtW) (errs : List (Nat × Bool)) (s : State) : Out :=
  commit s (fun s => s.issueE c t f.pg f.pn (f.res == 0) false [f.a.toNat, f.x.toNat] errs
    (fun s x => s.claimed c t (fun s =>
      let fw := f.fw.toNat
      let off := (x.sreg f.a.toNat + BitVec.ofNat 64 (f.woff.toNat * 1024)).toNat
      let sn0 := scaleBytes fw (if classOf fw = 4 then 2 else 1)
      let soff0 := (x.sreg f.x.toNat + BitVec.ofNat 64 (f.woff.toNat * sn0)).toNat
      let half := wtHalf x fw f.pr off soff0
      let n := if half then 512 else wtBytes fw f.pr
      let sn := if half then scaleBytes fw 1 else sn0
      let soff := (x.sreg f.x.toNat + BitVec.ofNat 64 (f.woff.toNat * sn)).toNat
      if !wtAllowed fw f.pr f.wt.toNat then .fault 0x02 0
      else
        let code := s.tileCode c x off n soff sn
        if code ≠ 0 then .fault code (s.tileAddr c x code off n soff sn)
        else
          let data := s.readSp c x off n
          let sc := if sn = 0 then [] else s.readSp c x soff sn
          let r : WtReg := { loaded := true, fmt := fw, pr := f.pr, half := half, data := data.take 1024, scales := sc }
          .done ((s.fed c true false off).modCore c (fun k =>
            let w1 := Tab.set k.wts {} f.wt.toNat r
            { k with wts := if f.pr then Tab.set w1 {} (f.wt.toNat + 1) { r with data := data.drop 1024 } else w1 })))))

/-! ## Matrix instructions -/

/-- The exact value of a matrix operand: an integer activation less its zero point, an MX element times its block's scale (R34, R36,
R30). -/
def operand (f : Nat) (zp : Int) (code scale : Nat) : Num :=
  if zp ≠ 0 then Num.ofInt (toSigned (fmtBits f) code - zp)
  else
    let v := (elemOf f).decode code
    if isMx f then scaled v scale else v

/-- The rows of an A tile (R63). -/
def aRows (f k : Nat) (zp : Int) (bs sc : List Byte) : List (List Num) :=
  let w := fmtBits f
  let blocks := k / 32
  (List.range 32).map (fun i => (List.range k).map (fun p =>
    operand f zp (unpackAt w bs (i * k + p)) ((sc.getD (i * blocks + p / 32) 0).toNat)))

/-- Element (r, e) of a weight tile whose rows hold `cols` elements. -/
def wElem (r : WtReg) (bs : List Byte) (cols row e : Nat) (k : Nat) (j : Nat) : Num :=
  operand r.fmt 0 (unpackAt (fmtBits r.fmt) bs (row * cols + e)) ((r.scales.getD (k / 32 * 32 + j) 0).toNat)

/-- The weight columns as an instruction reads them: W(k, j), plainly (R63) or transposed (Table 03.2). -/
def wCols (r mate : WtReg) (kk : Nat) (tr h : Bool) : List (List Num) :=
  let hh := if h then 1 else 0
  (List.range 32).map (fun j => (List.range kk).map (fun k =>
    if !tr then wElem r r.data 32 k j k j
    else
      match classOf r.fmt with
      | 16 => wElem r (r.data ++ mate.data) 32 j (16 * hh + k) k j
      | 4 => wElem r (r.data ++ mate.data) 64 (32 * hh + j) k k j
      | _ => wElem r r.data 32 j k k j))

/-- The two BF16 words of S2 codes. -/
def s2Split (c : Nat) : Num × Num := (bf16.decode (c % 65536), bf16.decode (c / 65536))

/-- Products of the three passes ah·bh, ah·bl, al·bh (R70). -/
def s2Rows (bs : List Byte) : List (List Num) :=
  (List.range 32).map (fun i =>
    let e := (List.range 16).map (fun k => s2Split (unpackAt 32 bs (i * 16 + k)))
    e.map Prod.fst ++ e.map Prod.fst ++ e.map Prod.snd)
def s2Cols (bs : List Byte) : List (List Num) :=
  (List.range 32).map (fun j =>
    let e := (List.range 16).map (fun k => s2Split (unpackAt 32 bs (k * 32 + j)))
    e.map Prod.fst ++ e.map Prod.snd ++ e.map Prod.fst)

/-- The 1,024 exact group sums (R60). -/
def groupSums (a w : List (List Num)) : List Num :=
  a.flatMap (fun r => w.map (fun c => Num.sum (List.zipWith Num.mul r c)))

/-- The rule checks of a matrix instruction before its addresses (R25, R61, R66, R69, R70, R75, R77); a 512 B weight tile
serves a mixed instruction only. -/
def Core.mmaAllowed (k : Core) (f : FmtM) (s2 : Bool) : Bool :=
  let fa := f.fa.toNat
  let r := k.wt f.wt.toNat
  let ca := classOf fa
  let cw := classOf r.fmt
  let mixed := ca != cw
  let pairRead := s2 || (f.tr && (cw == 16 || cw == 4))
  let zp := cfgZp k.mcfg.toNat
  let a := k.acc f.set.toNat
  (!f.sd || cfgSide k.mcfg.toNat) &&
  (if s2 then ca == 2 else ca != 0 && ca != 2) &&
  r.loaded && classesMeet ca cw && !(r.half && !mixed) &&
  (!f.tr || (!isMx r.fmt && cw != 6 && cw != 2 && (!mixed || cw == 8))) &&
  (!f.h || (f.tr && (cw == 16 || cw == 4))) &&
  (!pairRead || (f.wt.toNat % 2 == 0 && r.pr && (k.wt (f.wt.toNat + 1)).pr)) &&
  (zp == 0 || fa == 0x06 || (fa == 0x07 && decide (-8 ≤ zp) && decide (zp ≤ 7))) &&
  (!s2 || f.pa) &&
  (f.ow || (!a.empty && a.pair == f.pa))

/-- The side terms of an instruction (R40, R120): each listed channel within its K positions, in list order. -/
def Core.sideTerms (k : Core) (set cursor : Nat) (w : List (List Num)) (kk : Nat) (pc : W64) : List SideTerm :=
  ((List.range k.sideList.length).zip k.sideList).filterMap (fun e =>
    if cursor ≤ e.2 ∧ e.2 < cursor + kk then
      some { set := set, pos := e.1, pc := pc,
             vals := (List.range 32).map (fun i => BitVec.ofNat 16 (leNat (k.readSp (k.sideOperand i e.1) 2))),
             ws := w.map (fun c => c.getD (e.2 - cursor) .nan) }
    else none)

/-- A matrix instruction's issue (R60–R70, R76): checks, operands read, group sums formed, the set's claim state updated in program
order. Side terms that an overwrite outruns are dropped, their cycles counted; the side sum starts from +0 with the first of them (R120;
assumption 107). -/
def mmaIssue (c : CoreId) (t : ThreadId) (f : FmtM) (s2 : Bool) (errs : List (Nat × Bool)) (s : State) : Out :=
  commit s (fun s => s.issueE c t f.pg f.pn (f.res == 0) false [f.a.toNat, f.x.toNat] errs
    (fun s x => s.claimed c t (fun s =>
      let k := s.core c
      let fa := f.fa.toNat
      let set := f.set.toNat
      let r := k.wt f.wt.toNat
      let mate := k.wt (f.wt.toNat + 1)
      let kk := kOf (classOf fa) (classOf r.fmt)
      let n := 32 * kk * fmtBits fa / 8
      let sn := scaleBytes fa (kk / 32)
      let off := (x.sreg f.a.toNat + BitVec.ofNat 64 (f.aoff.toNat * 1024)).toNat
      let soff := (x.sreg f.x.toNat + BitVec.ofNat 64 (f.aoff.toNat * sn)).toNat
      if !k.mmaAllowed f s2 then .fault 0x02 0
      else
        let code := s.tileCode c x off n soff sn
        if code ≠ 0 then .fault code (s.tileAddr c x code off n soff sn)
        else if k.aq.any (fun o => o.uses set) then .stall
        else
          let bs := s.readSp c x off n
          let sc := if sn = 0 then [] else s.readSp c x soff sn
          let w := if s2 then s2Cols (r.data ++ mate.data) else wCols r mate kk f.tr f.h
          let a := if s2 then s2Rows bs else aRows fa kk (cfgZp k.mcfg.toNat) bs sc
          let acc := k.acc set
          let acc1 := if f.ow then { acc with empty := false, pair := f.pa, cursor := 0, sideSum := false } else acc
          let acc2 := { acc1 with cursor := acc1.cursor + kk, sideSum := acc1.sideSum || f.sd }
          let k1 := if cfgSide k.mcfg.toNat ∧ (f.ow ∨ (f.sd ∧ !acc1.sideSum)) then k.writeSp (k.sideAddr set) (List.replicate 4096 0) else k
          let sideW := if s2 then w.map (fun col => (List.range 16).map (fun p => Num.add (col.getD p .nan) (col.getD (p + 16) .nan))) else w
          let k2 := { k1.setAcc set acc2 with
            mmaQ := k1.mmaQ ++ [{ set := set, ow := f.ow, pa := f.pa, sums := groupSums a w, pc := x.pc, ahead := k1.aq.length }]
            sideQ := (if f.ow then k1.sideQ.filter (fun (q : SideTerm) => q.set != set) else k1.sideQ) ++
              (if f.sd then k.sideTerms set acc1.cursor sideW kk x.pc else []) }
          let lost := if f.ow then (k1.sideQ.filter (fun (q : SideTerm) => q.set == set)).length else 0
          .done (((((s.setCore c k2).fed c false s2 off).bump (oCore c 0x10) (if s2 then 3 else 1)).bump (oCore c 0x11) 1).bump (oCore c 0x13)
            (16 * lost)))))

/-- R60, mma. -/
def execMma (c : CoreId) (t : ThreadId) (f : FmtM) (errs : List (Nat × Bool)) (s : State) : Out := mmaIssue c t f false errs s

/-- R70, mma.s2: three passes over S2 operands. -/
def execMmaS2 (c : CoreId) (t : ThreadId) (f : FmtM) (errs : List (Nat × Bool)) (s : State) : Out := mmaIssue c t f true errs s

/-- A parity error that a read of the array finds (R78): event 0x2510 and fault 0x08 under R475; `keep` are the queued instructions
ahead of the abandoned one. -/
def State.parityFault (s : State) (c unit_ : Nat) (pc : W64) (keep : List ArrayOp) : State :=
  ((s.event 0x2510 (srcCore c) [(1, c), (1, unit_)]).arrayFault c 0x08 pc 0 keep).resched c

/-- The units of R78. -/
def parityUnit (p : Option Nat) : Option Nat := p.filter (fun u => decide (u ≤ 12))

/-- A group folded into a set (R67, R69, R53). -/
def AccSet.fold (a : AccSet) (o : MmaOp) : AccSet :=
  if o.pa then
    let old := if o.ow then List.replicate 1024 ((0 : W32), (0 : W32)) else List.zip a.his a.los
    let new := List.zipWith (fun p g => if o.ow then (toF32 g, (0 : W32)) else pairAdd p (toF32 g)) old o.sums
    { a with hi := Tab.ofList 0 (new.map Prod.fst), lo := Tab.ofList 0 (new.map Prod.snd) }
  else
    let new := if o.ow then o.sums.map toF32 else List.zipWith (fun h g => toF32 (Num.add (f32 h) g)) a.his o.sums
    { a with hi := Tab.ofList 0 new, lo := [] }

/-- The oldest matrix instruction's result (R67, R69, R72): its group rounded once into its set; an overwrite empties the spill slot;
the set spills where its count reaches the interval. -/
def Core.mmaFold (k : Core) (o : MmaOp) : Core :=
  let a := (k.acc o.set).fold o
  k.setAcc o.set { a with count := if o.ow then 1 else a.count + 1, slotEmpty := a.slotEmpty || o.ow }

/-- Does a set spill by itself now (R72)? -/
def Core.spillDue (k : Core) (n : Nat) : Bool :=
  let w := k.mcfg.toNat
  (cfgMask w).testBit n && cfgIv w != 0 && (k.acc n).count == cfgIv w

def Core.mmaDone (k : Core) (o : MmaOp) : Core :=
  let k1 := k.mmaFold o
  if k1.spillDue o.set then k1.spillSet o.set else k1

/-! ## The top-k unit (R79–R82) -/

/-- Does candidate x rank above y (R79)? -/
def ranksAbove (x y : W32 × Nat) : Bool :=
  Num.below (f32 y.1) (f32 x.1) || (!Num.below (f32 x.1) (f32 y.1) && decide (x.2 < y.2))

/-- A candidate put in rank order, the first k kept. -/
def rankInsert (x : W32 × Nat) : List (W32 × Nat) → List (W32 × Nat)
  | [] => [x]
  | y :: r => if ranksAbove x y then x :: y :: r else y :: rankInsert x r

/-- A candidate offered to a row; a NaN is only counted, the count staying at 2³² − 1. -/
def TopKUnit.offer (u : TopKUnit) (row : Nat) (v : W32) (pos : Nat) : TopKUnit :=
  if u.k = 0 then u
  else if (f32 v).isNan then { u with nans := Tab.upd u.nans 0 row (fun n => min (n + 1) (2 ^ 32 - 1)) }
  else { u with lists := Tab.upd u.lists [] row (fun l => (rankInsert (v, pos) l).take u.k) }

/-- R80, tk.ins: the rounded values of a set's rows in use and first ncol columns, at positions base + j. -/
def TopKUnit.insertSet (u : TopKUnit) (terms : List Num) (ncol base : Nat) : TopKUnit :=
  (List.range u.rows).foldl (fun u i =>
    (List.range ncol).foldl (fun u j => u.offer i (toF32 (terms.getD (32 * i + j) Num.zero)) (base + j)) u) u

/-- The bytes of a partial-list block of capacity k (Table 03.4). -/
def TopKUnit.bytes (u : TopKUnit) : List Byte :=
  (List.range u.rows).flatMap (fun i =>
    let l := Tab.get u.lists [] i
    leBytes 4 l.length ++ leBytes 4 (Tab.get u.nans 0 i) ++
      l.flatMap (fun e => leBytes 4 e.1.toNat ++ leBytes 4 e.2) ++ List.replicate (8 * (u.k - l.length)) 0)

/-- The rows in use once the queued tk.init instructions have run. -/
def Core.tkRows (k : Core) : Nat :=
  k.aq.foldl (fun n o => match o with
    | .tkInit _ m _ => m
    | _ => n) k.tk.rows

/-- k once the queued tk.init instructions have run. -/
def Core.tkK (k : Core) : Nat :=
  k.aq.foldl (fun n o => match o with
    | .tkInit m _ _ => m
    | _ => n) k.tk.k

/-- Is it a top-k instruction? -/
def ArrayOp.isTk (o : ArrayOp) : Bool :=
  match o with
  | .tkInit _ _ _ => true
  | .tkIns _ _ _ _ _ => true
  | .tkMrg _ _ _ => true
  | .tkOut _ _ _ => true
  | _ => false

/-- The first queued instruction of a kind, with those before and after it. -/
def splitFirst (p : ArrayOp → Bool) : List ArrayOp → Option (List ArrayOp × ArrayOp × List ArrayOp)
  | [] => none
  | o :: r => if p o then some ([], o, r) else (splitFirst p r).map (fun e => (o :: e.1, e.2.1, e.2.2))

/-- May an instruction read or write a set now: its groups have landed and no queued instruction before it uses it (R76)? -/
def Core.setReady (k : Core) (before : List ArrayOp) (set : Nat) : Bool :=
  k.mmaQ.all (fun o => o.set != set) && before.all (fun o => !o.uses set)

/-- An array-side instruction leaves the queue: those issued before it and after it stay (R115, R117). -/
def Core.dequeue (k : Core) (pre post : List ArrayOp) : Core :=
  { k with
    aq := pre ++ post
    mmaQ := k.mmaQ.map (fun m => if pre.length < m.ahead then { m with ahead := m.ahead - 1 } else m)
    se := k.se.map (fun e => (e.1, { e.2 with queue := e.2.queue.map (fun (d : StreamDesc) =>
      if pre.length < d.behind then { d with behind := d.behind - 1 } else d) })) }

/-- The first queued top-k instruction runs where it may, tk.mrg apart, which runs on its own command; repeatedly. -/
def Core.pump : Nat → Core → Core
  | 0, k => k
  | n + 1, k =>
    match splitFirst ArrayOp.isTk k.aq with
    | none => k
    | some (pre, o, post) =>
      let k1 := k.dequeue pre post
      match o with
      | .tkInit kk m _ => Core.pump n { k1 with tk := { k := kk, rows := m } }
      | .tkIns set ncol base _ p =>
        if k.setReady pre set && (parityUnit p).isNone then Core.pump n { k1 with tk := k.tk.insertSet (k.accTerms set) ncol base } else k
      | .tkOut addr _ p => if (parityUnit p).isNone then Core.pump n (k1.writeSp addr k.tk.bytes) else k
      | _ => k

/-- A top-k insert or output that may run and whose read finds a parity error: its unit, its pc and the instructions ahead of it
(R78). -/
def Core.tkBad (k : Core) : Option (Nat × W64 × List ArrayOp) :=
  match splitFirst ArrayOp.isTk k.aq with
  | some (pre, .tkIns set _ _ pc p, _) => if k.setReady pre set then (parityUnit p).map (fun u => (u, pc, pre)) else none
  | some (pre, .tkOut _ pc p, _) => (parityUnit p).map (fun u => (u, pc, pre))
  | _ => none

/-- The top-k queue runs on, up to a parity error. -/
def State.pumpArray (s : State) (c : Nat) (k : Core) : State :=
  let k1 := k.pump 8
  match k1.tkBad with
  | some (u, pc, pre) => (s.setCore c k1).parityFault c u pc pre
  | none => s.setCore c k1

/-- After array work: the top-k queue runs on, and a waiting release takes effect. -/
def State.arrayStep (s : State) (c : Nat) (k : Core) : State := ((s.pumpArray c k).modCore c Core.settle).resched c

/-- An uncorrectable word that array work reads (R99, R475): event 0x2512 with the word's address, and fault 0x08. -/
def State.arrayBad (s : State) (c a n : Nat) (pc : W64) (keep : List ArrayOp) : State :=
  ((s.spError c ((s.core c).badWord a n)).arrayFault c 0x08 pc 0 keep).resched c

/-- R67, R72, R78: the oldest matrix instruction in flight completes; an automatic spill that finds its slot in error faults (R475). -/
def execMmaComplete (c : CoreId) (x : RunErrs) (s : State) : Out :=
  commit s (fun s =>
    let k := s.core c
    match k.mmaQ with
    | [] => s
    | o :: r =>
      match parityUnit x.parity with
      | some u => s.parityFault c u o.pc (k.aq.take o.ahead)
      | none =>
        let k1 := { k with mmaQ := r }.mmaFold o
        if k1.spillDue o.set ∧ !(k1.acc o.set).slotEmpty then
          let s1 := (s.setCore c k1).upset c x.errs
          if (s1.core c).spBad (k1.slotAddr o.set) 8192 then s1.arrayBad c (k1.slotAddr o.set) 8192 o.pc (k.aq.take o.ahead)
          else s1.arrayStep c ((s1.core c).spillSet o.set)
        else s.arrayStep c ({ k with mmaQ := r }.mmaDone o))

/-- A word in error that the side path reads for a set (R99): its instruction's pc, and the range. -/
def Core.sideBad (k : Core) (set : Nat) (terms : List SideTerm) : Option (W64 × Nat × Nat) :=
  match terms.find? (fun (q : SideTerm) => (List.range 32).any (fun i => k.spBad (k.sideOperand i q.pos) 2)) with
  | some q => ((List.range 32).find? (fun i => k.spBad (k.sideOperand i q.pos) 2)).map (fun i => (q.pc, k.sideOperand i q.pos, 2))
  | none => if k.spBad (k.sideAddr set) 4096 then terms.head?.map (fun (q : SideTerm) => (q.pc, k.sideAddr set, 4096)) else none

/-- R40, R84: the side sums of a set, one FP32 fused multiply-add per listed channel; 16 side-path cycles a channel. A word in error
faults the claimant (R99; DEDUCED, assumption 108: as R475 says, with the queued instructions kept). -/
def execSideSumComplete (c : CoreId) (x : SideRun) (s : State) : Out :=
  commit s (fun s =>
    let terms := (s.core c).sideQ.filter (fun (q : SideTerm) => q.set == x.set.val)
    let s := if terms.isEmpty then s else s.upset c x.errs
    let k := s.core c
    if terms.isEmpty then s
    else
      match k.sideBad x.set terms with
      | some (pc, a, n) => s.arrayBad c a n pc []
      | none =>
      let bs := k.readSp (k.sideAddr x.set) 4096
      let old := (List.range 1024).map (fun i => BitVec.ofNat 32 (fieldAt bs (4 * i) 4))
      let new := terms.foldl (fun acc q =>
        List.zipWith (fun a ij => toF32 (Num.add (Num.mul (bf16.decode (q.vals.getD (ij / 32) 0).toNat) (q.ws.getD (ij % 32) .nan)) (f32 a)))
          acc (List.range 1024)) old
      let k1 := { k.writeSp (k.sideAddr x.set) (new.flatMap (fun w => leBytes 4 w.toNat)) with
        sideQ := k.sideQ.filter (fun (q : SideTerm) => q.set != x.set.val) }
      (s.arrayStep c k1).bump (oCore c 0x13) (16 * terms.length))

/-- A wide-channel list record: count, then the channels (R38, Table 04.7). -/
def Core.wideList (k : Core) (a : Nat) : List Nat :=
  (List.range (leNat (k.readSp a 4))).map (fun e => leNat (k.readSp (a + 4 + 4 * e) 4))

/-- Strictly ascending. -/
def ascending : List Nat → Bool
  | a :: b :: r => decide (a < b) && ascending (b :: r)
  | _ => true

/-- R120, sdl: the list and 32 rows of side values into the outlier slice, once no side computation reads it. sdl names no tensor: its
list is judged by count and order only (DEDUCED, assumption 109). -/
def execSdl (c : CoreId) (t : ThreadId) (f : FmtA) (errs : List (Nat × Bool)) (s : State) : Out :=
  commit s (fun s => s.issueE c t f.pg f.pn (f.ok false true true false 0) false [f.a.toNat, f.b.toNat] errs
    (fun s x => s.claimed c t (fun s =>
      let k := s.core c
      let la := (x.sreg f.a.toNat).toNat
      let va := (x.sreg f.b.toNat).toNat
      let n := if x.inWindow la 4 then leNat (k.readSp (x.phys la) 4) else 0
      if !cfgSide k.mcfg.toNat then .fault 0x02 0
      else if !x.inWindow la 4 then .fault 0x04 (BitVec.ofNat 64 la)
      else if 64 < n then .fault 0x02 (BitVec.ofNat 64 la)
      else if !x.inWindow la (4 + 4 * n) ∨ !x.inWindow va (64 * n) then .fault 0x04 (BitVec.ofNat 64 la)
      else if k.spBad (x.phys la) (4 + 4 * n) then .fault 0x08 (BitVec.ofNat 64 (k.badWord (x.phys la) (4 + 4 * n) - x.phys 0))
      else if k.spBad (x.phys va) (64 * n) then .fault 0x08 (BitVec.ofNat 64 (k.badWord (x.phys va) (64 * n) - x.phys 0))
      else
        let l := k.wideList (x.phys la)
        if !ascending l then .fault 0x02 (BitVec.ofNat 64 la)
        else if !k.sideQ.isEmpty then .stall
        else
          let k1 := (List.range 32).foldl (fun q i =>
            q.writeSp (q.sideOperand i 0) (k.readSp (x.phys va + 2 * n * i) (2 * n))) k
          .done (s.setCore c { k1 with sideList := l }))))

end Sys2Proof.Machine
end

