-- ==== Sys2Proof/Machine/ArraySide.lean ====
section
/-! DEFINITION. The array-side queue: drains, spills and the top-k instructions (R41–R43, R56–R58, R71–R73, R77, R80–R82,
R117–R119, R475). -/

namespace Sys2Proof.Machine

/-! ## The drain control word (Table 02.3) -/

def ctlSlot (w : Nat) : Nat := bitsOf w 63 56
def ctlStat (w : Nat) : Bool := w.testBit 55
def ctlZp (w : Nat) : Int := toSigned 8 (bitsOf w 47 40)
def ctlMode (w : Nat) : Nat := bitsOf w 39 38
def ctlStoch (w : Nat) : Bool := w.testBit 37
def ctlBias (w : Nat) : Bool := w.testBit 36
def ctlShiftTab (w : Nat) : Bool := w.testBit 35
def ctlSide (w : Nat) : Bool := w.testBit 34
def ctlFmt (w : Nat) : Nat := bitsOf w 28 24
def ctlShift (w : Nat) : Int := toSigned 8 (bitsOf w 23 16)

/-- Does a shift lie between −64 and +63 (R43)? -/
def shiftOk (k : Int) : Bool := decide (-64 ≤ k) && decide (k ≤ 63)

/-- The control word alone (R25, R37, R43). -/
def ctlOk (w : Nat) : Bool :=
  ctlMode w != 3 && bitsOf w 54 48 == 0 && bitsOf w 33 29 == 0 && bitsOf w 15 0 == 0 && isFmt (ctlFmt w) &&
    shiftOk (ctlShift w) &&
    (ctlZp w == 0 || ctlFmt w == 0x06 || (ctlFmt w == 0x07 && decide (-8 ≤ ctlZp w) && decide (ctlZp w ≤ 7)))

/-- Bytes of a drained row of 32 elements. -/
def rowBytes (fmt : Nat) : Nat := 4 * fmtBits fmt

/-- The class that a context's tensor table gives a tensor; 0xFF for an absent entry (R220). -/
def State.tensorClass (s : State) (ctx tensor : Nat) : Nat := Tab.get s.sched.tensors 0xFF (ctx * 2 ^ 32 + tensor)

/-- First column and first row of a drained tile in its tensor. -/
def DrainParams.col0 (d : DrainParams) : Nat := d.elemBase.toNat % d.tstride
def DrainParams.row0 (d : DrainParams) : Nat := d.elemBase.toNat / d.tstride

/-- The listed channels within the tile: list position and column (Table 04.7). -/
def DrainParams.listed (d : DrainParams) : List (Nat × Nat) :=
  ((List.range d.wlist.length).zip d.wlist).filterMap (fun e =>
    if d.col0 ≤ e.2 ∧ e.2 < d.col0 + 32 then some (e.1, e.2 - d.col0) else none)

/-- The offset of a side value of tile row i and list position e (R39, Table 04.7). -/
def DrainParams.sideOff (d : DrainParams) (i e : Nat) : Nat := d.side + (d.row0 + i) * d.wlist.length * 2 + e * 2

/-- The offset of tile row i, and of its scale byte. -/
def DrainParams.rowOff (d : DrainParams) (i : Nat) : Nat := d.dst + i * d.dstride
def DrainParams.sclOff (d : DrainParams) (i : Nat) : Nat := d.scl + i * (d.tstride / 32)

/-- The block at an offset, as read: table offsets beside the parameters. -/
def State.drainBlock (s : State) (c : Nat) (x : Thread) (off : Nat) : DrainParams × Nat × Nat × Nat × Nat :=
  let b := s.readSp c x off 64
  ({ ctl := BitVec.ofNat 64 (fieldAt b 0 8), seed := BitVec.ofNat 64 (fieldAt b 8 8), elemBase := BitVec.ofNat 64 (fieldAt b 16 8)
     tensor := fieldAt b 24 4, tstride := fieldAt b 28 4, dst := fieldAt b 32 4, dstride := fieldAt b 36 4, scl := fieldAt b 40 4
     side := fieldAt b 56 4 }, fieldAt b 44 4, fieldAt b 48 4, fieldAt b 52 4, fieldAt b 60 4)

/-- The offset of the first word in error of a drain's tables and list. -/
def State.drainBadWord (s : State) (c : Nat) (x : Thread) (st bt wl n w : Nat) : Nat :=
  let k := s.core c
  (if ctlShiftTab w && k.spBad (x.phys st) 32 then k.badWord (x.phys st) 32
    else if ctlBias w && k.spBad (x.phys bt) 128 then k.badWord (x.phys bt) 128
    else k.badWord (x.phys wl) (4 + 4 * n)) - x.phys 0

/-- A drain's checks at issue (R33, R118, R119): rule faults 0x02, then bytes outside the window 0x04, then poisoned words 0x08, whose
offset `dst` then holds; with code 0 the values it keeps. -/
def State.drainRead (s : State) (c : Nat) (x : Thread) (off : Nat) : Nat × DrainParams :=
  if off % 64 ≠ 0 then (0x02, {})
  else if !x.inWindow off 64 then (0x04, {})
  else if (s.core c).spBad (x.phys off) 64 then (0x08, { dst := (s.core c).badWord (x.phys off) 64 - x.phys 0 })
  else
    let (d, st, bt, wl, res) := s.drainBlock c x off
    let w := d.ctl.toNat
    let hasList := wl != 0xFFFFFFFF
    let n := if hasList ∧ x.inWindow wl 4 then s.spNat c x wl 4 else 0
    let z := ctlZp w
    let cls := s.tensorClass x.ctx d.tensor
    if !ctlOk w ∨ res ≠ 0 ∨ (isMx (ctlFmt w) ∧ d.tstride % 32 ≠ 0) ∨ (fmtBits (ctlFmt w) = 4 ∧ d.tstride % 2 ≠ 0) ∨ 64 < n ∨ (z ≠ 0 ∧ (cls = 0 ∨ cls = 1)) then (0x02, {})
    else if (ctlShiftTab w ∧ !x.inWindow st 32) ∨ (ctlBias w ∧ !x.inWindow bt 128) ∨ (hasList ∧ !x.inWindow wl (4 + 4 * n)) then
      (0x04, {})
    else
      let k := s.core c
      let d1 := { d with
        shifts := if ctlShiftTab w then (s.readSp c x st 32).map (fun (b : Byte) => toSigned 8 b.toNat) else List.replicate 32 (ctlShift w)
        bias := if ctlBias w then (List.range 32).map (fun j => BitVec.ofNat 32 (s.spNat c x (bt + 4 * j) 4)) else []
        wlist := if hasList then k.wideList (x.phys wl) else [] }
      let bad := (ctlShiftTab w && k.spBad (x.phys st) 32) || (ctlBias w && k.spBad (x.phys bt) 128) ||
        (hasList && k.spBad (x.phys wl) (4 + 4 * n))
      if bad then (0x08, { d1 with dst := s.drainBadWord c x st bt wl n w })
      else if !d1.shifts.all shiftOk ∨ !ascending d1.wlist ∨ !d1.wlist.all (fun ch => decide (ch < d.tstride)) then (0x02, {})
      else if !(List.range 32).all (fun i => x.inWindow (d1.rowOff i) (rowBytes (ctlFmt w)) &&
          (!isMx (ctlFmt w) || x.inWindow (d1.sclOff i) 1) &&
          d1.listed.all (fun e => x.inWindow (d1.sideOff i e.1) 2)) then (0x04, {})
      else (0, { d1 with dst := x.phys d1.dst, scl := x.phys d1.scl, side := x.phys d1.side })

/-- An instruction enters the array-side queue; a full one stalls (R117). -/
def State.enqueueArray (s : State) (c : Nat) (o : ArrayOp) : Act :=
  if 8 ≤ (s.core c).aq.length then .stall
  else .done (s.pumpArray c { s.core c with aq := (s.core c).aq ++ [o] })

/-- R118, R119, drain. -/
def execDrain (c : CoreId) (t : ThreadId) (f : FmtQ) (errs : List (Nat × Bool)) (s : State) : Out :=
  commit s (fun s => s.issueE c t f.pg f.pn (f.ok true true false false true) false [f.a.toNat] errs
    (fun s x => s.claimed c t (fun s =>
      let off := (x.sreg f.a.toNat + BitVec.ofNat 64 (f.off.toNat * 64)).toNat
      if ((s.core c).acc f.set.toNat).empty then .fault 0x02 0
      else
        let (code, d) := s.drainRead c x off
        if code ≠ 0 then .fault code (BitVec.ofNat 64 (if code = 0x08 then d.dst else off))
        else s.enqueueArray c (.drain f.set.toNat d x.pc))))

/-! ## The conversion of a tile -/

/-- t of R41 for each element of the set, row by row. -/
def Core.drainTerms (k : Core) (set : Nat) (d : DrainParams) : List Num :=
  let w := d.ctl.toNat
  let side := if (k.acc set).sideSum then
      (List.range 1024).map (fun e => f32 (BitVec.ofNat 32 (leNat (k.readSp (k.sideAddr set + 4 * e) 4))))
    else List.replicate 1024 Num.zero
  let acc := if ctlSide w then List.zipWith Num.add (k.accTerms set) side else k.accTerms set
  List.zipWith (fun e a =>
    let t := a.scale (d.shifts.getD (e % 32) 0)
    if ctlBias w then Num.add t (f32 (d.bias.getD (e % 32) 0)) else t) (List.range 1024) acc

/-- The rounding of element (i, j): its linear index is elem_base + i × tstride + j (R45, R118). -/
def DrainParams.rnd (d : DrainParams) (i j : Nat) : Rnd :=
  if ctlStoch d.ctl.toNat then .stoch (stochR d.seed.toNat d.tensor ((d.elemBase.toNat + i * d.tstride + j) % 2 ^ 64)) else .rne

/-- What a drain writes and what became of its values. -/
structure DrainOut where
  writes : List (Nat × List Byte) := []
  convs : List Conv := []
deriving DecidableEq, Repr

/-- One row converted: narrow elements, the code of +0 at listed columns (z for an integer target, so that they contribute 0: R40, R46), the scale byte, the side values (R39, R41, R118). The
statistics count the side value of a listed channel and not the code at its narrow place (DEDUCED, assumption 111). -/
def DrainParams.row (d : DrainParams) (terms : List Num) (i : Nat) : DrainOut :=
  let w := d.ctl.toNat
  let fmt := ctlFmt w
  let ts := (List.range 32).map (fun j => (terms.getD (32 * i + j) .nan, d.rnd i j))
  let cols := d.listed.map Prod.snd
  let narrow := (List.range 32).zipWith (fun j t => if cols.elem j then (Num.zero, t.2) else t) ts
  let r := convRow fmt (ctlMode w) (ctlZp w) narrow
  let codes := r.2.map Conv.code
  let side := d.listed.map (fun e =>
    let t := ts.getD e.2 (.nan, .rne)
    (e.1, convFlt bf16 (ctlMode w) t.2 t.1))
  { writes := (d.rowOff i, packBytes (fmtBits fmt) codes) :: r.1.map (fun b => (d.sclOff i, [BitVec.ofNat 8 b])) ++
      side.map (fun e => (d.sideOff i e.1, leBytes 2 e.2.code))
    convs := ((List.range 32).zip r.2).filterMap (fun e => if cols.elem e.1 then none else some e.2) ++ side.map Prod.snd }

/-! ## Statistics (R56–R58) -/

def oStatEn : Nat := objKey 0x2600 1
def oClipPpm : Nat := objKey 0x2600 2
def oMinDrained : Nat := objKey 0x2600 3
def oOverFlags : Nat := objKey 0x2600 5

def addSat (a b : Nat) : Nat := min (a + b) (2 ^ 64 - 1)

/-- The counts of a completed drain added as one update, then the comparison of R57 and the event of R58. -/
def State.drainStats (s : State) (c : Nat) (ctl : Nat) (cs : List Conv) : State :=
  if !ctlStat ctl ∨ s.obj oStatEn = 0 then s
  else
    let n := ctlSlot ctl
    let o := Tab.get (s.core c).stats {} n
    let x : SlotStats := {
      drained := addSat o.drained cs.length
      clipped := addSat o.clipped (cs.filter Conv.clipped).length
      nanIn := addSat o.nanIn (cs.filter Conv.nanIn).length
      nanZeroed := addSat o.nanZeroed (cs.filter Conv.zeroed).length }
    let s1 := s.modCore c (fun k => { k with stats := Tab.set k.stats {} n x })
    let trip := s.obj oMinDrained ≤ x.drained && s.obj oClipPpm * x.drained < x.clipped * 1000000
    let s2 := s1.when (trip && !(s1.obj oOverFlags).testBit n) (fun s =>
      (s.setObj oOverFlags (s.obj oOverFlags + 2 ^ n)).event 0x2601 (srcCore c) [(1, c), (1, n), (4, x.clipped), (4, x.drained)])
    s2.when (ctlMode ctl == modeClean && cs.any Conv.zeroed && !Tab.get s2.nanSeen false n) (fun s =>
      { s with nanSeen := Tab.set s.nanSeen false n true }.event 0x2602 (srcCore c) [(1, c), (1, n)])

/-- R41, R117, R118: the first queued drain, once its set and side sum are ready, converts its tile. -/
def execDrainExecute (c : CoreId) (parity : Option Nat) (errs : List (Nat × Bool)) (s : State) : Out :=
  commit s (fun s =>
    let k := s.core c
    match splitFirst (fun o => match o with | .drain _ _ _ => true | _ => false) k.aq with
    | some (pre, .drain set d pc, post) =>
      let w := d.ctl.toNat
      if !k.setReady pre set ∨ (ctlSide w ∧ k.sideQ.any (fun (q : SideTerm) => q.set == set)) then s
      else
        match parityUnit parity with
        | some u => s.parityFault c u pc pre
        | none =>
          let s := s.upset c errs
          let k := s.core c
          if !(k.acc set).slotEmpty && k.spBad (k.slotAddr set) 8192 then s.arrayBad c (k.slotAddr set) 8192 pc pre
          else if ctlSide w && (k.acc set).sideSum && k.spBad (k.sideAddr set) 4096 then s.arrayBad c (k.sideAddr set) 4096 pc pre
          else
            let ts := k.drainTerms set d
            let rows := (List.range 32).map (d.row ts)
            let k1 := (rows.flatMap DrainOut.writes).foldl (fun (k : Core) wr => k.writeSp wr.1 wr.2) (k.dequeue pre post)
            let s1 := (s.setCore c k1).drainStats c w (rows.flatMap DrainOut.convs)
            s1.arrayStep c (s1.core c)
    | _ => s)

/-- R72, R75, R77, spill. -/
def execSpill (c : CoreId) (t : ThreadId) (f : FmtQ) (s : State) : Out :=
  commit s (fun s => s.issue c t f.pg f.pn (f.ok true false false false false) false []
    (fun s x => s.claimed c t (fun s =>
      let k := s.core c
      if (k.acc f.set.toNat).empty ∨ !slotFits k.mcfg.toNat f.set.toNat then .fault 0x02 0
      else s.enqueueArray c (.spill f.set.toNat x.pc))))

/-- R71: the first queued spill, once its set is ready, folds the set into its slot. -/
def execSpillExecute (c : CoreId) (parity : Option Nat) (errs : List (Nat × Bool)) (s : State) : Out :=
  commit s (fun s =>
    let k := s.core c
    match splitFirst (fun o => match o with | .spill _ _ => true | _ => false) k.aq with
    | some (pre, .spill set pc, post) =>
      if !k.setReady pre set then s
      else
        match parityUnit parity with
        | some u => s.parityFault c u pc pre
        | none =>
          let s := s.upset c errs
          let k := s.core c
          if !(k.acc set).slotEmpty && k.spBad (k.slotAddr set) 8192 then s.arrayBad c (k.slotAddr set) 8192 pc pre
          else s.arrayStep c ((k.dequeue pre post).spillSet set)
    | _ => s)

/-! ## Top-k -/

/-- R80, tk.init. -/
def execTkInit (c : CoreId) (t : ThreadId) (f : FmtQ) (s : State) : Out :=
  commit s (fun s => s.issue c t f.pg f.pn (f.ok false false true true false) false []
    (fun s x => s.claimed c t (fun s =>
      if 256 < f.n.toNat ∨ 32 < f.m.toNat then .fault 0x02 0
      else s.enqueueArray c (.tkInit f.n.toNat f.m.toNat x.pc))))

/-- R77, R80, tk.ins. -/
def execTkIns (c : CoreId) (t : ThreadId) (f : FmtQ) (parity : Option Nat) (s : State) : Out :=
  commit s (fun s => s.issue c t f.pg f.pn (f.ok true true true false false) false [f.a.toNat]
    (fun s x => s.claimed c t (fun s =>
      let a := (s.core c).acc f.set.toNat
      let base := (x.sreg f.a.toNat).toNat
      if a.empty ∨ a.pair ∨ 32 < f.n.toNat ∨ 2 ^ 32 < base + f.n.toNat then .fault 0x02 0
      else s.enqueueArray c (.tkIns f.set.toNat f.n.toNat base x.pc parity))))

/-- Bytes of a partial-list block (Table 03.4). -/
def listBytes (rows k : Nat) : Nat := rows * (8 + 8 * k)

/-- R80, R82, tk.mrg. -/
def execTkMrg (c : CoreId) (t : ThreadId) (f : FmtQ) (s : State) : Out :=
  commit s (fun s => s.issue c t f.pg f.pn (f.ok false true true false true) false [f.a.toNat]
    (fun s x => s.claimed c t (fun s =>
      let off := (x.sreg f.a.toNat + BitVec.ofNat 64 (f.off.toNat * 64)).toNat
      if off % 8 ≠ 0 ∨ f.n.toNat = 0 ∨ 256 < f.n.toNat then .fault 0x02 (BitVec.ofNat 64 off)
      else if !x.inWindow off (listBytes (s.core c).tkRows f.n.toNat) then .fault 0x04 (BitVec.ofNat 64 off)
      else s.enqueueArray c (.tkMrg (x.phys off) f.n.toNat x.pc))))

/-- R80, R82, tk.out. -/
def execTkOut (c : CoreId) (t : ThreadId) (f : FmtQ) (parity : Option Nat) (s : State) : Out :=
  commit s (fun s => s.issue c t f.pg f.pn (f.ok false true false false true) false [f.a.toNat]
    (fun s x => s.claimed c t (fun s =>
      let off := (x.sreg f.a.toNat + BitVec.ofNat 64 (f.off.toNat * 64)).toNat
      if off % 8 ≠ 0 then .fault 0x02 (BitVec.ofNat 64 off)
      else if !x.inWindow off (listBytes (s.core c).tkRows (s.core c).tkK) then .fault 0x04 (BitVec.ofNat 64 off)
      else s.enqueueArray c (.tkOut (x.phys off) x.pc parity))))

/-- A block merged into the lists, row counts already checked: NaN counts added, entries offered. -/
def Core.mergeBlock (k : Core) (addr ksrc : Nat) : TopKUnit :=
  if k.tk.k = 0 then k.tk
  else (List.range k.tk.rows).foldl (fun u i =>
    let a := addr + i * (8 + 8 * ksrc)
    let u1 := { u with nans := Tab.upd u.nans 0 i (fun n => min (n + leNat (k.readSp (a + 4) 4)) (2 ^ 32 - 1)) }
    (List.range (leNat (k.readSp a 4))).foldl (fun u e =>
      u.offer i (BitVec.ofNat 32 (leNat (k.readSp (a + 8 + 8 * e) 4))) (leNat (k.readSp (a + 12 + 8 * e) 4))) u1) k.tk

/-- R80, R475: a tk.mrg at the front of the top-k instructions reads its block; a row count above ksrc faults the thread. -/
def execTkMrgExecute (c : CoreId) (parity : Option Nat) (errs : List (Nat × Bool)) (s : State) : Out :=
  commit s (fun s =>
    let k := s.core c
    match splitFirst ArrayOp.isTk k.aq with
    | some (pre, .tkMrg addr ksrc pc, post) =>
      let n := listBytes k.tk.rows ksrc
      match parityUnit parity with
      | some u => s.parityFault c u pc pre
      | none =>
        let s := s.upset c errs
        let k := s.core c
        if k.spBad addr n then s.arrayBad c addr n pc pre
        else if (List.range k.tk.rows).any (fun i => decide (ksrc < leNat (k.readSp (addr + i * (8 + 8 * ksrc)) 4))) then
          (s.arrayFault c 0x02 pc 0 pre).resched c
        else s.arrayStep c { k.dequeue pre post with tk := k.mergeBlock addr ksrc }
    | _ => s)

end Sys2Proof.Machine
end

