-- ==== Sys2Proof/Machine/Ecc.lean ====
section
/-! DEFINITION. Check codes (R170, R171, R186, R299, R300): CRC-16, CRC-32C, CRC-8, and what the check of a 64 B HBM sector makes of
wrong bytes. -/

namespace Sys2Proof

/-- One bit of a most-significant-first CRC of width w. -/
def crcBit (w poly c : Nat) : Nat := if c.testBit (w - 1) then (2 * c % 2 ^ w) ^^^ poly else 2 * c % 2 ^ w

def crcByte (w poly c b : Nat) : Nat :=
  (List.range 8).foldl (fun c _ => crcBit w poly c) (c ^^^ (b * 2 ^ (w - 8)))

/-- A CRC without reflection over bytes. -/
def crcMsb (w poly init : Nat) (bs : List Byte) : Nat := bs.foldl (fun c b => crcByte w poly c b.toNat) init

/-- The CRC-16 of classes A and X (R170). -/
def crc16 (bs : List Byte) : Nat := crcMsb 16 0x1021 0xFFFF bs

/-- The CRC-8 of a frame (R299). -/
def crc8 (bs : List Byte) : Nat := crcMsb 8 0x07 0 bs

/-- CRC-32C of the bytes sent (R186): reflected, as the Castagnoli polynomial is used. -/
def crc32cByte (c b : Nat) : Nat :=
  (List.range 8).foldl (fun c _ => if c.testBit 0 then (c / 2) ^^^ 0x82F63B78 else c / 2) (c ^^^ b)

def crc32c (bs : List Byte) : Nat := (bs.foldl (fun c b => crc32cByte c b.toNat) 0xFFFFFFFF) ^^^ 0xFFFFFFFF

/-! ## The symbol code of classes W, S and K (R170) -/

/-- Multiplication by x in GF(2⁸) with field polynomial x⁸ + x⁴ + x³ + x² + 1. -/
def gfTwice (a : Byte) : Byte := if a.getLsbD 7 then (a <<< 1) ^^^ 0x1D else a <<< 1

/-- Multiplication in the field. -/
def gfMul (a b : Byte) : Byte :=
  ((List.range 8).foldl (fun (x : Byte × Byte) i => (if b.getLsbD i then x.1 ^^^ x.2 else x.1, gfTwice x.2)) (0, a)).1

/-- The power n of the root α. -/
def gfPow (n : Nat) : Byte := (List.range n).foldl (fun a _ => gfTwice a) 1

/-- The generator with roots α⁰ to α³, from x³ down (its x⁴ has coefficient 1). -/
def rsGen : List Byte := [0x0F, 0x36, 0x78, 0x40]

/-- The four check bytes of 64 data bytes: the remainder of the data polynomial times x⁴. DESIGN CHOICE (assumption 121): data byte 0 is the
highest coefficient, check byte 0 that of x³. -/
def rsCheck (data : List Byte) : List Byte :=
  data.foldl (fun r b =>
    let f := b ^^^ r.getD 0 0
    List.zipWith (fun x g => x ^^^ gfMul f g) (r.drop 1 ++ [0]) rsGen) [0, 0, 0, 0]

/-- The syndromes of a difference of check bytes: its value at α⁰ to α³. -/
def syndromes (diff : List Byte) : List Byte := (List.range 4).map (fun j => diff.foldl (fun v d => gfMul v (gfPow j) ^^^ d) 0)

/-- The one wrong symbol that a difference of check bytes stands for: its place among the 68 and its error. -/
def oneWrong (diff : List Byte) : Option (Nat × Byte) :=
  let y := syndromes diff
  let v := y.getD 0 0
  if v = 0 then none
  else ((List.range 68).find? (fun i => (List.range 4).all (fun j => y.getD j 0 == gfMul v (gfPow (j * (67 - i) % 255))))).map (fun i => (i, v))

/-! ## The frame code RS(544, 514) (R300) -/

/-- Multiplication by x in GF(2¹⁰) with field polynomial x¹⁰ + x³ + 1. -/
def gf10Twice (a : BitVec 10) : BitVec 10 := if a.getLsbD 9 then (a <<< 1) ^^^ 0x009 else a <<< 1

/-- Multiplication in the field. -/
def gf10Mul (a b : BitVec 10) : BitVec 10 :=
  ((List.range 10).foldl (fun (x : BitVec 10 × BitVec 10) i => (if b.getLsbD i then x.1 ^^^ x.2 else x.1, gf10Twice x.2)) (0, a)).1

/-- The power n of the root α, whose order is 1,023. -/
def gf10Pow (n : Nat) : BitVec 10 := (List.range (n % 1023)).foldl (fun a _ => gf10Twice a) 1

/-- The inverse: the power 1,022, as a product of nine squarings. -/
def gf10Inv (a : BitVec 10) : BitVec 10 :=
  ((List.range 9).foldl (fun (x : BitVec 10 × BitVec 10) _ => let q := gf10Mul x.2 x.2; (gf10Mul x.1 q, q)) (1, a)).1

/-- A polynomial's value, its constant term first. -/
def gf10Eval (p : List (BitVec 10)) (v : BitVec 10) : BitVec 10 := p.foldr (fun c y => c ^^^ gf10Mul y v) 0

/-- The 30 syndromes of a word with these wrong symbols. DESIGN CHOICE (assumption 121): symbol 0 is the highest coefficient. -/
def fecSyndromes (e : List (Nat × BitVec 10)) : List (BitVec 10) :=
  (List.range 30).map (fun j => e.foldl (fun v x => v ^^^ gf10Mul x.2 (gf10Pow (j * (543 - x.1)))) 0)

/-- The decoder's state between syndromes: the locator, the one before its last change of length with that discrepancy, its length, and the
shift since. -/
structure Locator where
  c : List (BitVec 10) := [1]
  b : List (BitVec 10) := [1]
  last : BitVec 10 := 1
  len : Nat := 0
  gap : Nat := 1
deriving DecidableEq, Repr

/-- The shortest locator that the syndromes so far allow, after one more. -/
def Locator.next (syn : List (BitVec 10)) (x : Locator) (n : Nat) : Locator :=
  let d := (List.range (x.len + 1)).foldl (fun v i => v ^^^ gf10Mul (x.c.getD i 0) (syn.getD (n - i) 0)) 0
  if d = 0 then { x with gap := x.gap + 1 }
  else
    let k := gf10Mul d (gf10Inv x.last)
    let y := List.replicate x.gap 0 ++ x.b.map (gf10Mul k)
    let c := (List.range (max x.c.length y.length)).map (fun i => x.c.getD i 0 ^^^ y.getD i 0)
    if 2 * x.len ≤ n then { c := c, b := x.c, last := d, len := n + 1 - x.len, gap := 1 } else { x with c := c, gap := x.gap + 1 }

/-- What the decoder of up to 15 wrong symbols adds to a word with these wrong symbols; none where it fails. -/
def fecDecode (errs : List (Nat × BitVec 10)) : Option (List (Nat × BitVec 10)) :=
  let syn := fecSyndromes errs
  let x := (List.range 30).foldl (Locator.next syn) {}
  let places := (List.range 544).filter (fun i => gf10Eval x.c (gf10Pow (1023 - (543 - i))) == 0)
  if 15 < x.len ∨ places.length ≠ x.len then none
  else
    let omega := (List.range 30).map (fun n => (List.range (n + 1)).foldl (fun v i => v ^^^ gf10Mul (x.c.getD i 0) (syn.getD (n - i) 0)) 0)
    let slope := (List.range x.c.length).map (fun i => if i % 2 = 0 then x.c.getD (i + 1) 0 else 0)
    some (places.map (fun i =>
      let v := gf10Pow (1023 - (543 - i))
      (i, gf10Mul (gf10Pow (543 - i)) (gf10Mul (gf10Eval omega v) (gf10Inv (gf10Eval slope v))))))

/-- The bits that differ in n symbols from a first one on, symbol by symbol from bit 0. -/
def leNatBits (first : Nat) (errs : List (Nat × BitVec 10)) (n : Nat) : Nat :=
  (List.range n).foldl (fun v i =>
    v ^^^ ((errs.foldl (fun (x : BitVec 10) e => if e.1 = first + i then x ^^^ e.2 else x) 0).toNat * 2 ^ (10 * i))) 0

/-- The 640 flit bytes with what the wrong symbols change in them: the flits begin with symbol 2 (R299). -/
def flitBytes (errs : List (Nat × BitVec 10)) (data : List Byte) : List Byte :=
  let d := leNatBits 2 errs 512
  (List.range data.length).map (fun i => data.getD i 0 ^^^ BitVec.ofNat 8 (d / 2 ^ (8 * i)))

/-! ## A read of an HBM sector (R170, R171) -/

/-- What a read of an HBM sector comes to; a correction leaves the data with these bits wrong (none, where one byte was wrong). -/
inductive Check where
  | clean
  | corrected (left : List Byte)
  | poison
  | detected
  | missed
deriving DecidableEq, Repr

/-- The wrong bytes of a sector that differ at all, each place once. -/
def wrongBytes (w : List (Nat × Byte)) : List (Nat × Byte) := w.filter (fun e => e.1 < 68 && e.2 != 0)

/-- The bits that differ at a place. -/
def wrongAt (w : List (Nat × Byte)) (i : Nat) : Byte := w.foldl (fun x e => if e.1 = i then x ^^^ e.2 else x) 0

/-- The 64 data bytes' difference. -/
def wrongData (w : List (Nat × Byte)) : List Byte := (List.range 64).map (wrongAt w)

/-- The check bytes of a difference of data, as their code is linear: the symbol code, or the CRC with check bytes 2 and 3 zero. -/
def checkOf (symbol : Bool) (d : List Byte) : List Byte :=
  if symbol then rsCheck d
  else
    let c := crcMsb 16 0x1021 0 d
    [BitVec.ofNat 8 (c / 256), BitVec.ofNat 8 c, 0, 0]

/-- The 4-byte check difference of a read: the check bytes of the data read against those read, where the sector may hold poison. -/
def checkDiff (symbol poisoned : Bool) (w : List (Nat × Byte)) : List Byte :=
  List.zipWith (fun (x : Byte) i => x ^^^ wrongAt w (64 + i) ^^^ (if poisoned then 0x5A else 0)) (checkOf symbol (wrongData w)) (List.range 4)

/-- A sector read with wrong bytes: the poison pattern is tested before the sector is decoded (R171). The symbol code of classes W, S and K
then corrects what one wrong symbol explains; the CRC of classes A and X corrects nothing. -/
def checkSector (symbol poisoned : Bool) (w : List (Nat × Byte)) : Check :=
  let d := wrongData w
  let diff := checkDiff symbol poisoned w
  if diff.all (· == 0x5A) then .poison
  else if diff.all (· == 0) then (if d.all (· == 0) then .clean else .missed)
  else if !symbol then .detected
  else
    match oneWrong diff with
    | some (i, v) => .corrected ((List.range 64).map (fun j => if j = i then wrongAt w j ^^^ v else wrongAt w j))
    | none => .detected

end Sys2Proof
end

