-- ==== Sys2Proof/Machine/Frames.lean ====
section
/-! DEFINITION. Frames of HBM and the deck, the HBM rows behind them, checks of HBM sectors and retirement (R130, R170–R173, R181,
R184, R194–R196, R199). -/

namespace Sys2Proof.Machine

/-- Stacks in service (2400:02), ascending. -/
def State.stacks (s : State) : List Nat := (List.range 8).filter (fun k => (s.obj (objKey 0x2400 2)).testBit k)

/-- Frames that the pool may name: those of the stacks in service less the keeper reserve (R199). -/
def State.hbmLimit (s : State) : Nat := s.stacks.length * 786432 - 49152

/-- Where block b of HBM frame F lies: stack, pseudo-channel, bank, column group, row (R199). -/
def State.blockPlace (s : State) (f b : Nat) : Nat × Nat × Nat × Nat × Nat :=
  let r := s.stacks
  let g := f * 256 + b
  let q := g / r.length
  (r.getD (g % r.length) 0, bitsOf q 5 0 ^^^ bitsOf q 17 12, bitsOf q 9 6 ^^^ bitsOf q 21 18, bitsOf q 11 10, q / 4096)

/-- A row's location, as Table 06.9 writes it. -/
def State.rowLoc (s : State) (f b : Nat) : Nat :=
  let (k, pc, bank, _, row) := s.blockPlace f b
  k * 2 ^ 37 + pc * 2 ^ 31 + bank * 2 ^ 27 + row * 2 ^ 11

/-- The four frames that hold a row's blocks (R195). -/
def State.rowFrames (s : State) (f b : Nat) : List Nat :=
  let n := s.stacks.length
  let g := f * 256 + b
  let q := g / n
  (List.range 4).map (fun k => ((q - bitsOf q 11 10 * 1024 + k * 1024) * n + g % n) / 256)

/-- HBM frames that hold or await a page, as first frame and count: of pages, of migrations and returns, of shadows and previous frames. -/
def State.hbmHeld (s : State) : List (Nat × Nat) :=
  (s.allPages.filterMap (fun p => if p.loc = 0 ∨ p.loc = 4 then some (p.place % 2 ^ 23, p.frames) else none)) ++
  (s.keeper.migs.filterMap (fun m =>
    if m.switched then (if m.srcLoc = 0 ∨ m.srcLoc = 4 then some (m.srcPlace % 2 ^ 23, m.frames) else none)
    else if m.loc = 0 then some (m.place % 2 ^ 23, m.frames) else none)) ++
  (s.keeper.rets.filterMap (fun r => if r.loc = 0 then some (r.frame % 2 ^ 23, r.frames) else none)) ++
  (s.keeper.shadows.filterMap (fun (e : Shadow) => if e.loc = 0 then some (e.place % 2 ^ 23, e.frames) else none)) ++
  s.keeper.flipped.filterMap (fun (e : Flipped) => if e.loc = 0 ∨ e.loc = 4 then some (e.place % 2 ^ 23, e.frames) else none)

/-- HBM frames that no page may be given: those held, the retired ones and those being retired. -/
def State.hbmUsed (s : State) : List (Nat × Nat) :=
  s.hbmHeld ++ (s.keeper.badFrames ++ s.keeper.retiring.flatMap Retiring.frames).map (fun f => (f, 1))

/-- Are n frames from F free? -/
def State.hbmFree (s : State) (f n : Nat) : Bool :=
  f % n == 0 && decide (f + n ≤ s.hbmLimit) && s.hbmUsed.all (fun u => decide (f + n ≤ u.1) || decide (u.1 + u.2 ≤ f))

/-- The lowest free HBM frame for a page of n frames; the choice among free frames is the model's. -/
def State.pickHbm (s : State) (n : Nat) : Option Nat :=
  let cands := (0 :: s.hbmUsed.map (fun u => alignUp (u.1 + u.2) n)).filter (fun f => s.hbmFree f n)
  cands.foldl (fun (m : Option Nat) f => match m with
    | none => some f
    | some g => some (min f g)) none

/-- HBM blocks homed in each column (R184). -/
def State.homed (s : State) (c : Nat) : Nat :=
  s.allPages.foldl (fun n p =>
    if p.loc = 0 ∨ p.loc = 4 then
      let hc := p.place / 2 ^ 23
      if p.big then n + ((List.range 32).filter (fun i => (hc + i) % 96 == c)).length else (if hc = c then n + 1 else n)
    else n) 0

/-! ## Deck frames -/

def State.col (s : State) (c : Nat) : Column := Tab.get s.cols {} c
def State.setCol (s : State) (c : Nat) (k : Column) : State := { s with cols := Tab.set s.cols {} c k }
def State.modCol (s : State) (c : Nat) (f : Column → Column) : State := s.setCol c (f (s.col c))

/-- A bank's role: working banks cache local lines, spares are free, by default (R477). -/
def Column.role (k : Column) (tier bank : Nat) : Nat := Tab.get k.roles (if bank = 16 then 4 else 0) (tier * 17 + bank)
def Column.setRole (k : Column) (tier bank role : Nat) : Column :=
  { k with roles := Tab.set k.roles (if bank = 16 then 4 else 0) (tier * 17 + bank) role }

/-- The banks of a column with a role, ascending, as tier × 17 + bank. -/
def Column.banksOf (k : Column) (role : Nat) : List Nat := (List.range 68).filter (fun b => k.role (b / 17) (b % 17) == role)

/-- May a page of n frames be homed from column c on: has each column that its blocks take a cache-local bank (R134)? -/
def State.mayHome (s : State) (c n : Nat) : Bool := 
  (List.range n).all (fun i => (List.range 68).any (fun b => (s.col ((c + i) % 96)).role (b / 17) (b % 17) == 0))

/-- The home column of an HBM page of n frames: the hint, else the column with the fewest homed blocks (R184), among those that may home it
(DEDUCED from R134, assumption 120); any column where none may. -/
def State.homeFor (s : State) (hint n : Nat) : Nat :=
  if hint < 96 ∧ s.mayHome hint n then hint
  else
    match (List.range 96).filter (fun c => s.mayHome c n) with
    | [] => if hint < 96 then hint else 0
    | a :: r => (r.foldl (fun (b : Nat × Nat) c => let m := s.homed c; if m < b.2 then (c, m) else b) (a, s.homed a)).1

/-- May a position of a tier carry hot traffic (R429)? -/
def posAllowed (t c b : Nat) : Bool := (b % 4 + b / 4 + t + c) % 2 == 0 && !(t == 0 && [5, 6, 9, 10].elem b)

/-- Does the stagger map allow a bank: a spare has the bit of the bank that it replaces (R159, R429)? -/
def Column.allowed (k : Column) (c t b : Nat) : Bool :=
  if b = 16 then ((List.range 16).find? (fun x => k.role t x == 5)).any (fun x => posAllowed t c x) else posAllowed t c b

/-- A deck place: column, tier, bank and frame (Table 06.2). -/
def deckPlace (c tier bank frame : Nat) : Nat := c * 2 ^ 23 + tier * 2 ^ 21 + bank * 2 ^ 16 + frame * 2 ^ 11

/-- The role of a pool's banks: resident 2, stash 3. -/
def roleOfLoc (loc : Nat) : Nat := if loc = 1 then 2 else 3

/-- Deck frames of a place value that hold or await a page, with their count. -/
def State.deckHeld (s : State) : List (Nat × Nat) :=
  (s.allPages.filterMap (fun p => if p.loc = 1 ∨ p.loc = 2 then some (p.place, p.frames) else none)) ++
  (s.keeper.migs.filterMap (fun m =>
    if m.switched then (if m.srcLoc = 1 ∨ m.srcLoc = 2 then some (m.srcPlace, m.frames) else none)
    else if m.loc = 1 ∨ m.loc = 2 then some (m.place, m.frames) else none)) ++
  (s.keeper.rets.filterMap (fun r => if r.loc = 1 ∨ r.loc = 2 then some (r.frame, r.frames) else none)) ++
  (s.keeper.shadows.filterMap (fun (e : Shadow) => if e.loc = 1 ∨ e.loc = 2 then some (e.place, e.frames) else none)) ++
  s.keeper.flipped.filterMap (fun (e : Flipped) => if e.loc = 1 ∨ e.loc = 2 then some (e.place, e.frames) else none)

def State.deckUsed (s : State) : List (Nat × Nat) := s.deckHeld ++ s.keeper.retained.map (fun r => (r.place, r.frames))

/-- Do n frames from a deck place share a frame with another place of m frames? -/
def placesMeet (place n : Nat) (u : Nat × Nat) : Bool :=
  u.1 / 2 ^ 16 == place / 2 ^ 16 && (u.2 != 1 || n != 1 || u.1 / 2 ^ 11 == place / 2 ^ 11)

/-- Does no page use n frames from a deck place; a 2 MiB page fills a bank (R131)? -/
def State.deckOpen (s : State) (place n : Nat) : Bool :=
  (n == 1 || place % 2 ^ 16 == 0) && s.deckUsed.all (fun u => !placesMeet place n u)

/-- Is a deck place free for n frames in a bank of the pool's role that is not being drained? -/
def State.deckFree (s : State) (loc place n : Nat) : Bool :=
  let c := place / 2 ^ 23
  let t := bitsOf place 22 21
  let b := bitsOf place 20 16
  (s.col c).role t b == roleOfLoc loc && Tab.get (s.col c).draining 0xFF (t * 17 + b) == 0xFF && s.deckOpen place n

/-- Does the stagger map allow a deck place (R159)? -/
def State.placeAllowed (s : State) (place : Nat) : Bool :=
  (s.col (place / 2 ^ 23)).allowed (place / 2 ^ 23) (bitsOf place 22 21) (bitsOf place 20 16)

/-- Places for n frames in the banks of a pool's role. -/
def State.deckPlaces (s : State) (loc n : Nat) : List Nat :=
  s.cols.flatMap (fun e => e.2.roles.flatMap (fun r =>
    if r.2 = roleOfLoc loc then
      (if n = 1 then (List.range 32).map (deckPlace e.1 (r.1 / 17) (r.1 % 17)) else [deckPlace e.1 (r.1 / 17) (r.1 % 17) 0])
    else []))

/-- The lowest free deck place for n frames, in a position that the stagger map allows as long as one is free (R159). -/
def State.pickDeck (s : State) (loc n : Nat) : Option Nat :=
  match (s.deckPlaces loc n).find? (fun p => s.placeAllowed p && s.deckFree loc p n) with
  | some p => some p
  | none => (s.deckPlaces loc n).find? (fun p => s.deckFree loc p n)

/-- May a deck place that is asked for be taken: it is free, and allowed where an allowed one is free (R159)? -/
def State.deckWanted (s : State) (loc place n : Nat) : Bool :=
  s.deckFree loc place n && (s.placeAllowed place || !(s.pickDeck loc n).any s.placeAllowed)

/-- A place for a page of n frames in a pool: an asked-for one that is free, else the lowest free; in HBM with its home column. -/
def State.pickFrame (s : State) (loc n home : Nat) (want : Option Nat) : Option Nat :=
  if loc = 0 then
    (match want.filter (fun f => s.hbmFree (f % 2 ^ 23) n) with
      | some f => some (f % 2 ^ 23)
      | none => s.pickHbm n).map (fun f => s.homeFor home n * 2 ^ 23 + f)
  else
    match want.filter (fun p => s.deckWanted loc p n) with
    | some p => some p
    | none => s.pickDeck loc n

/-- Stash frames that class A may hold (R181). -/
def State.stashRoom (s : State) (n : Nat) : Bool :=
  decide ((s.keeper.stash.allocated + s.keeper.stash.inflight + n) * 100 ≤ 16 * s.obj (objKey 0x2400 4) * s.obj (objKey 0x2410 1))

/-- The place of a new or moving page by the first applicable row of Table 06.7 (R181), for the place and the pin of its allocation, its class,
its frames and its home hint: the loc (0 for HBM) and the place. A page pinned without a resident frame is as one preferred (R152). -/
def State.placeBy (s : State) (place pin cls n home : Nat) (want : Option Nat) : Option (Nat × Nat) :=
  let take (loc : Nat) : Option (Nat × Nat) :=
    if (s.pool (poolOf loc)).free < n then none else (s.pickFrame loc n home want).map (fun f => (loc, f))
  let room := decide (n + 16 * s.reservations ≤ s.keeper.resident.free)
  if place = 2 then take 1
  else if pin = 2 then (take 1).orElse (fun _ => take 0)
  else if pin ≠ 0 then ((if room then take 1 else none).orElse (fun _ => take 0))
  else if cls = 2 ∧ place = 0 then ((if s.stashRoom n then take 2 else none).orElse (fun _ => take 0))
  else take 0

/-! ## Retirement -/

/-- Does the write of a retirement entry to flash succeed? The spec leaves a failing flash to the part. -/
def State.flashOk (s : State) : Bool := Config.freeFn 0x2436 [s.fresh] % 2 == 0

/-- A new entry of the retirement list (R196). -/
def State.retireEntry (s : State) (kind cause loc errors : Nat) (moved poisoned : Bool) : State × Nat :=
  let n := s.flash.nextRetire
  let e : RetireEntry := {
    seq := n, kind := kind, moved := moved, poisoned := poisoned, cause := cause, loc := loc, boot := s.flash.boot, errors := errors }
  if 4096 ≤ s.flash.retire.length + s.flash.heldRetire.length then (s.event 0x2433 srcKeeper [(8, loc)], 0)
  else
    let f := { s.flash with nextRetire := n + 1 }
    if s.flash.heldRetire.isEmpty && s.flashOk then
      ({ s with flash := { f with retire := f.retire ++ [e] }, fresh := s.fresh + 1 }, n)
    else
      (({ s with flash := { f with heldRetire := f.heldRetire ++ [e], retireFailed := true }, fresh := s.fresh + 1 }).when
        (!s.flash.retireFailed) (fun s => s.event 0x2436 srcKeeper [(4, n)]), n)

/-- A row's pages have moved, or it held none: its frames leave the pool, an entry is appended, event 0x2432 added (R195). -/
def State.retireDone (s : State) (r : Retiring) : State :=
  let n := r.frames.length
  let s1 := { s with keeper := { s.keeper with
    badFrames := s.keeper.badFrames ++ r.frames
    hbm := { s.keeper.hbm with total := s.keeper.hbm.total - n, free := s.keeper.hbm.free - n } } }
  let (s2, q) := s1.retireEntry 1 r.cause r.loc r.errors (r.moved != 0) r.poisoned
  s2.event 0x2432 srcKeeper [(4, q), (8, r.loc), (4, r.moved), (4, if r.poisoned then 1 else 0)]

/-- Rows whose frames no page holds any more are retired. -/
def State.settleRetire (s : State) : State :=
  let ready (r : Retiring) : Bool := r.frames.all (fun f => s.hbmHeld.all (fun u => decide (f < u.1) || decide (u.1 + u.2 ≤ f)))
  ({ s with keeper := { s.keeper with retiring := s.keeper.retiring.filter (fun r => !ready r) } } : State).forAll
    (s.keeper.retiring.filter ready) State.retireDone

/-- A row's retirement begins (R194, R195): its frames take no new page, and the pages in them are to migrate; it ends once they have. -/
def State.retireRow (s : State) (f b cause errors : Nat) (poisoned : Bool) : State :=
  let gone := s.keeper.badFrames ++ s.keeper.retiring.flatMap Retiring.frames
  let frames := ((s.rowFrames f b).eraseDups).filter (fun x => !gone.elem x && decide (x < s.hbmLimit))
  let loc := s.rowLoc f b
  let hit := s.allPages.filter (fun p => (p.loc = 0 || p.loc = 4) && frames.any (fun x =>
    p.place % 2 ^ 23 ≤ x && x < p.place % 2 ^ 23 + p.frames))
  if frames.isEmpty then s
  else
    let r : Retiring := { frames := frames, loc := loc, cause := cause, errors := errors, moved := hit.length, poisoned := poisoned }
    ({ s with keeper := { s.keeper with retiring := s.keeper.retiring ++ [r], rows := Tab.set s.keeper.rows 0 loc 0 } } : State).settleRetire

/-- A corrected error counted for its row (R173, R194): in a full table the row with the lowest count, the lower-addressed on a
tie, makes room. -/
def countRow (t : Tab Nat) (loc : Nat) : Tab Nat :=
  if t.any (fun e => e.1 == loc) ∨ t.length < 65536 then Tab.upd t 0 loc (· + 1)
  else
    match t with
    | [] => [(loc, 1)]
    | e :: r =>
      let m := r.foldl (fun (x y : Nat × Nat) => if y.2 < x.2 then y else x) e
      Tab.set (Tab.erase t m.1) 0 loc 1

/-- One wrong byte corrected: counts, event 0x2430, and the row's threshold (R173, R194). -/
def State.correctedError (s : State) (f b : Nat) : State :=
  let loc := s.rowLoc f b
  let (k, pc, bank, _, row) := s.blockPlace f b
  let s1 := (s.bump (objKey 0x2400 0x11) 1).event 0x2430 (srcStack k) [(1, k), (1, pc), (1, bank), (2, row)]
  let s2 := { s1 with keeper := { s1.keeper with
    rows := countRow s1.keeper.rows loc, stackCorrected := Tab.upd s1.keeper.stackCorrected 0 k (· + 1) } }
  let n := Tab.get s2.keeper.rows 0 loc
  if s2.obj (objKey 0x2400 8) ≤ n then s2.retireRow f b 1 n false else s2

/-- Is a class under the symbol code? -/
def symbolClass (cls : Nat) : Bool := cls == 0 || cls == 1 || cls == 3

/-- An error that the check cannot correct at a local address (R172, R173, R194): the sector is poisoned and its row retired. -/
def State.detectedError (s : State) (p : Page) (a f b : Nat) : State :=
  let s1 := s.setPoison (a / 64) true
  let k := (s.blockPlace f b).1
  let s2 := if symbolClass p.cls then
      ((s1.bump (objKey 0x2400 0x12) 1).event 0x2431 srcKeeper [(2, p.ctx), (8, a), (1, p.cls)])
    else
      ((s1.when (p.cls == 2) (fun s => s.bump (objKey 0x2400 0x0C) 1)).event 0x2434 srcKeeper [(2, p.ctx), (8, a), (1, p.cls)])
  { s2 with keeper := { s2.keeper with stackUncorrectable := Tab.upd s2.keeper.stackUncorrectable 0 k (· + 1) } }.retireRow f b 2
    (Tab.get s2.keeper.rows 0 (s2.rowLoc f b)) true

/-- What a read of one HBM sector of a page finds (R170–R173). -/
def State.checkRead (s : State) (x : BadBytes) : State :=
  let a := x.sector * 64
  match s.pageAt a with
  | none => s
  | some p =>
    if p.loc ≠ 0 then s
    else
      let off := a - p.base
      let f := p.place % 2 ^ 23 + off / 65536
      let b := off % 65536 / 256
      match checkSector (symbolClass p.cls) (Tab.get s.poison false x.sector) (wrongBytes x.wrong) with
      | .clean => s
      | .corrected left =>
        let s1 := s.correctedError f b
        if left.all (· == 0) then s1 else { s1 with mem := Tab.writeBytes s1.mem a (List.zipWith (· ^^^ ·) (s1.readMem a 64) left) }
      | .poison => s.setPoison x.sector true
      | .detected => s.detectedError p a f b
      | .missed => { s with mem := Tab.writeBytes s.mem a (List.zipWith (· ^^^ ·) (s.readMem a 64) (wrongData x.wrong)) }

end Sys2Proof.Machine
end

