-- ==== Sys2Proof/Machine/Deck.lean ====
section
/-! DEFINITION. Deck columns: lines, sectors, misses, and what a local access comes to (R130–R150, R178, R182, R187–R189). The data
of a local page is `mem` wherever it is cached; a line records what is valid and dirty. -/

namespace Sys2Proof.Machine

/-- The sectors of a line that a range touches, as bits (R136). -/
def sectorBits (a n : Nat) : W16 :=
  if n = 0 then 0
  else (List.range 16).foldl (fun (m : W16) i =>
    if a % 4096 < 256 * i + 256 ∧ 256 * i < a % 4096 + n then m ||| ((1 : W16) <<< i) else m) 0

/-- The sectors that a miss fills: the one asked for and the next d of the line (R137). -/
def fillBits (a n d : Nat) : W16 := sectorBits a (min (n + 256 * d) (4096 - a % 4096))

def covers (have_ want : W16) : Bool := want &&& ~~~have_ == 0

/-- A line's number in the list of evictions: remote lines and local ones apart. -/
def evictKey (line : Nat) (remote : Bool) : Nat := 2 * line + (if remote then 1 else 0)

def Column.line? (k : Column) (line : Nat) (remote : Bool) : Option Line :=
  k.lines.find? (fun l => l.line == line && l.remote == remote)

/-- A line made most recently used. -/
def Column.touch (k : Column) (l : Line) : Column :=
  { k with
    lines := l :: k.lines.filter (fun x => !(x.line == l.line && x.remote == l.remote))
    accesses := Tab.upd k.accesses 0 l.bank (· + 1) }

/-- The last line of a set, if the set is full (R139). -/
def Column.victim (k : Column) (bank set : Nat) : Option Line :=
  let ws := k.lines.filter (fun l => l.bank == bank && l.set == set)
  if ws.length < 16 then none else ws.getLast?

/-- Lines kept on the list of evictions: the last 1,024 (R154). -/
def Column.pushEvicted (k : Column) (l : List Line) : Column :=
  { k with evicted := (l.map (fun v => evictKey v.line v.remote) ++ k.evicted).take 1024 }

/-- Lines evicted clean: written back, dropped and kept on the list of evictions (R139, R150, R154). -/
def Column.evict (k : Column) (p : Line → Bool) : Column :=
  { k.pushEvicted (k.lines.filter p) with lines := k.lines.filter (fun l => !p l) }

/-- A line put into a column: the least recently used of a full set is evicted; a bank being drained takes no fill (R135, R139, R154). A
stale line that its own refill replaces is no eviction (DEDUCED, assumption 117). -/
def Column.install (k : Column) (l : Line) : Column :=
  match k.line? l.line l.remote with
  | some o =>
    if o.epoch = l.epoch then
      k.touch { o with valid := o.valid ||| l.valid, dirty := o.dirty ||| l.dirty, data := l.data.foldl (fun d e => Tab.set d 0 e.1 e.2) o.data }
    else k.touch l
  | none =>
    if 68 ≤ l.bank ∨ Tab.get k.draining 0xFF l.bank ≠ 0xFF then k
    else
      let k1 := match k.victim l.bank l.set with
        | some v => k.evict (fun x => x.line == v.line && x.remote == v.remote)
        | none => k
      k1.touch l

/-- A fill counted; a refetch where the line is among the last evictions (R154). -/
def Column.countFill (k : Column) (line : Nat) (remote : Bool) : Column :=
  let again := k.evicted.elem (evictKey line remote)
  { k with
    fills := k.fills + 1
    winFills := k.winFills + 1
    refetches := if again then k.refetches + 1 else k.refetches
    winRefetch := if again then k.winRefetch + 1 else k.winRefetch }

/-- The current fill depth (R137). -/
def State.depthOf (s : State) (c : Nat) : Nat :=
  match (s.col c).depth with
  | some d => d
  | none => s.obj (objKey 0x2410 7)

/-- The line record of a local address: its bank and set (R130). -/
def State.localLine (s : State) (c a : Nat) : Line :=
  let l := a / 4096
  { bank := (s.col c).localBank (slotOf l), set := l / 64 % 32, line := l }

/-! ## Off-load returns that accesses start (R188, R189) -/

def oPrefetch : Nat := objKey 0x2400 0x0F

/-- The host address of a slot (R342). -/
def State.slotAddr (s : State) (slot : Nat) : W64 :=
  (Tab.get s.host.pool {} (slot / 2 ^ 24)).base + BitVec.ofNat 64 (slot % 2 ^ 24 * 65536)

/-- Migrations, off-loads and returns in progress: at most 256 (R191). -/
def State.moves (s : State) : Nat := s.keeper.migs.length + s.keeper.offs.length + s.keeper.rets.length

/-- May a migration between two pools start: none is deferred, and fewer than 256 are in progress (R191, R193)? -/
def State.mayMove (s : State) (i j : Nat) : Bool :=
  !Tab.get s.keeper.deferred false i && !Tab.get s.keeper.deferred false j && decide (s.moves < 256)

/-- A return that waits for a frame (R189). -/
def State.waitReturn (s : State) (p : Page) : State :=
  if s.keeper.waitRets.elem p.base then s else { s with keeper := { s.keeper with waitRets := s.keeper.waitRets ++ [p.base] } }

/-- A return starts: a device frame by R181, mig set, every block read (R188); it waits where no frame is free (R189) or no migration may
start (R191, R193). -/
def State.startReturn (s : State) (p : Page) : State :=
  if !p.away ∨ s.keeper.rets.any (fun r => r.page == p.base) then s
  else if !s.hostOpen then s.hostWait.waitReturn p
  else
    match s.placeBy p.want p.pin p.cls p.frames p.hint none with
    | none => s.waitReturn p
    | some (loc, f) =>
      if !s.mayMove (poolOf loc) 3 then s.waitReturn p
      else
        let s1 := (s.modPool (poolOf loc) (fun b => b.fly p.frames)).setPage { p with mig := true }
        let s2 := { s1 with keeper := { s1.keeper with
          waitRets := s1.keeper.waitRets.filter (fun b => b != p.base)
          rets := s1.keeper.rets ++ [({ page := p.base, loc := loc, frame := f, frames := p.frames } : Return)] } }
        s2.forAll (List.range p.frames) (fun s i => s.emit (.hostRead (s.slotAddr (p.place + i)) 65536))

/-- The returns that wait for a frame start, oldest first, as far as frames and migrations allow (R189). -/
def State.pumpReturns (s : State) : State :=
  s.forAll s.keeper.waitRets (fun s b =>
    match s.pageAt b with
    | some p => s.startReturn p
    | none => s)

/-- Blocks of a context that are returning, or returned and unread (R189). -/
def State.unreadBlocks (s : State) (ctx : Nat) : Nat :=
  (s.allPages.filter (fun p => p.ctx == ctx && (p.unread || s.keeper.rets.any (fun r => r.page == p.base)))).foldl
    (fun n p => n + p.frames) 0

/-- The off-loaded page of a context with the largest key below k that is not yet returning. -/
def State.nextReturn (s : State) (ctx k : Nat) : Option Page :=
  (s.allPages.filter (fun p => p.ctx == ctx && p.away && (p.cls == 2 || p.cls == 3) && decide (p.okey < k) &&
      !s.keeper.rets.any (fun r => r.page == p.base))).foldl (fun (m : Option Page) p =>
    match m with
    | none => some p
    | some q => if q.okey < p.okey then some p else some q) none

/-- Returns started below a key until the prefetch depth is reached or no frame is free (R189). -/
def State.prefetchBelow (s : State) (ctx k : Nat) : Nat → State
  | 0 => s
  | n + 1 =>
    if s.obj oPrefetch ≤ s.unreadBlocks ctx then s
    else
      match s.nextReturn ctx k with
      | none => s
      | some p =>
        let s1 := s.startReturn p
        if s1.keeper.rets.length = s.keeper.rets.length then s1 else s1.prefetchBelow ctx k n

/-- A read touches a page: it is no longer unread, and a class A or K page starts returns below its key (R189). -/
def State.touchPage (s : State) (p : Page) : State :=
  let s1 := if p.unread then s.setPage { p with unread := false } else s
  if p.cls = 2 ∨ p.cls = 3 then s1.prefetchBelow p.ctx p.okey s1.keeper.pages.length else s1

/-- A demand access finds its page off-loaded (R188): event 0x2442, and a return. -/
def State.demandReturn (s : State) (p : Page) : State :=
  if s.keeper.rets.any (fun r => r.page == p.base) then s
  else (s.event 0x2442 srcKeeper [(2, p.ctx), (4, p.okey)]).startReturn p

/-! ## Local reads and writes at their home -/

/-- The bytes of a local range with the fault code of reading them: 0x07 for poison (R171). -/
def State.readAt (s : State) (a n : Nat) : List Byte × Nat :=
  if poisonedIn s.poison a n then ([], 0x07) else (s.readMem a n, 0)

/-- Is the line of a local address dropped (R149)? -/
def State.deadLine (s : State) (a : Nat) : Bool :=
  match s.pageAt a with
  | some p => p.cls == 4 && p.deadAt a
  | none => false

/-- A read of a dropped line (R149): counted, event 0x2420. -/
def State.deadRead (s : State) (ctx c a : Nat) : State :=
  (s.bump (objKey 0x2410 0x0A) 1).event 0x2420 srcKeeper [(2, ctx), (1, c), (8, a)]

/-- An off-load in progress cancelled: its slots go back, mig clears (R187). -/
def State.cancelOffload (s : State) (page : Nat) : State :=
  match s.keeper.offs.find? (fun o => o.page == page) with
  | none => s
  | some o =>
    let s1 := s.forAll o.slots (fun s k => (s.modPool 3 (fun b => b.land 1)).releaseSlots k 1)
    let s2 := { s1 with keeper := { s1.keeper with offs := s1.keeper.offs.filter (fun x => x.page != page) } }
    match s2.pageAt page with
    | some p => s2.setPage { p with mig := false }
    | none => s2

/-- The sectors of a line of which masked bytes at an address cover only a part (R138). -/
def partSectors (a : Nat) (bs : List (Byte × Bool)) : W16 :=
  (List.range 16).foldl (fun (m : W16) i =>
    let lo := a / 4096 * 4096 + 256 * i
    let hit := (bs.drop (lo - a)).take (256 - (a - lo))
    if lo < a + bs.length ∧ a < lo + 256 ∧ (hit.length < 256 ∨ !hit.all Prod.snd) then m ||| ((1 : W16) <<< i) else m) 0

/-- A write at its home: it cancels an off-load of the page (R187), and its sectors become valid and dirty where the page is cached
(R138); the first write to a dropped line makes all of it an ordinary line of zeros (R149). Where `fetch`, a sector written in part that
is not valid is fetched first, as a miss (R138); a core's store has done so before. -/
def State.homeStoreAs (s : State) (fetch : Bool) (a : Nat) (bs : List (Byte × Bool)) : State :=
  match s.pageAt a with
  | none => s
  | some p =>
    if p.lost then s
    else
    let s1 := (s.cancelOffload p.base).writeMasked a bs
    if p.direct ∨ (p.loc ≠ 0 ∧ p.loc ≠ 4) then s1
    else
      let c := p.homeCol a
      let m := if p.cls = 4 ∧ p.deadAt a then BitVec.allOnes 16 else sectorBits a bs.length
      let part := partSectors a bs
      let have_ := (((s1.col c).line? (a / 4096) false).map Line.valid).getD 0
      let miss := fetch && p.loc == 0 && !(p.cls == 4 && p.deadAt a) && !covers have_ part
      s1.modCol c (fun k =>
        let k1 := if miss then { k.countFill (a / 4096) false with misses := k.misses + 1 } else k
        k1.install { s1.localLine c a with valid := m, dirty := m })

/-- A core's write at its home. -/
def State.homeStore (s : State) (a : Nat) (bs : List (Byte × Bool)) : State := s.homeStoreAs false a bs

/-- Does a write to a page wait: is the 64 KiB block of its address being copied by a migration (R191)? -/
def State.writeHeld (s : State) (page a : Nat) : Bool :=
  s.keeper.migs.any (fun m => m.page == page && !m.switched && (a - page) / 65536 == m.copied)

/-- An access counted for its page, and for the bank of a resident or stash frame (R158); a cached line's bank counts its own. -/
def State.noteAccess (s : State) (p : Page) (a : Nat) : State :=
  let s1 := { s with keeper := { s.keeper with traffic := Tab.upd s.keeper.traffic 0 (pageKey p.base) (· + 1) } }
  if p.loc = 1 ∨ p.loc = 2 then
    let pl := p.place + (a - p.base) / 65536 * 2 ^ 11
    s1.modCol (pl / 2 ^ 23) (fun k => { k with accesses := Tab.upd k.accesses 0 (bitsOf pl 22 21 * 17 + bitsOf pl 20 16) (· + 1) })
  else s1

/-- The 64 B sectors that a range touches; those that masked bytes cover only in part (R182). -/
def sectors64 (a n : Nat) : List Nat := if n = 0 then [] else (List.range ((a + n - 1) / 64 - a / 64 + 1)).map (fun i => a / 64 + i)
def partSectors64 (a : Nat) (bs : List (Byte × Bool)) : List Nat :=
  (sectors64 a bs.length).filter (fun x =>
    let hit := (bs.drop (64 * x - a)).take (64 - (a - 64 * x))
    decide (hit.length < 64) || !hit.all Prod.snd)

/-- Has the line of a local address an open MSHR (R142)? -/
def State.lineBusy (s : State) (p : Page) (a : Nat) : Bool :=
  p.loc == 0 && (s.col (p.homeCol a)).mshrs.any (fun m => !m.remote && m.line == a / 4096)

/-- Whether a local access can be served at once, or what it waits for. -/
inductive Home where
  | ready
  | wait
  | miss (col : Nat)
deriving DecidableEq, Repr

/-- Where an access of n bytes at a of a page stands: resident, stash and unbacked data, dropped lines and valid sectors are served;
whole-sector writes need no fetch (R136, R138, R149, R178, R182, R188); any request to a line with an open MSHR joins it (R142).
`wr`: 0 read, 1 partial write, 2 whole-sector write; `fine` are the 64 B sectors of a direct page that it must read (R182). -/
def State.homeOf (s : State) (p : Page) (a n wr : Nat) (fine : List Nat) : Home :=
  if wr ≠ 0 ∧ s.writeHeld p.base a then .wait
  else if p.away then .wait
  else if p.loc ≠ 0 ∨ (p.cls == 4 && p.deadAt a) then .ready
  else if s.lineBusy p a then .miss (p.homeCol a)
  else if wr = 2 ∨ (wr ≠ 0 ∧ p.direct ∧ fine.isEmpty) then .ready
  else
    let c := p.homeCol a
    if p.direct then .miss c
    else
      match (s.col c).line? (a / 4096) false with
      | some l => if covers l.valid (sectorBits a n) then .ready else .miss c
      | none => .miss c

/-- A hit's bookkeeping: its sectors are valid (R136); counted and made most recently used. -/
def State.countHit (s : State) (p : Page) (a n : Nat) : State :=
  let c := p.homeCol a
  match (s.col c).line? (a / 4096) false with
  | some l => if covers l.valid (sectorBits a n) then s.modCol c (fun k => { k.touch l with hits := k.hits + 1 }) else s
  | none => s

/-- A read served by its column at once (R129, R136, R137): a stream's fills exactly its sectors, a peer's the fill depth too. -/
def State.colRead (s : State) (p : Page) (a n : Nat) (stream : Bool) : State :=
  if p.loc ≠ 0 ∨ p.direct ∨ (p.cls == 4 && p.deadAt a) then s
  else
    let c := p.homeCol a
    let m := sectorBits a n
    let have_ := (((s.col c).line? (a / 4096) false).map Line.valid).getD 0
    if covers have_ m then s.countHit p a n
    else
      let fill := if stream then m else fillBits a n (s.depthOf c)
      s.modCol c (fun k => (k.countFill (a / 4096) false).install { s.localLine c a with valid := fill }) |>.modCol c
        (fun k => { k with misses := k.misses + 1 })

/-- What the HBM reads of a range find (R170): the sectors of `bad` that lie in it, where the column does not hold them. -/
def State.hbmErrors (s : State) (p : Page) (a n : Nat) (bad : List BadBytes) : State :=
  if bad.isEmpty ∨ p.loc ≠ 0 then s
  else
    let have_ := if p.direct then 0 else (((s.col (p.homeCol a)).line? (a / 4096) false).map Line.valid).getD 0
    s.forAll (bad.filter (fun b => decide (a / 64 ≤ b.sector) && decide (b.sector * 64 < a + n) && !have_.toNat.testBit (b.sector % 64 / 4)))
      State.checkRead

/-- The HBM reads of sectors that a write covers in part: of a direct page by 64 B (R182), else by 256 B (R138). -/
def State.partErrors (s : State) (p : Page) (a : Nat) (l : List (Byte × Bool)) (bad : List BadBytes) : State :=
  if bad.isEmpty then s
  else
    let part (x : Nat) : Bool := if p.direct then (partSectors64 a l).elem x else (partSectors a l).toNat.testBit (x % 64 / 4)
    s.hbmErrors p (a / 256 * 256) ((a + l.length + 255) / 256 * 256 - a / 256 * 256) (bad.filter (fun b => part b.sector))

/-- A miss joins its line's MSHR, opens one, or waits to retry (R142, R143): the column and whether it now has a place. A request that
joins and whose sectors are valid already is no miss. -/
def Column.openMiss (k : Column) (line : Nat) (remote : Bool) (need fill : W16) (fine : List Nat) (install : Bool) (w : Nat × Nat) : Column × Bool :=
  let same : Mshr → Bool := fun m => m.line == line && m.remote == remote
  let valid := ((k.line? line remote).map Line.valid).getD 0
  match k.mshrs.find? same with
  | some m =>
    if 32 ≤ m.waiters.length then ({ k with retry := if k.retry.elem w then k.retry else k.retry ++ [w] }, false)
    else
      ({ k with
        mshrs := k.mshrs.map (fun x => if same x then { x with need := x.need ||| need, fine := (x.fine ++ fine).dedup, waiters := x.waiters ++ [w] } else x)
        misses := if covers valid need then k.misses else k.misses + 1
        merges := k.merges + 1 }, true)
  | none =>
    if k.freeMshr = 0 ∨ k.held then ({ k with retry := if k.retry.elem w then k.retry else k.retry ++ [w] }, false)
    else
      ({ k with
        mshrs := k.mshrs ++ [{ line := line, remote := remote, need := fill, fine := fine, waiters := [w], install := install }]
        freeMshr := k.freeMshr - 1
        misses := k.misses + 1 }, true)

/-- R135: a bank takes no new fill or frame; its cache lines are written back and dropped, and its frames are to migrate; the retained
copies in it go. -/
def State.startDrain (s : State) (c tier bank role : Nat) : State :=
  (s.modCol c (fun k => { k.evict (fun l => l.bank == tier * 17 + bank) with
    draining := Tab.set k.draining 0xFF (tier * 17 + bank) role
    hadFrames := Tab.set k.hadFrames false (tier * 17 + bank) (s.deckHeld.any (fun u => u.1 / 2 ^ 16 == deckPlace c tier bank 0 / 2 ^ 16)) })).dropRetained
    (fun r => r.place / 2 ^ 16 != deckPlace c tier bank 0 / 2 ^ 16)

/-- The deck pools after a bank's role changes: its 32 frames leave the old role's pool and enter the new one's (R192). -/
def State.moveFrames (s : State) (old new_ : Nat) : State :=
  let out (s : State) (i : Nat) := s.modPool i (fun p => { p with total := p.total - 32, free := p.free - 32 })
  let in_ (s : State) (i : Nat) := s.modPool i (fun p => { p with total := p.total + 32, free := p.free + 32 })
  let s1 := if old = 2 then out s 0 else if old = 3 then out s 1 else s
  if new_ = 2 then in_ s1 0 else if new_ = 3 then in_ s1 1 else s1

/-- The number of a bank map-out among the changes of R403. -/
def chgMapOut (c b : Nat) : Nat := 0x10000 + c * 128 + b

/-- Is the tier-column's spare free to take a bank's place (R157)? -/
def Column.spareFree (k : Column) (tier bank : Nat) : Bool :=
  bank != 16 && k.role tier 16 == 4 && Tab.get k.draining 0xFF (tier * 17 + 16) == 0xFF && Tab.get k.taking 0 tier == 0

/-- The start of a map-out (R157): SERVICE and a drain; a free spare is to take the bank's frames. -/
def State.startMapOut (s : State) (c tier bank : Nat) : State :=
  let spare := (s.col c).spareFree tier bank
  let s1 := (s.beginService (chgMapOut c (tier * 17 + bank))).startDrain c tier bank 5
  if spare then (s1.modCol c (fun k => { k with taking := Tab.set k.taking 0 tier (bank + 1) })).moveFrames 4 ((s.col c).role tier bank) else s1

/-- The deck bank that serves a local address: column, tier × 17 + bank; none where the deck holds nothing of it. -/
def State.deckBank (s : State) (p : Page) (a : Nat) : Option (Nat × Nat) :=
  if p.loc = 1 ∨ p.loc = 2 then
    let pl := p.place + (a - p.base) / 65536 * 2 ^ 11
    some (pl / 2 ^ 23, bitsOf pl 22 21 * 17 + bitsOf pl 20 16)
  else ((s.col (p.homeCol a)).line? (a / 4096) false).map (fun l => (p.homeCol a, l.bank))

/-- A corrected error of a bank counted (R141), staying at its largest value (R163); at 2410:0E the keeper starts to map the bank out
(R157). -/
def State.countCorrected (s : State) (c b : Nat) : State :=
  let s1 := s.modCol c (fun k => { k with corrected := Tab.upd k.corrected 0 b (fun n => min (n + 1) (2 ^ 32 - 1)) })
  let k := s1.col c
  if s1.obj (objKey 0x2410 0x0E) ≤ Tab.get k.corrected 0 b ∧ k.role (b / 17) (b % 17) ≠ 5 ∧ Tab.get k.draining 0xFF b = 0xFF ∧
      s1.dev.act.isNone then s1.startMapOut c (b / 17) (b % 17)
  else s1

/-- An error that the deck's check finds (R141): a corrected one is counted for its bank, whose count may start a map-out (R157); an
uncorrectable one poisons the sector and is told as R172 and R173 say. The CRC of classes A and X corrects nothing. -/
def State.deckError (s : State) (p : Page) (a : Nat) (err : Option Bool) : State :=
  match err, s.deckBank p a with
  | some false, some (c, b) => if symbolClass p.cls then s.countCorrected c b else s
  | some true, some _ =>
    if symbolClass p.cls then
      ((s.setPoison (a / 64) true).bump (objKey 0x2400 0x12) 1).event 0x2431 srcKeeper [(2, p.ctx), (8, a), (1, p.cls)]
    else
      ((s.forAll ((List.range 4).map (fun i => a / 256 * 4 + i)) (fun s i => s.setPoison i true)).when (p.cls == 2)
        (fun s => s.bump (objKey 0x2400 0x0C) 1)).event 0x2434 srcKeeper [(2, p.ctx), (8, a), (1, p.cls)]
  | _, _ => s

/-- The number of an MSHR rebuild among the changes. -/
def chgMshr (c : Nat) : Nat := 0x1000 + c

/-- With no MSHR open, the column's books are checked (R144). -/
def State.checkMshrs (s : State) (c : Nat) : State :=
  let k := s.col c
  if k.mshrs.isEmpty && k.freeMshr != 64 then
    ((s.event 0x2424 srcKeeper [(1, c), (4, k.freeMshr), (4, 0)]).modCol c (fun k => { k with held := true })).beginService (chgMshr c)
  else s

/-- An MSHR closes. -/
def State.closeMshr (s : State) (c line : Nat) (remote : Bool) : State :=
  (s.modCol c (fun k => { k with
    mshrs := k.mshrs.filter (fun m => !(m.line == line && m.remote == remote)), freeMshr := k.freeMshr + 1 })).checkMshrs c

/-- Class X lines dropped by a dead hint: their data goes, their bits are set (R149). -/
def State.dropDead (s : State) (a : Nat) : State :=
  match s.pageAt a with
  | none => s
  | some p =>
    let c := p.homeCol a
    ({ s with mem := dropRange s.mem a (a + 4096), poison := dropRange s.poison (a / 64) (a / 64 + 64) }.setPage (p.setDead a true)).modCol c
      (fun k => { k with lines := k.lines.filter (fun l => l.remote || l.line != a / 4096) })

/-- A dead hint on one whole line at its home (R148–R150). -/
def State.deadOne (s : State) (ctx a : Nat) : State :=
  match s.pageAt a with
  | none => s
  | some p =>
    let c := p.homeCol a
    if s.useLocal ctx a false ≠ 0 then s
    else if (s.col c).mshrs.any (fun m => !m.remote && m.line == a / 4096) then s.bump (objKey 0x2410 0x0B) 1
    else if p.cls = 4 then s.dropDead a
    else if p.loc = 1 ∨ p.loc = 2 then s
    else s.modCol c (fun k => k.evict (fun l => !l.remote && l.line == a / 4096))

/-- The whole 4 KiB lines within a range. -/
def wholeLines (a n : Nat) : List Nat :=
  let lo := (a + 4095) / 4096
  (List.range ((a + n) / 4096 - lo)).map (fun i => (lo + i) * 4096)

end Sys2Proof.Machine
end

