-- ==== Sys2Proof/Machine/Far.lean ====
section
/-! DEFINITION. Far requests at the requester and at their home: slots, walks, near cache, hits and misses, peers' requests, fills,
returns and hints (R100–R107, R125, R136–R150, R166–R168, R189, R246, R258, R303, R315, R316, R318). -/

namespace Sys2Proof.Machine

/-! ## Requests -/

def Core.req (k : Core) (id : Nat) : Option FarReq := k.far.find? (fun (r : FarReq) => r.id == id)

def State.modReq (s : State) (c id : Nat) (f : FarReq → FarReq) : State :=
  s.modCore c (fun k => { k with far := k.far.map (fun (r : FarReq) => if r.id = id then f r else r) })

/-- A request served: its data, or the fault code of its access; a free that waited for it may go on (R179). -/
def State.serve (s : State) (c id : Nat) (data : List Byte) (fault : Nat) : State :=
  (s.modReq c id (fun r => { r with stage := .served data fault })).sweepFrees

/-- Bytes that a request names (R101). -/
def FarReq.span (r : FarReq) : Nat :=
  match r.kind with
  | .vld => 256
  | .vst => 256
  | _ => 8

/-- Does a request write? -/
def FarReq.writes (r : FarReq) : Bool :=
  match r.kind with
  | .st => true
  | .vst => true
  | .amo _ _ _ => true
  | _ => false

/-- The bytes of a store with their mask: four bytes a lane (R101). -/
def FarReq.masked (r : FarReq) : List (Byte × Bool) :=
  match r.kind with
  | .vst => ((List.range 256).zip r.data).map (fun e => (e.2, r.mask.toNat.testBit (e.1 / 4)))
  | _ => r.data.map (fun b => (b, true))

/-- Do two requests of a thread name a common 8 B word (R103)? -/
def FarReq.meets (a b : FarReq) : Bool :=
  decide (a.addr.toNat < b.addr.toNat + b.span) && decide (b.addr.toNat < a.addr.toNat + a.span)

/-- Is an earlier request of the same thread to a common word still ahead: at a local home not yet served, at a peer not yet
complete (R103, R318)? -/
def Core.heldBy (k : Core) (r : FarReq) (peer : Bool) : Bool :=
  k.far.any (fun (q : FarReq) => decide (q.id < r.id) && q.thread == r.thread && q.meets r &&
    (peer || (match q.stage with | .served _ _ => false | _ => true)))

/-- Is a request where its home may take it? -/
def FarReq.open_ (r : FarReq) : Bool :=
  match r.stage with
  | .slotted => true
  | .missing _ _ => false
  | _ => false

/-! ## Translation -/

/-- Is the leaf of a local address cached in the core (R168)? -/
def State.cachedLeaf (s : State) (c a : Nat) : Option Page :=
  match s.pageAt a with
  | some p => if (s.core c).tlb.elem (pageKey p.base) then some p else none
  | none => none

/-- A leaf cached: at most 256, the oldest leaves first (R168). -/
def Core.cacheLeaf (k : Core) (key : Nat) : Core :=
  if k.tlb.elem key then k else { k with tlb := (key :: k.tlb).take 256 }

/-- The remote translation that covers a peer address (R168). -/
def State.remoteOf (s : State) (g : Nat) : Option RemoteTrans :=
  s.keeper.remote.find? (fun r => r.page ≤ g && g < r.page + (if r.big then 2097152 else 65536))

/-! ## Retained copies (R183) -/

/-- The 256 B sectors that a range touches, and those that it covers. -/
def sectorsOf (g n : Nat) : List Nat := if n = 0 then [] else (List.range ((g + n - 1) / 256 - g / 256 + 1)).map (fun i => g / 256 + i)
def sectorsIn (g n : Nat) : List Nat := (sectorsOf g n).filter (fun k => decide (g ≤ 256 * k) && decide (256 * k + 256 ≤ g + n))

/-- Does a forward pass read a peer page as class W? The answer of a home does not say: a free value. -/
def wantsCopy (page epoch : Nat) : Bool := Config.freeFn 0x183 [page, epoch] % 2 == 1

/-- The retained copy of a page under an epoch. -/
def State.copyOf (s : State) (t : RemoteTrans) : Option Retained :=
  s.keeper.retained.find? (fun r => r.page == t.page && r.epoch == t.epoch)

/-- A copy with more bytes. -/
def Retained.add (r : Retained) (g : Nat) (data : List Byte) : Retained :=
  { r with got := (r.got ++ sectorsIn g data.length).dedup, data := Tab.writeBytes r.data (g - r.page) data }

/-- Bytes of a sealed peer page put into its retained copy, which begins while there is room (R183). -/
def State.retain (s : State) (t : RemoteTrans) (g : Nat) (data : List Byte) : State :=
  let put (s : State) (r : Retained) : State :=
    { s with keeper := { s.keeper with retained := s.keeper.retained.filter (fun x => x.page != r.page) ++ [r] } }
  match s.copyOf t with
  | some r => put s (r.add g data)
  | none =>
    let n := if t.big then 32 else 1
    let room := decide (s.obj (objKey 0x2400 9) * s.obj (objKey 0x2410 1) * 16 ≤ s.keeper.resident.free * 100)
    if !t.sealed || !room || decide (s.keeper.resident.free < n) || !wantsCopy t.page t.epoch then s
    else
      match s.pickFrame 1 n 0xFF none with
      | none => s
      | some f =>
        let r : Retained := { page := t.page, big := t.big, epoch := t.epoch, place := f }
        put (s.modPool 0 (fun p => p.take n)) (r.add g data)

/-- The bytes of a range that a retained copy serves. -/
def State.copyRead (s : State) (t : RemoteTrans) (g n : Nat) : Option (List Byte) :=
  match s.copyOf t with
  | some r => if (sectorsOf g n).all (fun k => r.got.elem k) then some (Tab.readBytes r.data (g - r.page) n) else none
  | none => none

/-- The first request of a stream engine that waits for a slot, by its address: that of a descriptor whose far data has yet to move. -/
def StreamDesc.wants (d : StreamDesc) : Option W64 := if d.op = 3 ∨ d.moved then none else some d.far

/-- The oldest waiting request of the threads for which a slot is free (R103). -/
def State.threadWants (s : State) (c : Nat) : Option FarReq :=
  (s.core c).far.find? (fun (r : FarReq) => r.stage == .waiting && s.slotFree c r.addr)

/-- Does stream engine e wait for a slot that is free for it? -/
def State.engineWants (s : State) (c e : Nat) : Bool :=
  let q := Tab.get (s.core c).se {} e
  !q.granted && (q.queue.head?.bind StreamDesc.wants).any (fun a => s.slotFree c a)

/-- R102, R103: a free slot goes round-robin among the requesters, the threads' loads and stores (0) and the eight stream engines
(1 + e), to the next after the one served last; within the threads to the oldest request whose bank is under its cap. -/
def execFarSlotGrant (c : CoreId) (s : State) : Out :=
  commit s (fun s =>
    let turn := (List.range 9).map (fun i => ((s.core c).lastReq + 1 + i) % 9)
    match turn.find? (fun q => if q = 0 then (s.threadWants c).isSome else s.engineWants c (q - 1)) with
    | none => s
    | some q =>
      let s1 := s.modCore c (fun k => { k with lastReq := q })
      if q = 0 then
        (match s.threadWants c with
          | some r => s1.modReq c r.id (fun r => { r with stage := .slotted })
          | none => s)
      else s1.modCore c (fun k => { k with se := Tab.upd k.se {} (q - 1) (fun e => { e with granted := true }) }))

/-- What the deck's check of a table line finds (R168, under class S): where it cannot be corrected, the walk's reader faults with 0x07, and
the error is counted and told as R173 says (DEDUCED, assumption 123). -/
def State.tableError (s : State) (ctx a : Nat) : State :=
  (s.bump (objKey 0x2400 0x12) 1).event 0x2431 srcKeeper [(2, ctx), (8, a), (1, 1)]

/-- R166–R168: a walk ends: a request that R167 does not allow is served with its fault, else the leaf is cached; `bad`: the walker's read of
a table line finds an error that its code cannot correct. -/
def execTranslationWalkComplete (c : CoreId) (x : WalkIn) (s : State) : Out :=
  commit s (fun s =>
    match (s.core c).req x.id with
    | none => s
    | some r =>
      if (r.stage = .walking ∨ r.stage = .slotted) ∧ s.isLocal r.addr then
        let a := localOf r.addr
        let code := s.useLocal r.ctx a r.writes
        if x.bad then (s.tableError r.ctx a).serve c x.id [] 0x07
        else
        match s.pageAt a with
        | some p =>
          if code ≠ 0 then s.serve c x.id [] code
          else (s.modCore c (fun k => k.cacheLeaf (pageKey p.base))).modReq c x.id (fun r => { r with stage := .slotted })
        | none => s.serve c x.id [] 0x05
      else s)

/-! ## Near cache (R104, R105) -/

/-- The near-cache line of a global address, if present with the page's epoch. -/
def Core.near (k : Core) (g epoch : Nat) : Option NcLine := k.nc.find? (fun l => l.line == g / 1024 && l.epoch == epoch)

/-- A line put in: 32 sets of 8 ways, least recently used out. -/
def nearPut (nc : List NcLine) (l : NcLine) : List NcLine :=
  let rest := nc.filter (fun x => x.line != l.line)
  let same := rest.filter (fun x => x.line % 32 == l.line % 32)
  let out := if same.length < 8 then none else same.getLast?
  l :: (match out with
    | some v => rest.filter (fun x => x.line != v.line)
    | none => rest)

/-- The seal epoch under which a context may read an address as sealed: from the local leaf, or the remote translation. -/
def State.sealedEpoch (s : State) (ctx : Nat) (g : W64) : Option Nat :=
  if s.isLocal g then
    match s.pageAt (localOf g) with
    | some p => if p.sealed ∧ s.useLocal ctx (localOf g) false = 0 then some p.sepoch else none
    | none => none
  else
    match s.remoteOf g.toNat with
    | some r => if r.sealed ∧ s.leagueOf ctx ≠ 0 ∧ r.league = s.leagueOf ctx then some r.epoch else none
    | none => none

/-- A request whose near-cache miss is counted: a later try of it counts none. -/
def State.looked (s : State) (c : Nat) (r : FarReq) : State :=
  if r.looked then s else (s.bump (oCore c 0x1A) 1).modReq c r.id (fun r => { r with looked := true })

/-- A near-cache lookup of a load: the data on a hit, counted either way, a miss once; a read of a page that is not sealed bypasses it. A
hit with a parity error drops the line, with event 0x2514, and fetches it again (R106). -/
def State.nearLook (s : State) (c : Nat) (r : FarReq) (parity : Bool) : State × Option (List Byte) :=
  if r.kind = .ld ∨ r.kind = .vld then
    match s.sealedEpoch r.ctx r.addr with
    | none => (s, none)
    | some e =>
      match (s.core c).near r.addr.toNat e with
      | some l =>
        if parity then
          (((s.modCore c (fun k => { k with nc := k.nc.filter (fun x => x.line != l.line) })).event 0x2514 (srcCore c)
            [(1, c), (8, l.line * 1024)]).looked c r, none)
        else
        ((s.modCore c (fun k => { k with nc := nearPut k.nc l })).bump (oCore c 0x19) 1,
          some ((l.data.drop (r.addr.toNat % 1024)).take r.span))
      | none => (s.looked c r, none)
  else (s, none)

/-- The near-cache fill of one 1 KiB line of a sealed page, where this device holds the bytes (R104). -/
def State.nearFillLine (s : State) (c ctx : Nat) (ga : W64) : State :=
  match s.sealedEpoch ctx ga with
  | none => s
  | some e =>
    let g := ga.toNat / 1024
    if s.isLocal ga then
      let a := localOf ga / 1024 * 1024
      if poisonedIn s.poison a 1024 then s
      else s.modCore c (fun k => { k with nc := nearPut k.nc { line := g, epoch := e, data := s.readMem a 1024 } })
    else
      let k := s.col (ga.toNat % 2 ^ 62 / 4096 % 96)
      match k.line? (ga.toNat % 2 ^ 62 / 4096) true with
      | some l =>
        if l.epoch = e ∧ covers l.valid (sectorBits (g * 1024) 1024) then
          let x : NcLine := { line := g, epoch := e, data := Tab.readBytes l.data (g * 1024 % 4096) 1024 }
          s.modCore c (fun k => { k with nc := nearPut k.nc x })
        else s
      | none => s

/-- The near-cache fill of a completed load (R104). -/
def State.nearFill (s : State) (c : Nat) (r : FarReq) : State := s.nearFillLine c r.ctx r.addr

/-! ## Packets to a peer -/

/-- Who waits for a peer's answer: a thread's request, a stream engine, a column's fill, or a keeper command. -/
def idStream (e : Nat) : Nat := 2 ^ 32 + e
def idFill (c : Nat) : Nat := 2 ^ 33 + c
def idKeep : Nat := 2 ^ 34

/-- Who waits for the acknowledgement of a shipped snapshot's data (R235). -/
def idShip : Nat := 2 ^ 35 + 1

/-- A request packet sent to the home of an address, with a fresh tag. -/
def State.askPeer (s : State) (core id ctx : Nat) (addr : W64) (keep : Option (Nat × Nat)) (p : Pkt) : State :=
  let lg := s.leagueOf ctx
  let tag := s.fabric.nextTag % 65536
  let d := devOf addr
  let p1 := { p with dst := d, tag := tag, league := lg, addr := addr, ctx := ctx, fstep := s.fstepOf lg, vc := 0 }
  let o : Outstanding := { tag := tag, core := core, id := id, ctx := ctx, addr := addr, keep := keep, fstep := s.fstepOf lg }
  { s with fabric := { s.fabric with outs := s.fabric.outs ++ [o], nextTag := tag + 1 } }.sendPkt p1

/-- A masked store's payload (Table 10.5): whole data, or the mask flit and the 256 B. -/
def maskBytes (l : List (Byte × Bool)) : List Byte := leBytes 32 (packNat 1 (l.map (fun e => if e.2 then 1 else 0)))

/-- The 256 B sector that bytes at an offset in it make, with its mask (R101). -/
def sectorOf (off : Nat) (l : List (Byte × Bool)) : List (Byte × Bool) :=
  List.replicate off ((0 : Byte), false) ++ l ++ List.replicate (256 - off - l.length) ((0 : Byte), false)

def storePkt (l : List (Byte × Bool)) : Pkt :=
  if l.all Prod.snd then { type := 0x11, attr := 0, payload := l.map Prod.fst }
  else { type := 0x11, attr := 0x8000, payload := maskBytes l ++ l.map Prod.fst }

/-- The request of a thread sent to its peer. -/
def State.sendReq (s : State) (c : Nat) (r : FarReq) : State :=
  let p : Pkt := match r.kind with
    | .st => storePkt (sectorOf (r.addr.toNat % 256) r.masked)
    | .vst => storePkt r.masked
    | .amo op b e => { type := 0x12, attr := BitVec.ofNat 16 op, payload := leBytes 8 b.toNat ++ leBytes 8 e.toNat }
    | _ => { type := 0x10, attr := BitVec.ofNat 16 r.span }
  let tag := s.fabric.nextTag % 65536
  let at_ := if p.type = 0x11 then BitVec.ofNat 64 (r.addr.toNat / 256 * 256) else r.addr
  (s.askPeer c r.id r.ctx at_ none p).modReq c r.id (fun r => { r with stage := .peer tag })

/-! ## Pass-engine windows (R246) -/

def windowBase : Nat := 0xFFFF00000000

/-- The pass engine whose window an address lies in. -/
def State.windowOf (_s : State) (a : Nat) : Option Nat :=
  if windowBase ≤ a ∧ a < windowBase + 8 * 65536 then some ((a - windowBase) / 65536) else none

def State.engine (s : State) (e : Nat) : Engine := Tab.get s.pass.engines {} e
def State.setEngine (s : State) (e : Nat) (x : Engine) : State :=
  { s with pass := { s.pass with engines := Tab.set s.pass.engines {} e x } }

/-- The engine that serves engine e's window and layers: e, or the next while e is out of service (2700:01; R401, R402). -/
def State.serving (s : State) (e : Nat) : Nat := if (s.obj (objKey 0x2700 1)).testBit e then e else (e + 1) % 8

/-- A request of 64 B (Table 08.3). -/
def parseReq (c ctx : Nat) (b : List Byte) : PassReq :=
  { ctx := ctx, core := c, op := fieldAt b 0 1, fmt := fieldAt b 1 1, rows := fieldAt b 2 1, step := fieldAt b 4 4
    layer := fieldAt b 8 4, first := fieldAt b 12 4, count := fieldAt b 16 4, k := fieldAt b 20 2, root := fieldAt b 22 2
    src := BitVec.ofNat 64 (fieldAt b 24 8), done := BitVec.ofNat 64 (fieldAt b 32 8), out := BitVec.ofNat 64 (fieldAt b 40 8)
    bad := fieldAt b 3 1 != 0 || fieldAt b 48 8 != 0 || fieldAt b 56 8 != 0 }

/-- The 64 aligned bytes that a store writes whole and alone, with their offset in the store. -/
def whole64 (l : List (Byte × Bool)) : Option (Nat × List Byte) :=
  (List.range (l.length / 64)).findSome? (fun i =>
    let seg := (l.drop (64 * i)).take 64
    if seg.all Prod.snd && (l.take (64 * i)).all (fun e => !e.2) && (l.drop (64 * i + 64)).all (fun e => !e.2) then
      some (64 * i, seg.map Prod.fst)
    else none)

/-- A write into a window (R246): a request queued, or it waits under its slot while the engine's queue is full. `id` is the far
request; the writer is told by `ack`. -/
def State.windowWrite (s : State) (c ctx a id : Nat) (l : List (Byte × Bool)) : State :=
  match s.windowOf a, whole64 l with
  | some e0, some (_, b) =>
    let e := s.serving e0
    if s.leagueOf ctx = 0 then s.serve c id [] 0x05
    else
      let x := s.engine e
      if x.waiting.isEmpty ∧ x.reqs.length < 256 then (s.setEngine e { x with reqs := x.reqs ++ [parseReq c ctx b] }).serve c id [] 0
      else if x.waiting.elem (c, id) then s
      else s.setEngine e { x with waiting := x.waiting ++ [(c, id)] }
  | _, _ => s.serve c id [] 0x05

/-! ## At the home -/

/-- A request performed on memory at its home (R136, R138, R140, R149). -/
def State.perform (s : State) (c id : Nat) : State :=
  match (s.core c).req id with
  | none => s
  | some r =>
    let a := localOf r.addr
    match r.kind with
    | .st => (s.homeStore a r.masked).serve c id [] 0
    | .vst => (s.homeStore a r.masked).serve c id [] 0
    | .amo op b e =>
      let x := s.readAt a 8
      if x.2 ≠ 0 then s.serve c id [] x.2
      else
        let old := BitVec.ofNat 64 (leNat x.1)
        (s.homeStore a ((leBytes 8 (amoResult op old b e).toNat).map (fun b => (b, true)))).serve c id (leBytes 8 old.toNat) 0
    | _ =>
      let s1 := if s.deadLine a then s.deadRead r.ctx c a else s
      let s2 := match s1.pageAt a with
        | some p => s1.touchPage p
        | none => s1
      let x := s2.readAt a r.span
      s2.serve c id x.1 x.2

/-- A request reaches its local home: served, or it waits, or misses (R136–R143). -/
def State.atHome (s : State) (c id : Nat) (r : FarReq) (p : Page) (deck : Option Bool) : State :=
  let a := localOf r.addr
  let wr := match r.kind with
    | .st => 1
    | .vst => if r.mask = BitVec.allOnes 64 then 2 else 1
    | .amo _ _ _ => 1
    | _ => 0
  let rmw := match r.kind with
    | .amo _ _ _ => true
    | _ => false
  let fine := if !p.direct then [] else if wr == 0 || rmw then sectors64 a r.span else partSectors64 a r.masked
  match s.homeOf p a r.span (if rmw && p.direct then 0 else wr) fine with
  | .ready => (((if p.loc = 0 ∧ !p.direct then s.countHit p a r.span else s).noteAccess p a).deckError p a deck).perform c id
  | .wait => if p.away then s.demandReturn p else s
  | .miss col =>
    let need := if wr = 2 ∧ !rmw then 0 else sectorBits a r.span
    let fill := if p.direct then need else fillBits a r.span (s.depthOf col)
    let x := (s.col col).openMiss (a / 4096) false need fill fine (!p.direct) (c, id)
    let s1 := s.setCol col x.1
    if x.2 then (s1.noteAccess p a).modReq c id (fun r => { r with stage := .missing col (a / 4096) }) else s1

/-- An error that the deck's check finds in a line cached from a peer (R141): a corrected one is counted for its bank, whose count may
start a map-out (R157); a line that cannot be corrected is dropped and fetched again (DEDUCED, assumption 118: its home holds the data). -/
def State.remoteError (s : State) (col line : Nat) (err : Option Bool) : State :=
  match err, (s.col col).line? line true with
  | some false, some l => s.countCorrected col l.bank
  | some true, some _ => s.modCol col (fun k => k.evict (fun x => x.remote && x.line == line))
  | _, _ => s

/-- A read of a sealed peer region through the cache-remote banks (R132, R145, R146): a hit, or a miss with its fetch; a request to a
line with an open MSHR joins it (R142). -/
def State.atRemote (s0 : State) (c id : Nat) (r : FarReq) (t : RemoteTrans) (deck : Option Bool) : State :=
  let g := r.addr.toNat % 2 ^ 62
  let line := g / 4096
  let col := line % 96
  let s := s0.remoteError col line deck
  let bank := Tab.get (s.col col).steerR 0 (fold6 line)
  if bank = 0 then s.sendReq c r
  else
    let need := sectorBits g r.span
    let fetch (s : State) (from_ n : Nat) : State :=
      s.askPeer c (idFill col) r.ctx (BitVec.ofNat 64 (line * 4096 + from_)) none { type := 0x10, attr := BitVec.ofNat 16 n }
    let miss (s : State) : State :=
      let fill := fillBits g r.span (s.depthOf col)
      let old := ((s.col col).mshrs.find? (fun m => m.line == line && m.remote)).map Mshr.need
      let x := (s.col col).openMiss line true need fill [] true (c, id)
      let s1 := s.setCol col x.1
      if !x.2 then s1
      else
        let s2 := s1.modReq c id (fun r => { r with stage := .missing col line })
        let from_ := g % 4096 / 256 * 256
        match old with
        | none => fetch s2 from_ (min (r.span + 255 + 256 * s.depthOf col) (4096 - from_) / 256 * 256)
        | some o => if covers o need then s2 else fetch s2 from_ ((r.span + 255) / 256 * 256)
    match (s.col col).line? line true with
    | some l =>
      if l.epoch = t.epoch then
        if covers l.valid need ∧ !(s.col col).mshrs.any (fun m => m.remote && m.line == line) then
          (s.modCol col (fun k => { k.touch l with hits := k.hits + 1 })).serve c id (Tab.readBytes l.data (g % 4096) r.span) 0
        else miss s
      else miss (s.modCol col (fun k => { k with lines := k.lines.filter (fun x => !(x.remote && x.line == line)) }))
    | none => miss s

/-- A request at its home, or on its way to a peer's: `parity` and `deck` the errors that its near-cache and deck reads find. -/
def State.homeArrive (s : State) (c id : Nat) (r : FarReq) (parity : Bool) (deck : Option Bool) : State :=
  let a := localOf r.addr
  if s.isLocal r.addr then
    if (s.core c).heldBy r false then s
    else if (s.windowOf a).isSome then
      (match r.kind with
        | .vst => s.windowWrite c r.ctx a id r.masked
        | _ => s.serve c id [] 0x05)
    else
      match s.cachedLeaf c a with
      | none => s.modReq c id (fun r => { r with stage := .walking })
      | some p =>
        let code := s.useLocal r.ctx a r.writes
        if code ≠ 0 then s.serve c id [] code
        else
          let n := s.nearLook c r parity
          match n.2 with
          | some d => n.1.serve c id d 0
          | none => n.1.atHome c id r p deck
  else if s.leagueOf r.ctx = 0 then s.serve c id [] 0x05
  else if (s.core c).heldBy r true then s
  else
    let n := s.nearLook c r parity
    match n.2 with
    | some d => n.1.serve c id d 0
    | none =>
      match s.remoteOf r.addr.toNat with
      | some t =>
        if t.sealed ∧ t.league = s.leagueOf r.ctx ∧ (r.kind = .ld ∨ r.kind = .vld) then
          (match n.1.copyRead t (r.addr.toNat % 2 ^ 62) r.span with
            | some d => n.1.serve c id d 0
            | none => n.1.atRemote c id r t deck)
        else n.1.sendReq c r
      | none => n.1.sendReq c r

/-- A request of a kind arrives. -/
def homeCommand (c : CoreId) (id : Nat) (parity : Bool) (deck : Option Bool) (k : FarReq → Bool) (s : State) : State :=
  match (s.core c).req id with
  | none => s
  | some r => if r.open_ && k r then s.homeArrive c id r parity deck else s

/-- R136, R145, R246, R303: a read at its home. -/
def execHomeRead (c : CoreId) (id : Nat) (parity : Bool) (deck : Option Bool) (s : State) : Out :=
  commit s (homeCommand c id parity deck (fun r => !r.writes))

/-- R138, R246, R303: a write at its home. -/
def execHomeWrite (c : CoreId) (x : HomeIn) (s : State) : Out :=
  commit s (homeCommand c x.id false x.deck (fun r => r.kind == .st || r.kind == .vst))

/-- R140, R303: an atomic at its home. -/
def execHomeAtomic (c : CoreId) (id : Nat) (deck : Option Bool) (s : State) : Out :=
  commit s (homeCommand c id false deck (fun r => r.writes && r.kind != .st && r.kind != .vst))

/-! ## Fills -/

/-- The 64 B sectors that a fill reads: those that its needed sectors span; of a direct page those that its requests cover (R182). -/
def inNeed (m : Mshr) (sector : Nat) : Bool :=
  if m.fine.isEmpty then sector / 64 == m.line && m.need.toNat.testBit (sector % 64 / 4) else m.fine.elem sector

/-- R143: waiting misses try again, oldest first. -/
def execMissRetry (col : ColId) (s : State) : Out :=
  commit s (fun s =>
    let l := (s.col col).retry
    (s.modCol col (fun k => { k with retry := [] })).forAll l (fun s w =>
      match (s.core w.1).req w.2 with
      | some r => if r.open_ then s.homeArrive w.1 w.2 r false none else s
      | none => s))

/-! ## Returns -/

/-- Is the reader's fault marked recoverable: poison of a class A page of this device (R172, R188)? -/
def State.recoverable (s : State) (r : FarReq) (code : Nat) : Bool :=
  code == 0x07 && s.isLocal r.addr &&
    (match s.pageAt (localOf r.addr) with | some p => p.cls == 2 | none => false)

/-- A request leaves its slot. -/
def State.dropReq (s : State) (c id : Nat) : State :=
  s.modCore c (fun k => { k with far := k.far.filter (fun (r : FarReq) => r.id != id) })

/-- A completed request's fault taken by its thread (R125, R303). -/
def State.farFault (s : State) (c : Nat) (r : FarReq) (code : Nat) : State :=
  if r.discard then s else (s.threadFault c r.thread code r.pc r.addr (s.recoverable r code)).resched c

/-- R102, R104, R125, R476: a read's data returns; a far wtw compares it. -/
def execFarLoadReturn (c : CoreId) (id : Nat) (s : State) : Out :=
  commit s (fun s =>
    match (s.core c).req id with
    | none => s
    | some r =>
      match r.stage with
      | .served data fault =>
        if r.writes then s
        else if fault ≠ 0 then (s.dropReq c id).farFault c r fault
        else if r.discard then s.dropReq c id
        else
          let s1 := s.dropReq c id
          match r.kind with
          | .ld => (s1.putS c r.thread r.dest (BitVec.ofNat 64 (leNat data))).nearFill c r
          | .vld => (s1.putV c r.thread r.dest r.mask (ofVBytes data)).nearFill c r
          | _ => s1.modThread c r.thread (fun x =>
              match x.why with
              | .wtw f a v cd _ => { x with why := .wtw f a v cd (wtwMet cd (BitVec.ofNat 64 (leNat data)) v) }
              | _ => x)
      | _ => s)

/-- R102, R125, R140: the home acknowledges a write or an atomic, whose register takes the old value. -/
def execFarStoreAck (c : CoreId) (id : Nat) (s : State) : Out :=
  commit s (fun s =>
    match (s.core c).req id with
    | none => s
    | some r =>
      match r.stage with
      | .served data fault =>
        if !r.writes then s
        else if fault ≠ 0 then (s.dropReq c id).farFault c r fault
        else
          match r.kind with
          | .amo _ _ _ =>
            if r.discard then s.dropReq c id else (s.dropReq c id).putS c r.thread r.dest (BitVec.ofNat 64 (leNat data))
          | _ => s.dropReq c id
      | _ => s)

/-! ## Hints -/

/-- A hint on its way taken. -/
def State.takeHint (s : State) (c : Nat) (h : Bool × Nat × W64 × Nat) : State :=
  s.modCore c (fun k => { k with hints := k.hints.erase h })

/-- A dead hint on one whole line cached from a peer: dropped and counted where the line has an open MSHR, else the line goes
(R148, R150). -/
def State.deadRemote (s : State) (g : Nat) : State :=
  if (s.col (g % 96)).mshrs.any (fun m => m.remote && m.line == g) then s.bump (objKey 0x2410 0x0B) 1
  else s.modCol (g % 96) (fun k => k.evict (fun l => l.remote && l.line == g))

/-- R148–R150: a dead hint acts on the whole lines of its range. -/
def execDeadHint (c : CoreId) (ctx : Nat) (addr : W64) (size : Nat) (s : State) : Out :=
  commit s (fun s =>
    if !(s.core c).hints.elem (true, ctx, addr, size) then s
    else
      let s1 := s.takeHint c (true, ctx, addr, size)
      if s1.isLocal addr then s1.forAll (wholeLines (localOf addr) size) (fun s a => s.deadOne ctx a)
      else
        let gs := (wholeLines addr.toNat size).map (fun a => a / 4096)
        s1.forAll gs State.deadRemote)

/-- One line prefetched: a miss with no waiter (R189); a column at depth 0 drops the hint (R154). -/
def State.prefetchLine (s : State) (a : Nat) : State :=
  match s.pageAt a with
  | none => s
  | some p =>
    let c := p.homeCol a
    if p.loc ≠ 0 ∨ p.direct ∨ s.depthOf c = 0 ∨ ((s.col c).line? (a / 4096) false).isSome ∨
        (s.col c).mshrs.any (fun m => !m.remote && m.line == a / 4096) ∨ (s.col c).freeMshr = 0 ∨ (s.col c).held then s
    else s.modCol c (fun k => { k with
      mshrs := k.mshrs ++ [{ line := a / 4096, need := fillBits a 1 (s.depthOf c) }], freeMshr := k.freeMshr - 1 })

/-- R103, R188, R189: a prefetch hint fetches the lines of its range, and returns its off-loaded pages. -/
def execPfHint (c : CoreId) (ctx : Nat) (addr : W64) (size : Nat) (s : State) : Out :=
  commit s (fun s =>
    if !(s.core c).hints.elem (false, ctx, addr, size) then s
    else
      let s1 := s.takeHint c (false, ctx, addr, size)
      if !s1.isLocal addr then s1
      else
        let lo := localOf addr
        let pages := s1.allPages.filter (fun p => p.base < lo + size && lo < p.base + p.bytes && s1.useLocal ctx p.base false == 0)
        s1.forAll pages (fun s p =>
          let s2 := if p.away then s.startReturn p else s
          let s3 := if p.cls = 2 ∨ p.cls = 3 then s2.prefetchBelow p.ctx p.okey s2.keeper.pages.length else s2
          let a := max lo p.base / 4096
          let b := (min (lo + size) (p.base + p.bytes) + 4095) / 4096
          s3.forAll ((List.range (b - a)).map (fun i => (a + i) * 4096)) (fun s x => s.prefetchLine x)))

/-- R147: the sweep drops remote lines whose epoch is not their region's. -/
def execStaleLineSweep (s : State) : Out :=
  commit s (fun s =>
    { s with cols := s.cols.map (fun e => (e.1, { e.2 with lines := e.2.lines.filter (fun l =>
        !l.remote || (match s.remoteOf (l.line * 4096) with | some t => t.epoch == l.epoch | none => false)) })) })

end Sys2Proof.Machine
end

