-- ==== Sys2Proof/Machine/Cmd.lean ====
section
/-! DEFINITION. Descriptors: their layout and every check of Table 07.8 and Table 06.6 (R177, R216–R221, R228, R229, R234, R238,
R319, R321). -/

namespace Sys2Proof.Machine

/-! ## Status codes -/

def sVersion : Nat := 0x0101
def sOpcode : Nat := 0x0102
def sRes : Nat := 0x0103
def sCtxRange : Nat := 0x0104
def sField : Nat := 0x0105
def sCount : Nat := 0x0106
def sAlign : Nat := 0x0107
def sCtxState : Nat := 0x0201
def sPerm : Nat := 0x0202
def sTarget : Nat := 0x0203
def sSlice : Nat := 0x0204
def sSnap : Nat := 0x0205
def sTable : Nat := 0x0206
def sCtxLimit : Nat := 0x0207
def kField : Nat := 0x0301
def kSize : Nat := 0x0302
def kAddr : Nat := 0x0303
def kPeer : Nat := 0x0304
def kSpace : Nat := 0x0305
def kMeta : Nat := 0x0306

/-- A field of a descriptor's body. -/
def Desc.f (d : Desc) (off n : Nat) : Nat := fieldAt d.body off n

/-- The format 2 opcode that a format 1 opcode maps to (R238). -/
def n40Op (op : Nat) : Option Nat :=
  match op with
  | 0 => some 0x00
  | 1 => some 0x10
  | 2 => some 0x30
  | 3 => some 0x31
  | 4 => some 0x11
  | _ => none

/-- Listed format 2 opcodes (Table 07.4). -/
def isOp (op : Nat) : Bool :=
  [0x00, 0x01, 0x02, 0x03, 0x10, 0x11, 0x12, 0x20, 0x28, 0x30, 0x31, 0x32, 0x33, 0x34, 0x35].elem op

/-- The bytes of a body that an opcode names. -/
def bodyUses (d : Desc) : List (Nat × Nat) :=
  match d.op with
  | 0x01 => [(0, 5), (6, 2)]
  | 0x03 => [(0, 5)]
  | 0x10 => [(0, 23)]
  | 0x11 => [(0, 2)]
  | 0x12 => [(0, 28)]
  | 0x28 => [(0, 19)]
  | 0x30 => [(0, 27), (28, 4)]
  | 0x31 => [(0, 16)]
  | 0x32 => [(0, 16), (22, 1)]
  | 0x33 => if d.f 20 1 = 2 then [(0, 16), (20, 1), (28, 4)] else [(0, 16), (20, 1)]
  | 0x34 => [(0, 16)]
  | 0x35 => [(0, 16)]
  | _ => []

/-- A res field of the body is not 0 (R216). -/
def bodyRes (d : Desc) : Bool :=
  (List.range 48).any (fun i => d.f i 1 != 0 && !(bodyUses d).any (fun u => decide (u.1 ≤ i ∧ i < u.1 + u.2))) ||
  (match d.op with
    | 0x10 => decide (8 ≤ d.f 21 1)
    | 0x12 => decide (2 ≤ d.f 3 1)
    | 0x30 => decide (2 ≤ d.f 26 1)
    | _ => false)

/-- SEQ_START fields (Table 07.6). -/
def Desc.eval (d : Desc) : Bool := (d.f 21 1).testBit 2
def Desc.shared (d : Desc) : Bool := (d.f 21 1).testBit 1
def Desc.restart (d : Desc) : Bool := (d.f 21 1).testBit 0

/-- S_FIELD, S_COUNT and S_ALIGN of an opcode. -/
def Desc.fieldBad (d : Desc) : Bool :=
  match d.op with
  | 0x01 => decide (3 < d.f 4 1)
  | 0x03 => decide (4 < d.f 4 1) && d.f 4 1 != 0xFF
  | 0x10 => decide (1 < d.f 20 1) || (!d.eval && d.f 22 1 != 0) || (d.eval && decide (15 < d.f 22 1) && d.f 22 1 != 0xFF) ||
      (d.restart && d.f 20 1 == 1)
  | 0x28 => decide (15 < d.f 18 1)
  | _ => false

def Desc.countBad (d : Desc) : Bool :=
  match d.op with
  | 0x01 => decide (1536 < d.f 6 2)
  | 0x10 =>
    let cores := d.f 16 1
    let tpc := d.f 17 1
    let win := d.f 18 1
    let eng := d.f 19 1
    decide (96 < cores) || decide (16 < tpc) || win == 0 || decide (64 < win) || decide (8 < eng) ||
      (!d.shared && decide (64 < tpc * win)) || decide (8 < tpc * eng)
  | 0x12 => decide (32 < d.f 2 1)
  | _ => false

def Desc.alignBad (d : Desc) : Bool :=
  match d.op with
  | 0x10 => d.f 0 8 % 8 != 0
  | 0x28 => d.f 0 8 % 65536 != 0 || d.f 8 8 % 65536 != 0
  | _ => false

/-- A descriptor as fetched: the record fields, and the first failing check of codes 0x0101 to 0x0107 (R216, R217, R238). -/
def parseDesc (n ver : Nat) (b : List Byte) : Desc × Nat :=
  if ver = 1 then
    let d : Desc := { n := n, fmt := 1, op := fieldAt b 0 1, ctx := fieldAt b 2 2, tag := fieldAt b 4 4, body := (b.drop 8).take 48 }
    match n40Op d.op with
    | none => (d, sOpcode)
    | some op =>
      let e := { d with op := op }
      let seq := op == 0x10 && (e.f 20 1 != 0 || e.eval)
      (e, if fieldAt b 1 1 ≠ 0 ∨ fieldAt b 56 8 ≠ 0 ∨ bodyRes e then sRes
        else if 4095 < e.ctx then sCtxRange
        else if e.fieldBad ∨ seq then sField
        else if e.countBad then sCount
        else if e.alignBad then sAlign
        else 0)
  else
    let d : Desc := {
      n := n, op := fieldAt b 1 1, ctx := fieldAt b 2 2, tag := fieldAt b 4 4, step := fieldAt b 8 4
      fence := (fieldAt b 12 2).testBit 0, body := (b.drop 16).take 48 }
    (d, if fieldAt b 0 1 ≠ 2 then sVersion
      else if !isOp d.op then sOpcode
      else if 2 ≤ fieldAt b 12 2 ∨ fieldAt b 14 2 ≠ 0 ∨ bodyRes d then sRes
      else if 16383 < d.ctx then sCtxRange
      else if d.fieldBad then sField
      else if d.countBad then sCount
      else if d.alignBad then sAlign
      else 0)

/-! ## Checks against the state -/

def State.ctx? (s : State) (x : Nat) : Option Ctx := Tab.get s.sched.ctxs none x

/-- The pages of a range if it is whole pages of a context without a gap. -/
def State.wholePages (s : State) (ctx lo size : Nat) : Option (List Page) :=
  let ps := s.pagesIn lo (lo + size)
  if ps.all (fun p => p.ctx == ctx && decide (p.base + p.bytes ≤ lo + size)) && (ps.map Page.bytes).sum == size &&
      (size == 0 || (s.pageAt lo).any (fun p => p.base == lo)) then some ps
  else none

/-- Does a range lie wholly within pages of a context that meet a condition? -/
def State.covered (s : State) (ctx lo size : Nat) (f : Page → Bool) : Bool :=
  let ps := s.allPages.filter (fun p => decide (p.base < lo + size) && decide (lo < p.base + p.bytes))
  ps.all (fun p => p.ctx == ctx && f p) &&
    (ps.map (fun p => min (p.base + p.bytes) (lo + size) - max p.base lo)).sum == size

/-- Regions of a range, if it is exactly whole regions. -/
def State.wholeRegions (s : State) (ctx lo size : Nat) : Option (List Region) :=
  let rs := s.keeper.regions.filter (fun r => decide (lo ≤ r.base) && decide (r.base < lo + size))
  if rs.all (fun r => r.ctx == ctx && !r.unsealing && decide (r.base + r.size ≤ lo + size)) && (rs.map Region.size).sum == size then some rs
  else none

/-- A snapshot that a SEQ_START with eval binds: by id, or the latest completed (R234). -/
def State.snapFor (s : State) (ctx id : Nat) : Option Snap :=
  let l := s.sched.snaps.filter (fun (x : Snap) => x.ctx == ctx && x.ready && !x.replaced)
  if id = 0xFF then l.getLast? else l.find? (fun x => x.id == id)

/-- The end of the assignable local space (R165). -/
def spaceEnd : Nat := 0xFFFF00000000

/-- The keeper's checks of an allocation body (Table 06.6). `fmt` is the descriptor's format; `here` says that the pages are this
device's. -/
def State.allocCheck (s : State) (d : Desc) (here : Bool) : Nat :=
  let cls := d.f 20 1
  let psize := d.f 21 1
  let pin := d.f 22 1
  let life := d.f 23 1
  let place := d.f 24 1
  let home := d.f 25 1
  let size := d.f 0 8
  let hint := d.f 8 8
  let dev := d.f 16 2
  let unit_ := if psize = 1 then 2097152 else 65536
  let rnd := (size + unit_ - 1) / unit_ * unit_
  if 4 < cls ∨ 2 < psize ∨ 2 < pin ∨ 3 < life ∨ 3 < place ∨ (95 < home ∧ home ≠ 0xFF) then kField
  else if (d.f 26 1 = 1 ∧ cls ≠ 3) ∨ (d.f 28 4 ≠ 0 ∧ cls ≠ 2 ∧ cls ≠ 3) ∨ (pin ≠ 0 ∧ (place = 1 ∨ place = 3)) then kField
  else if d.fmt = 1 ∧ (cls = 3 ∨ life = 3 ∨ dev ≠ 0xFFFF) then kField
  else if 2 ^ 48 < size then kSize
  else if size ≠ 0 ∧ hint ≠ 0 ∧ (hint % unit_ ≠ 0 ∨ spaceEnd < hint + rnd ∨
      (here ∧ s.allPages.any (fun p => decide (p.base < hint + rnd) && decide (hint < p.base + p.bytes)))) then kAddr
  else if dev ≠ 0xFFFF ∧ (16383 < dev ∨ dev = s.ownDev ∨ !s.routed dev) then kPeer
  else 0

/-- The keeper's checks by opcode, codes 0x0301 to 0x0304. -/
def State.keeperCheck (s : State) (d : Desc) : Nat :=
  let lo := d.f 0 8
  let size := d.f 8 8
  let pages := s.wholePages d.ctx lo size
  match d.op with
  | 0x30 => s.allocCheck d (d.f 16 2 == 0xFFFF)
  | 0x31 => if 2 ^ 48 < size then kSize else if pages.isNone then kAddr else 0
  | 0x32 =>
    if 2 < d.f 22 1 then kField else if 2 ^ 48 < size then kSize else if pages.isNone then kAddr else 0
  | 0x33 =>
    if 3 < d.f 20 1 then kField
    else if d.f 20 1 = 2 ∧ (s.pagesIn lo (lo + size)).any (fun p => p.cls == 0 || p.cls == 1 || p.cls == 4) then kField
    else if 2 ^ 48 < size then kSize
    else if pages.isNone then kAddr
    else 0
  | 0x34 =>
    if 2 ^ 48 < size then kSize
    else
      match pages with
      | none => kAddr
      | some ps => if ps.any Page.sealed then kAddr else 0
  | 0x35 => if 2 ^ 48 < size then kSize else if size ≠ 0 ∧ (s.wholeRegions d.ctx lo size).isNone then kAddr else 0
  | 0x28 => if d.f 16 2 ≠ 0xFFFF ∧ (16383 < d.f 16 2 ∨ !s.routed (d.f 16 2)) then kPeer else 0
  | _ => 0

/-- The checks of codes 0x0201 to 0x0207 and 0x0301 to 0x0304, in order (R217). -/
def State.stateCheck (s : State) (d : Desc) : Nat :=
  let seq := d.op == 0x10
  let slice := s.obj (objKey 0x2500 2)
  match s.ctx? d.ctx with
  | none => if d.op = 0x01 then s.keeperCheck d else sCtxState
  | some x =>
    if d.op = 0x01 ∨ (d.op = 0x20 ∧ x.league = 0) then sCtxState
    else if seq ∧ s.fetchCode d.ctx (BitVec.ofNat 64 (d.f 0 8)) ≠ 0 then sPerm
    else if d.op = 0x28 ∧ !s.covered d.ctx (d.f 0 8) (d.f 8 8) (fun p => p.cls == 0) then sPerm
    else if (d.op = 0x11 ∧ (s.slot (d.f 0 2)).all (fun q => q.ctx != d.ctx || q.kind == 2 || q.kind == 3)) ∨
        (d.op = 0x12 ∧ (s.slot (d.f 0 2)).all (fun q => q.ctx != d.ctx || q.kind != 1)) then sTarget
    else if seq ∧ (if d.eval then slice = 0 ∨ slice < d.f 16 1 else 96 - slice < d.f 16 1) then sSlice
    else if seq ∧ d.eval ∧ (s.snapFor d.ctx (d.f 22 1)).isNone then sSnap
    else if d.op = 0x03 ∧ d.f 4 1 ≠ 0xFF ∧ 1048576 ≤ s.sched.tensors.length ∧ s.tensorClass d.ctx (d.f 0 4) = 0xFF then sTable
    else if seq ∧ x.maxthr ≠ 0 ∧ x.maxthr < d.f 16 1 * d.f 17 1 then sCtxLimit
    else s.keeperCheck d

/-- A rejected descriptor: its record, 2500:07 and event 0x2521 (R217). -/
def State.rejectDesc (s : State) (q n code : Nat) : State :=
  ((s.complete q n code 0).bump (objKey 0x2500 7) 1).event 0x2521 srcSched [(1, q), (4, n), (2, code)]

/-- The started descriptor of a queue with an opcode. -/
def State.startedDesc (s : State) (q n op : Nat) : Option Desc :=
  (s.queue q).descs.find? (fun d => d.n == n && d.started && d.op == op)

/-- A command of a started descriptor: nothing where there is none. -/
def withDesc (q n op : Nat) (f : State → Desc → State) (s : State) : State :=
  match s.startedDesc q n op with
  | some d => f s d
  | none => s

end Sys2Proof.Machine
end

