-- ==== Sys2Proof/Machine/DeckCmds.lean ====
section
/-! DEFINITION. The deck's settings and its banks in service: quota, reservations, thrash windows, roles, map-out, hot banks
(R133–R135, R151–R154, R157–R159, R477). -/

namespace Sys2Proof.Machine

def oCapacity : Nat := objKey 0x2410 1
def oQuota : Nat := objKey 0x2410 2
def oPinned : Nat := objKey 0x2410 3
def oDemotions : Nat := objKey 0x2410 4
def oEvalRes : Nat := objKey 0x2410 5
def oLedgerRes : Nat := objKey 0x2410 6

/-- 2410:03, from the pages. -/
def State.countPinned (s : State) : State := s.setObj oPinned (mib s.pinnedFrames)

/-- Pins demoted, most recently pinned first, until pinned and reservations fit the quota (R153). -/
def State.demotePins (s : State) : Nat → State
  | 0 => s
  | n + 1 =>
    if s.pinnedFrames ≤ 16 * (s.quota - s.reservations) then s
    else
      match s.keeper.pinned.getLast? with
      | none => s
      | some b =>
        let k := { s.keeper with pinned := s.keeper.pinned.dropLast, demoted := s.keeper.demoted ++ [b] }
        let s1 := { s with keeper := k }
        let s2 := match s1.pageAt b with
          | some p => (s1.setPage { p with pin := 3 }).bump oDemotions 1
          | none => s1
        s2.demotePins n

/-- Demoted pages promoted in the order of their demotion while quota room lasts (R152). -/
def State.promotePins (s : State) : Nat → State
  | 0 => s
  | n + 1 =>
    match s.keeper.demoted with
    | [] => s
    | b :: r =>
      match s.pageAt b with
      | none => { s with keeper := { s.keeper with demoted := r } }.promotePins n
      | some p =>
        if 16 * s.quota < s.pinnedFrames + p.frames + 16 * s.reservations then s
        else
          ({ s with keeper := { s.keeper with demoted := r, pinned := s.keeper.pinned ++ [b] } }.setPage { p with pin := 2 }).promotePins n

/-- Retained copies dropped, oldest first, while free resident room is below the retention watermark (R183, R206). -/
def State.shedRetained (s : State) : Nat → State
  | 0 => s
  | n + 1 =>
    match s.keeper.retained with
    | [] => s
    | r :: _ =>
      if s.obj (objKey 0x2400 9) * s.obj oCapacity * 16 ≤ s.keeper.resident.free * 100 then s
      else (s.dropRetained (fun x => x.place != r.place)).shedRetained n

/-- The keeper's next placement decision: pins demoted and promoted as the quota allows, retained copies as the watermark does, rows retired,
returns that wait for a frame started (R152, R153, R183, R189, R195). -/
def State.replan (s : State) : State :=
  (((((s.demotePins s.keeper.pinned.length).promotePins s.keeper.demoted.length).countPinned).shedRetained s.keeper.retained.length).settleRetire).pumpReturns

/-- R153 for a new value of one of the three objects. -/
def State.wrQuota (s : State) (key v : Nat) : Wr :=
  let s1 := s.setObj key v
  if s1.quota < s1.reservations then (s, dState) else (s1.replan, dOk)

/-- R151, R153: the pin quota. -/
def execPinQuotaWrite (sess v : Nat) (s : State) : Out := writeNum sess oQuota v (fun s => s.wrQuota oQuota v) s

/-- R153: the evaluation-slice reservation. -/
def execEvalReservationWrite (sess v : Nat) (s : State) : Out := writeNum sess oEvalRes v (fun s => s.wrQuota oEvalRes v) s

/-- R153: the late-ledger reservation. -/
def execLedgerReservationWrite (sess v : Nat) (s : State) : Out := writeNum sess oLedgerRes v (fun s => s.wrQuota oLedgerRes v) s

/-- R154: a window of 16,384 fills ends. -/
def execThrashWindowEnd (col : ColId) (s : State) : Out :=
  commit s (fun s =>
    let k := s.col col
    if k.winFills < 16384 then s
    else
      let d := s.depthOf col
      let th := s.obj (objKey 0x2410 8)
      let max_ := s.obj (objKey 0x2410 7)
      let n := k.winRefetch
      let k0 := { k with winFills := k.winFills - 16384, winRefetch := 0 }
      if th * 16384 < n * 100 then
        ((s.setCol col { k0 with depth := some (d / 2), calm := 0 }).bump (objKey 0x2410 9) 1).event 0x2422 srcKeeper
          [(1, col), (4, n), (1, d / 2)]
      else if n * 200 ≤ th * 16384 then
        if k.calm = 3 then s.setCol col { k0 with depth := some (min (2 * d + 1) max_), calm := 0 }
        else s.setCol col { k0 with calm := k.calm + 1 }
      else s.setCol col { k0 with calm := 0 })

/-! ## Bank roles -/

/-- Steering entries that name a bank. -/
def Column.entriesL (k : Column) (b : Nat) : List Nat := (List.range 64).filter (fun e => k.localBank e == b)
def Column.entriesR (k : Column) (b : Nat) : List Nat := (List.range 64).filter (fun e => Tab.get k.steerR 0 e == b + 1)

def Column.setL (k : Column) (e b : Nat) : Column := { k with steerL := Tab.set k.steerL (e / 16 * 17 + e % 16) e b }
def Column.setR (k : Column) (e b : Nat) : Column := { k with steerR := Tab.set k.steerR 0 e (b + 1) }

/-- The bank of a role that holds the most entries, lowest-numbered first. -/
def fullest (cnt : Nat → Nat) : List Nat → Option Nat
  | [] => none
  | b :: r => some (r.foldl (fun m x => if cnt m < cnt x then x else m) b)

/-- Local entries that name no bank of the role. -/
def Column.freeL (k : Column) : List Nat :=
  (List.range 64).filter (fun e => let b := k.localBank e; b == 68 || k.role (b / 17) (b % 17) != 0)

/-- Local entries moved one at a time to a new bank from the bank with the most, until they are spread as evenly as the banks allow (R477). -/
def Column.evenL (k : Column) (b : Nat) : Nat → Column
  | 0 => k
  | n + 1 =>
    match fullest (fun x => (k.entriesL x).length) ((k.banksOf 0).filter (fun x => x != b)) with
    | none => k
    | some m =>
      if (k.entriesL m).length ≤ (k.entriesL b).length + 1 then k
      else
        match (k.entriesL m).head? with
        | some e => (k.setL e b).evenL b n
        | none => k

/-- A bank takes the cache-local role: the entries that name no bank of the role point at it, then others are moved to it (R477). -/
def Column.spreadL (k : Column) (b : Nat) : Column := (k.freeL.foldl (fun k e => k.setL e b) k).evenL b 64

/-- Remote entries moved in the same way. -/
def Column.evenR (k : Column) (b : Nat) : Nat → Column
  | 0 => k
  | n + 1 =>
    match fullest (fun x => (k.entriesR x).length) ((k.banksOf 1).filter (fun x => x != b)) with
    | none => k
    | some m =>
      if (k.entriesR m).length ≤ (k.entriesR b).length + 1 then k
      else
        match (k.entriesR m).head? with
        | some e => (k.setR e b).evenR b n
        | none => k

/-- A bank takes the cache-remote role (R477). -/
def Column.spreadR (k : Column) (b : Nat) : Column :=
  (((List.range 64).filter (fun e => Tab.get k.steerR 0 e == 0)).foldl (fun k e => k.setR e b) k).evenR b 64

/-- Is a bank named by a steering move one of the role the table serves (R134)? -/
def Column.moveEntry (k : Column) (m : Nat × Nat) : Column :=
  if m.1 < 64 then
    (if k.role (m.2 / 17) (m.2 % 17) = 0 ∧ m.2 < 68 then k.setL m.1 m.2 else k)
  else (if k.role (m.2 / 17) (m.2 % 17) = 1 ∧ m.2 < 68 then k.setR (m.1 - 64) m.2 else k)

/-- The bank after b with a role, in ascending order of tier × 16 + bank, wrapping; a spare only where there is no other (R477). -/
def Column.nextBank (k : Column) (role b : Nat) : Option Nat :=
  let all := k.banksOf role
  let own := all.filter (fun x => x % 17 != 16)
  match (own.filter (fun x => b < x)).head? with
  | some x => some x
  | none => (own.head?).orElse (fun _ => all.head?)

/-- Entries that still name a bank that leaves a role go to the next bank of that role; to none where there is none (R134, R135, R477). -/
def Column.leave (k : Column) (b : Nat) : Column :=
  let k1 := (k.entriesL b).foldl (fun k e => k.setL e ((k.nextBank 0 b).getD 68)) k
  (k.entriesR b).foldl (fun k e => match k.nextBank 1 b with
    | some x => k.setR e x
    | none => { k with steerR := Tab.set k.steerR 0 e 0 }) k1

/-- Does a page have a frame in a bank? -/
def inBank (p : Page) (c tier bank : Nat) : Bool :=
  (p.loc == 1 || p.loc == 2) && p.place / 2 ^ 16 == deckPlace c tier bank 0 / 2 ^ 16

/-- Pages whose home column is c: the column then keeps a cache-local bank (R134). -/
def State.homesIn (s : State) (c : Nat) : Bool := s.homed c != 0

/-- R133, R135, R159: the keeper starts a role change. Mapped-out banks have none; the last cache-local bank of a homed column keeps
its role (R134). -/
def execBankRoleChange (col : ColId) (tier : TierId) (bank : BankId) (role : Nat) (s : State) : Out :=
  commit s (fun s =>
    let k := s.col col
    let old := k.role tier bank
    if 4 < role ∨ old = 5 ∨ old = role ∨ (role = 4 ∧ bank.val ≠ 16) ∨ Tab.get k.draining 0xFF (tier * 17 + bank) ≠ 0xFF then s
    else if old = 0 ∧ s.homesIn col ∧ (k.banksOf 0).all (fun b => b == tier * 17 + bank || Tab.get k.draining 0xFF b != 0xFF) then s
    else s.startDrain col tier bank role)

/-- 2410:01: two MiB for each bank in service, spares in use included. -/
def State.loseBank (s : State) : State := s.setObj oCapacity (s.obj oCapacity - 2)

/-- Does a bank that is being drained still hold a frame, or has a line of it an open MSHR (R135)? -/
def State.bankBusy (s : State) (c tier bank : Nat) : Bool :=
  let k := s.col c
  let b := tier * 17 + bank
  s.deckUsed.any (fun u => u.1 / 2 ^ 16 == deckPlace c tier bank 0 / 2 ^ 16) ||
    k.mshrs.any (fun m => if m.remote then Tab.get k.steerR 0 (fold6 m.line) == b + 1 else k.localBank (slotOf m.line) == b)

/-- R135, R157: the drain ends once no frame and no MSHR of the bank is left, and not while the bank is the last cache-local one of a column
with homed pages (R134, R477; assumption 120). A role change takes effect; a map-out gives role and entries to the spare that took its
frames. -/
def State.drainDone (s : State) (c tier bank : Nat) (moves : List (Nat × Nat)) (cause : Nat) : State :=
  let b := tier * 17 + bank
  let k := s.col c
  let role := Tab.get k.draining 0xFF b
  let old := k.role tier bank
  let spare := role == 5 && Tab.get k.taking 0 tier == bank + 1
  let last := old == 0 && !spare && s.homesIn c && (k.banksOf 0).all (· == b)
  let clear (k : Column) : Column := { k with draining := Tab.set k.draining 0xFF b 0xFF, hadFrames := Tab.set k.hadFrames false b false }
  if role = 0xFF ∨ s.bankBusy c tier bank ∨ last then s
  else if role = 5 then
    let s1 := s.modCol c (fun k =>
      let k1 := (clear k).setRole tier bank 5
      if spare then
        let k2 := { k1.setRole tier 16 old with taking := Tab.set k1.taking 0 tier 0 }
        let k3 := (k2.entriesL b).foldl (fun k e => k.setL e (tier * 17 + 16)) k2
        (k3.entriesR b).foldl (fun k e => k.setR e (tier * 17 + 16)) k3
      else k1.leave b)
    let s2 := s1.moveFrames old 5
    let s3 := if spare ∨ old = 4 then s2 else s2.loseBank
    let (s4, _) := s3.retireEntry 2 cause (c * 2 ^ 16 + tier * 2 ^ 8 + bank) (Tab.get k.corrected 0 b) (Tab.get k.hadFrames false b) false
    ((s4.event 0x2411 (srcTier tier) [(1, c), (1, tier), (1, bank), (1, if spare then 1 else 0), (1, cause)]).endService
      (chgMapOut c b)).replan
  else
    let s1 := s.modCol c (fun k =>
      let k1 := (clear k).setRole tier bank role
      let k2 := (moves.foldl (fun k m => k.moveEntry m) k1).leave b
      if role = 0 then k2.spreadL b else if role = 1 then k2.spreadR b else k2)
    (s1.moveFrames old role).replan

/-- R135: a drain ends. -/
def execBankDrainDone (col : ColId) (tier : TierId) (bank : BankId) (moves : List (Nat × Nat)) (s : State) : Out :=
  commit s (fun s => s.drainDone col tier bank moves (if Tab.get (s.col col).corrected 0 (tier * 17 + bank) < s.obj (objKey 0x2410 0x0E) then 3 else 1))

/-- R157: the operator's request: column × 32 + bank; a bank field above 16 or a bank out of service is rejected. -/
def State.wrMapOut (s : State) (t v : Nat) : Wr :=
  let c := v / 32
  let b := v % 32
  if 16 < b ∨ s.dev.act.isSome then (s, dState)
  else if (s.col c).role t b = 5 ∨ Tab.get (s.col c).draining 0xFF (t * 17 + b) ≠ 0xFF then (s, dState)
  else ((s.setObj (oTier t 0x11) v).startMapOut c t b, dOk)

/-- R157, a write to 3100+t:11. -/
def execBankMapOutRequestWrite (sess : Nat) (tier : TierId) (v : Nat) (s : State) : Out :=
  writeNum sess (oTier tier 0x11) v (fun s => s.wrMapOut tier v) s

/-- Is a page in a position that the stagger map does not allow: its deck frame's bank, or a bank that caches one of its lines (R158)? -/
def State.badPosition (s : State) (p : Page) : Bool :=
  if p.loc = 1 ∨ p.loc = 2 then !s.placeAllowed p.place
  else s.cols.any (fun e => e.2.lines.any (fun l => !l.remote && decide (p.base / 4096 ≤ l.line) && decide (l.line < (p.base + p.bytes) / 4096) &&
    !e.2.allowed e.1 (l.bank / 17) (l.bank % 17)))

/-- R158: the review interval ends: the banks' counts are kept and begin again, and what is to move is marked, for migrations to move it. A
deck page of a hot bank, or one whose own traffic would make its bank hot in a position that is not allowed, goes to another bank. The
keeper chooses new home columns: `spots` for HBM pages of the second kind, `homes` for pages of columns whose core's bank-cap waits rose.
Steering entries move on a role change only (R135; assumption 124). -/
def execHotBankReview (spots homes : List (Nat × Nat)) (s : State) : Out :=
  commit s (fun s =>
    let th := s.obj (objKey 0x2410 0x0D)
    let hot (p : Page) : Bool := (List.range p.frames).any (fun i =>
      let pl := p.place + i * 2 ^ 11
      decide (th < Tab.get (s.col (pl / 2 ^ 23)).accesses 0 (bitsOf pl 22 21 * 17 + bitsOf pl 20 16)))
    let heavy (p : Page) : Bool := decide (th < Tab.get s.keeper.traffic 0 (pageKey p.base)) && s.badPosition p
    let rose (c : Nat) : Bool := decide (Tab.get s.keeper.capWaits 0 c < s.obj (oCore c 0x17))
    let spread := (s.allPages.filter (fun p => (p.loc == 1 || p.loc == 2) && (hot p || heavy p))).map (fun p => (p.base, none))
    let choose (may : Page → Bool) (l : List (Nat × Nat)) : List (Nat × Option Nat) := l.filterMap (fun e =>
      match s.pageAt e.1 with
      | some p => if p.base = e.1 ∧ p.loc = 0 ∧ e.2 < 96 ∧ s.mayHome e.2 p.frames ∧ may p then some (p.base, some e.2) else none
      | none => none)
    { s with
      cols := s.cols.map (fun e => (e.1, { e.2 with lastAccesses := e.2.accesses, accesses := [] }))
      keeper := { s.keeper with
        rehome := spread ++ choose heavy spots ++ choose (fun p => rose (p.place / 2 ^ 23)) homes
        traffic := []
        capWaits := (List.range 96).foldl (fun t c => Tab.set t 0 c (s.obj (oCore c 0x17))) [] } })

end Sys2Proof.Machine
end

