-- ==== Sys2Proof/Machine/Serve.lean ====
section
/-! DEFINITION. Peers' requests served at this home (R167, R258, R303, R317, R320, R322, R325). -/

namespace Sys2Proof.Machine

/-- a − b as the difference of R258, below 2²³ modulo 2²⁴: is a at or after b? -/
def stepReached (a b : Nat) : Bool := decide ((a % 2 ^ 24 + 2 ^ 24 - b % 2 ^ 24) % 2 ^ 24 < 2 ^ 23)

/-- Response statuses (Table 10.6). -/
def rOk : Nat := 0
def rNoAccess : Nat := 1
def rReadOnly : Nat := 2
def rPoison : Nat := 3
def rFenced : Nat := 4
def rUnsupported : Nat := 5

/-- Is a requester fenced by this home (R322, R326)? -/
def State.fencedReq (s : State) (dev league : Nat) : Bool :=
  s.fabric.fences.any (fun (f : Fence) => f.dev == dev && (f.kind == 1 || f.league == league))

/-- The check of a peer's request at its home (R317). -/
def State.homeCheck (s : State) (p : Pkt) (wr : Bool) : Nat :=
  let a := localOf p.addr
  if s.fencedReq p.src p.league then rFenced
  else if (s.windowOf a).isSome then rUnsupported
  else
    match s.pageAt a with
    | none => rNoAccess
    | some g =>
      let own := g.ctx = p.ctx ∧ s.leagueOf p.ctx = p.league ∧ p.league ≠ 0
      let shared := g.sealed ∧ p.league ≠ 0 ∧ s.leagueOf g.ctx = p.league
      if own ∨ shared then (if wr ∧ (g.sealed ∨ !g.wr) then rReadOnly else rOk) else rNoAccess

/-- The previous frame that serves a read of a step (R258). -/
def State.prevFor (s : State) (g : Page) (fstep : Nat) : Option Flipped :=
  s.keeper.flipped.find? (fun (f : Flipped) => f.page == g.base && !stepReached fstep f.step)

/-- Must a peer's read wait for this home's flip: it names a step that this home has not flipped, of a page with a shadow? -/
def State.waitsFlip (s : State) (g : Page) (p : Pkt) : Bool :=
  s.keeper.shadows.any (fun e => e.page == g.base) && s.pass.layout.any (fun (l : Layout) => l.league == p.league) &&
    !stepReached s.pass.fstep p.fstep

/-- A response to a request, with the page's attributes (R303, R320, R325); a sealed answer enters the reader map. -/
def State.respond (s : State) (p : Pkt) (type status : Nat) (g : Option Page) (epoch : Option Nat) (data : List Byte) : State :=
  let old := !s.sealsTo p.src
  let un := g.any (fun (g : Page) => (s.regionOf g.base).any Region.unsealing)
  let sealed := g.any Page.sealed && !old && !un
  let big := g.any Page.big
  let wr := g.any (fun (g : Page) => g.wr && !g.sealed && g.ctx == p.ctx)
  let attr := (if sealed then 0x8000 else 0) + (if big then 0x4000 else 0) + (if wr then 0x2000 else 0)
  let e := if old then 0 else epoch.getD ((g.map Page.sepoch).getD 0)
  let s1 := match g with
    | some x =>
      (match s.regionOf x.base with
        | some r => if sealed ∧ status = 0 ∧ !r.readers.elem p.src then s.setRegion { r with readers := r.readers ++ [p.src] } else s
        | none => s)
    | none => s
  s1.sendPkt { type := type, vc := 2, dst := p.src, tag := p.tag, attr := if status = 0 then BitVec.ofNat 16 attr else 0, league := p.league
               addr := p.addr, ctx := p.ctx, epoch := if status = 0 then e else 0, status := status, payload := data }

/-- A read of a peer: from its column (R129, R136, R137), or the previous frame. `deck` is the error that the column's read finds, `bad` what
its HBM reads find. -/
def State.serveRead (s : State) (p : Pkt) (g : Page) (deck : Option Bool) (bad : List BadBytes) : State :=
  let a := localOf p.addr
  let n := p.attr.toNat
  match s.prevFor g p.fstep with
  | some f =>
    if poisonedIn s.prevPoison a n then s.respond p 0x18 rPoison (some g) none []
    else s.respond p 0x18 rOk (some g) (some f.epoch) (Tab.readBytes s.prev a n)
  | none =>
    let s1 := if s.deadLine a then s.deadRead p.ctx 0xFF a else s
    let s2 := ((((s1.noteAccess g a).touchPage g).hbmErrors g a n bad).colRead g a n false).deckError g a deck
    let x := s2.readAt a n
    if x.2 ≠ 0 then s2.respond p 0x18 rPoison (some g) none [] else s2.respond p 0x18 rOk (some g) none x.1

/-- The bytes and their masks of a write (Table 10.5). -/
def wrData (p : Pkt) : List (Byte × Bool) :=
  if p.attr.toNat.testBit 15 then
    let m := leNat (p.payload.take 32)
    ((List.range 256).zip ((p.payload.drop 32).take 256)).map (fun e => (e.2, m.testBit e.1))
  else p.payload.map (fun b => (b, true))

/-- One request of a peer served by its column (R129), or left waiting (none): also while its line has an open MSHR (R142). -/
def State.servePeer (s : State) (p : Pkt) (deck : Option Bool) (bad : List BadBytes) : Option State :=
  let a := localOf p.addr
  if p.type = 0x10 then
    let c := s.homeCheck p false
    if c ≠ 0 then some (s.respond p 0x18 c none none [])
    else
      match s.pageAt a with
      | none => some (s.respond p 0x18 rNoAccess none none [])
      | some g =>
        if g.away ∨ s.waitsFlip g p ∨ s.lineBusy g a then none
        else some (s.serveRead p g deck bad)
  else
    let data := if p.type = 0x11 then wrData p else List.replicate 8 (0, true)
    let c := s.homeCheck p true
    if c ≠ 0 then some (s.respond p 0x19 c none none [])
    else
      match s.pageAt a with
      | none => some (s.respond p 0x19 rNoAccess none none [])
      | some g =>
        if g.away ∨ s.writeHeld g.base a ∨ s.lineBusy g a then none
        else if p.type = 0x11 then
          let s1 := s.noteAccess g a
          some (((if partSectors a data = 0 then s1 else (s1.partErrors g a data bad).deckError g a deck).homeStoreAs true a data).respond p 0x19
            rOk (some g) none [])
        else
          let s := (((s.noteAccess g a).hbmErrors g a 8 bad).colRead g a 8 false).deckError g a deck
          let x := s.readAt a 8
          if x.2 ≠ 0 then some (s.respond p 0x19 rPoison (some g) none [])
          else
            let old := BitVec.ofNat 64 (leNat x.1)
            let new := amoResult (p.attr.toNat % 8) old (BitVec.ofNat 64 (fieldAt p.payload 0 8)) (BitVec.ofNat 64 (fieldAt p.payload 8 8))
            some ((s.homeStoreAs false a ((leBytes 8 new.toNat).map (fun b => (b, true)))).respond p 0x19 rOk (some g) none x.1)

/-- A request of a peer that waits: for its page's return, its copy or the flip; its flits stay held (R188, R191, R258, R306). -/
def State.holdPeer (s : State) (l : Nat) (p : Pkt) : State :=
  let s1 := s.holdFlits l p
  let s2 := { s1 with fabric := { s1.fabric with waiting := s1.fabric.waiting ++ [(l, p)] } }
  match s2.pageAt (localOf p.addr) with
  | some g => if g.away then s2.demandReturn g else s2
  | none => s2

/-- A request of a peer arrives; before the fabric is enabled nothing routed moves (R308). -/
def State.onRequest (s : State) (l : Nat) (p : Pkt) (deck : Option Bool) (bad : List BadBytes) : State :=
  let s1 := s.countRx l p
  if s.obj oFabricOn = 0 then s1.freeFlits l p
  else match s1.servePeer p deck bad with
  | some t => t.freeFlits l p
  | none => s1.holdPeer l p

/-- Peers' waiting requests tried again, oldest first. -/
def State.pumpPeers (s : State) : State :=
  let w := s.fabric.waiting
  ({ s with fabric := { s.fabric with waiting := [] } }).forAll w (fun s e =>
    match s.servePeer e.2 none [] with
    | some t => t.unholdFlits e.1 e.2
    | none => { s with fabric := { s.fabric with waiting := s.fabric.waiting ++ [e] } })

/-- R142, R147, R170–R173: a local miss's data returns: checked, installed, and its waiters served, then peers'
requests that waited for it. -/
def State.fillReturn (col line : Nat) (bad : List BadBytes) (s : State) : State :=
  match (s.col col).mshrs.find? (fun m => m.line == line && !m.remote) with
  | none => s
  | some m =>
    let s1 := s.forAll (bad.filter (fun b => inNeed m b.sector)) State.checkRead
    let s2 := if m.install then
        s1.modCol col (fun k => (k.countFill line false).install { s1.localLine col (line * 4096) with valid := m.need })
      else s1.modCol col (fun k => k.countFill line false)
    ((s2.forAll m.waiters (fun s w => s.perform w.1 w.2)).closeMshr col line false).pumpPeers

/-- R303, RD, for this device. -/
def execRd (l : LinkId) (x : ReqIn) (s : State) : Out :=
  commit s (fun s => s.onRequest l { x.p with type := 0x10 } x.deck x.bad)
/-- R303, WR. -/
def execWr (l : LinkId) (x : ReqIn) (s : State) : Out :=
  commit s (fun s => s.onRequest l { x.p with type := 0x11 } x.deck x.bad)
/-- R303, AMO. -/
def execAmoPacket (l : LinkId) (x : ReqIn) (s : State) : Out :=
  commit s (fun s => s.onRequest l { x.p with type := 0x12 } x.deck x.bad)

end Sys2Proof.Machine
end

