-- ==== Sys2Proof/Machine/Tables.lean ====
section
/-! DEFINITION. The three-level table of the keeper reserve (R166, Tables 06.1, 06.2): its entries and the walk. The entries are those that
the leaves make; no address of the machine reads the reserve. DESIGN CHOICE (assumption 122): the tables of a level lie in the order of the
ranges that they serve. -/

namespace Sys2Proof.Machine

/-- The ranges of n bits of address that hold a page of those chosen. -/
def State.ranges (s : State) (n : Nat) (f : Page → Bool) : List Nat :=
  (((s.allPages.filter f).map (fun p => p.base / 2 ^ n)).dedup)

/-- How many of a list lie below a number. -/
def rankOf (l : List Nat) (i : Nat) : Nat := (l.filter (fun j => decide (j < i))).length

/-- The base of the level-2 table of A[47:35], in 256 KiB units of the reserve: after the level-1 table. -/
def State.level2Base (s : State) (i : Nat) : Nat := 1 + rankOf (s.ranges 35 (fun _ => true)) i

/-- The base of the level-3 table of A[47:21], in 512 B units of the reserve: after the level-2 tables. -/
def State.level3Base (s : State) (i : Nat) : Nat :=
  512 * (1 + (s.ranges 35 (fun _ => true)).length) + rankOf (s.ranges 21 (fun p => !p.big)) i

/-- The number of the 64 B record that holds a class X 2 MiB page's dead-line masks. -/
def State.maskRecord (s : State) (p : Page) : Nat := rankOf ((s.allPages.filter (fun q => q.big && q.cls == 4)).map Page.base) p.base

/-- A level-1 entry (Table 06.1). -/
def State.level1 (s : State) (i : Nat) : BitVec 64 :=
  if (s.ranges 35 (fun _ => true)).elem i then (1 : BitVec 1) ++ (0 : BitVec 33) ++ BitVec.ofNat 30 (s.level2Base i) else 0

/-- A page's leaf entry (Table 06.2). -/
def State.leaf (s : State) (p : Page) : BitVec 128 :=
  let bit (b : Bool) : BitVec 1 := BitVec.ofBool b
  BitVec.ofNat 16 p.sepoch ++ (if p.big then 0 else Tab.get p.dmask 0 0) ++
    BitVec.ofNat 32 (if p.big && p.cls == 4 then s.maskRecord p else p.okey) ++ BitVec.ofNat 14 p.ctx ++ BitVec.ofNat 2 p.life ++
    BitVec.ofNat 2 p.pin ++ BitVec.ofNat 3 p.loc ++ BitVec.ofNat 3 p.cls ++ bit p.big ++ (1 : BitVec 1) ++ bit p.wr ++ bit p.sealed ++
    bit p.direct ++ bit p.offok ++ bit p.mig ++ (0 : BitVec 3) ++ BitVec.ofNat 30 p.place

/-- The pointer to a level-3 table: v = 1, ps = 0 and the base (R166). -/
def pointer (base : Nat) : BitVec 128 := (0 : BitVec 89) ++ (1 : BitVec 1) ++ (0 : BitVec 8) ++ BitVec.ofNat 30 base

/-- The level-2 entry of A[47:21]: a leaf for a 2 MiB page, a pointer, or an invalid one. -/
def State.level2 (s : State) (i : Nat) : BitVec 128 :=
  match Tab.get s.keeper.pages none (i * 32) with
  | some p => if p.big then s.leaf p else pointer (s.level3Base i)
  | none => if (s.ranges 21 (fun p => !p.big)).elem i then pointer (s.level3Base i) else 0

/-- The level-3 leaf of A[47:16]. -/
def State.level3 (s : State) (i : Nat) : BitVec 128 :=
  match Tab.get s.keeper.pages none i with
  | some p => s.leaf p
  | none => 0

/-- The v and ps bits of a level-2 or level-3 entry. -/
def leafValid (e : BitVec 128) : Bool := e.getLsbD 38
def leafBig (e : BitVec 128) : Bool := e.getLsbD 39

/-- The walk of a local address (R166): the leaf that it ends at; none at an invalid entry. -/
def State.walk (s : State) (a : Nat) : Option (BitVec 128) :=
  if !(s.level1 (a / 2 ^ 35)).getLsbD 63 then none
  else
    let e := s.level2 (a / 2 ^ 21)
    if !leafValid e then none
    else if leafBig e then some e
    else
      let l := s.level3 (a / 2 ^ 16)
      if leafValid l then some l else none

/-- Bytes of the reserve that the tables take with new pages (base, big) of a class (R166, R177): the level-1 table, the level-2 tables, a
level-3 table for each split 2 MiB, a 64 B record for each class X 2 MiB page. -/
def State.tableBytes (s : State) (cls : Nat) (more : List (Nat × Bool)) : Nat :=
  let pages := s.allPages.map (fun p => (p.base, p.big, p.cls)) ++ more.map (fun e => (e.1, e.2, cls))
  262144 * (1 + ((pages.map (fun e => e.1 / 2 ^ 35)).dedup).length) +
    512 * (((pages.filter (fun e => !e.2.1)).map (fun e => e.1 / 2 ^ 21)).dedup).length +
    64 * (pages.filter (fun e => e.2.1 && e.2.2 == 4)).length

end Sys2Proof.Machine
end

