-- ==== Sys2Proof/Machine/Keeper.lean ====
section
/-! DEFINITION. The keeper's commands and its background work (R174–R204). -/

namespace Sys2Proof.Machine

/-! ## Allocation -/

/-- The pages of an allocation as (address, big), from a base: 2 MiB pages for every aligned part under psize 2 (R175). -/
def cutPages (psize base : Nat) : Nat → Nat → List (Nat × Bool)
  | 0, _ => []
  | fuel + 1, size =>
    if size = 0 then []
    else if psize = 1 ∨ (psize = 2 ∧ base % 2097152 = 0 ∧ 2097152 ≤ size) then
      (base, true) :: cutPages psize (base + 2097152) fuel (size - 2097152)
    else (base, false) :: cutPages psize (base + 65536) fuel (size - 65536)

/-- Bytes rounded up to whole pages. -/
def roundPages (psize size : Nat) : Nat :=
  let u := if psize = 1 then 2097152 else 65536
  (size + u - 1) / u * u

/-- Is a range of local addresses free? -/
def State.rangeFree (s : State) (a n : Nat) : Bool :=
  s.allPages.all (fun p => decide (a + n ≤ p.base) || decide (p.base + p.bytes ≤ a))

/-- The lowest free range of R175. -/
def State.lowestRange (s : State) (psize size : Nat) : Option Nat :=
  let al := if psize = 1 ∨ (psize = 2 ∧ 2097152 ≤ size) then 2097152 else 65536
  ((alignUp 0x10000 al :: s.allPages.map (fun p => alignUp (p.base + p.bytes) al)).filter
    (fun a => s.rangeFree a size && decide (a + size ≤ spaceEnd))).foldl (fun (m : Option Nat) a =>
      match m with
      | none => some a
      | some b => some (min a b)) none

/-- A placement for a new page (Table 06.7): the loc and place, or none; a new page in HBM is unbacked (R178). -/
def State.placeNew (s : State) (d : Desc) (frames pin : Nat) (want : Option Nat) : Option (Nat × Nat) :=
  (s.placeBy (d.f 24 1) pin (d.f 20 1) frames (d.f 25 1) want).map (fun x => (if x.1 = 0 then 4 else x.1, x.2))

/-- Retained copies dropped, oldest first, until a pin has its resident frame (R183). -/
def State.spareRetained (s : State) (n : Nat) : Nat → State
  | 0 => s
  | k + 1 =>
    if (s.pickFrame 1 n 0xFF none).isSome then s
    else
      match s.keeper.retained with
      | [] => s
      | r :: _ => (s.dropRetained (fun x => x.place != r.place)).spareRetained n k

/-- One new page of an allocation: its pin within the quota, its place, its leaf (R152, R175, R178, R181); `full`: an earlier page of the
request did not fit the quota. -/
def State.newPage (s : State) (d : Desc) (ctx owner : Nat) (full : Bool) (b : Nat × Bool) (want : Option Nat) : Option (State × Bool) :=
  let frames := if b.2 then 32 else 1
  let pin0 := d.f 22 1
  let s := if d.f 24 1 = 2 ∨ (d.f 24 1 = 0 ∧ pin0 = 2) then s.spareRetained frames s.keeper.retained.length else s
  let fits := !full && decide (s.pinnedFrames + frames + 16 * s.reservations ≤ 16 * s.quota)
  let pin := if pin0 = 2 ∧ !fits then 3 else pin0
  match s.placeNew d frames pin want with
  | none => none
  | some (loc, place) =>
    let pin1 := if pin = 2 ∧ loc ≠ 1 then 3 else pin
    let ep := (List.range frames).foldl (fun m i => max m (Tab.get s.keeper.lastEpoch 0 (pageKey b.1 + i))) 0
    let p : Page := {
      base := b.1, big := b.2, cls := d.f 20 1, life := d.f 23 1, pin := pin1, loc := loc, ctx := ctx, direct := d.f 24 1 == 3
      offok := d.f 26 1 == 1, okey := d.f 28 4, sepoch := ep, place := place, owner := owner, want := d.f 24 1, hint := d.f 25 1 }
    let s1 := (s.modPool (poolOf loc) (fun q => q.take frames)).setPage p
    let k := s1.keeper
    some ({ s1 with keeper := { k with
      pinned := if pin1 = 2 then k.pinned ++ [b.1] else k.pinned
      demoted := if pin1 = 3 then k.demoted ++ [b.1] else k.demoted } }, full || (pin0 == 2 && !fits))

def State.newPages (s : State) (d : Desc) (ctx owner : Nat) (full : Bool) (wants : List Nat) : List (Nat × Bool) → Option State
  | [] => some s
  | b :: r =>
    match s.newPage d ctx owner full b wants.head? with
    | none => none
    | some (t, f) => t.newPages d ctx owner f wants.tail r

/-- An allocation performed for a context of this device: the status and the base. It is a placement decision: what waits for one goes first
(R152). Demoted pins are counted and reported once. -/
def State.allocate (s0 : State) (d : Desc) (ctx : Nat) (wants : List Nat) : State × Nat × Nat :=
  let psize := d.f 21 1
  let size := roundPages psize (d.f 0 8)
  if d.f 0 8 = 0 then (s0, 0, 0)
  else
    let s := s0.replan
    let at_ := if d.f 8 8 = 0 then s.lowestRange psize size else some (d.f 8 8)
    match at_ with
    | none => (s, kSpace, 0)
    | some base =>
      let l := cutPages psize base (size / 65536 + 1) size
      if 3072 * 1048576 < s.tableBytes (d.f 20 1) l then (s, kMeta, 0)
      else
        match s.newPages d ctx d.step false wants l with
        | none => (s, kSpace, 0)
        | some t =>
          let n := (t.keeper.demoted.length - s.keeper.demoted.length)
          let dem := ((t.pagesIn base (base + size)).filter (fun p => p.pin == 3)).foldl (fun n p => n + p.frames) 0
          let t1 := t.countPinned
          let t2 := if n = 0 then t1
            else (t1.bump oDemotions n).event 0x2421 srcKeeper [(2, ctx), (4, mib (size / 65536 - dem)), (4, mib dem)]
          (t2, 0, base)

/-- A refused allocation (R181, Table 06.13). -/
def State.refuseAlloc (s : State) (ctx status size : Nat) : State :=
  (s.bump (objKey 0x2400 0x0B) 1).event 0x2401 srcKeeper [(2, ctx), (2, status), (4, size / 1048576)]

/-- The 64 B keeper command that R180 carries: the descriptor again. -/
def Desc.bytes (d : Desc) : List Byte :=
  leBytes 1 2 ++ leBytes 1 d.op ++ leBytes 2 d.ctx ++ leBytes 4 d.tag ++ leBytes 4 d.step ++ leBytes 2 (if d.fence then 1 else 0) ++
    leBytes 2 0 ++ d.body

/-- The number of a frame-book rebuild among the changes of R403. -/
def chgFrames (i : Nat) : Nat := 0x2000 + i

/-- Are a pool's books being rebuilt, so that allocations wait (R193)? -/
def State.rebuilding (s : State) : Bool := (List.range 4).any (fun i => s.dev.changes.elem (chgFrames i))

/-- An allocation waits for frames, up to 100 ms (R181). -/
def State.allocWait (s : State) (q n : Nat) : State :=
  if s.keeper.allocWaits.elem (q, n) then s else { s with keeper := { s.keeper with allocWaits := s.keeper.allocWaits ++ [(q, n)] } }
def State.allocDone (s : State) (q n : Nat) : State :=
  { s with keeper := { s.keeper with allocWaits := s.keeper.allocWaits.filter (fun e => e != (q, n)) } }

/-- R175–R181: KEEP_ALLOC: on this device, or carried to its target. An allocation without frames waits while an off-load runs; every
allocation waits while frame books are rebuilt (R193). -/
def execKeepAlloc (q : QueueId) (n : Nat) (frames : List Nat) (s : State) : Out :=
  commit s (withDesc q n 0x30 (fun s d =>
    let c := s.keeperCheck d
    if c ≠ 0 then s.rejectDesc q n c
    else if d.f 0 8 = 0 then s.complete q n 0 0
    else if d.f 16 2 ≠ 0xFFFF then
      (if s.fabric.outs.any (fun o => o.keep == some (q.val, n)) then s
       else s.askPeer 0 idKeep d.ctx (globalOf (d.f 16 2) 0) (some (q.val, n)) { type := 0x14, payload := d.bytes })
    else
      if s.rebuilding then s
      else
        let (t, st, base) := s.allocate d d.ctx frames
        if st = 0 then (t.allocDone q n).complete q n 0 base
        else if st = kSpace ∧ !s.keeper.offs.isEmpty then t.allocWait q n
        else ((t.refuseAlloc d.ctx st (d.f 0 8)).allocDone q n).complete q n st 0))

/-! ### A peer's allocation (R180) -/

/-- KEEPR: the completion record of a peer's keeper command. -/
def State.keepAnswer (s : State) (p : Pkt) (st result : Nat) : State :=
  let d := (parseDesc 0 2 p.payload).1
  let r := leBytes 4 0 ++ leBytes 4 d.tag ++ leBytes 2 st ++ leBytes 1 d.op ++ leBytes 1 0 ++ leBytes 2 d.ctx ++ leBytes 2 0 ++
    leBytes 4 d.step ++ leBytes 4 0 ++ leBytes 8 result
  s.sendPkt { type := 0x1A, vc := 2, dst := p.src, tag := p.tag, league := p.league, addr := p.addr, ctx := p.ctx, payload := r }

/-- R319 for a range of whole pages: sealed under 1 + the highest epoch they hold; the region and its epoch. -/
def State.sealRange (s : State) (ctx base size : Nat) : State × Nat :=
  let ps := s.pagesIn base (base + size)
  let e := (ps.foldl (fun m p => max m p.sepoch) 0 + 1) % 2 ^ 16
  let s1 := s.forAll ps (fun s p => (s.setPage { p with sealed := true, wr := false, sepoch := e }).dropTlb (pageKey p.base))
  let rs := s1.keeper.regions ++ [({ base := base, size := size, epoch := e, ctx := ctx } : Region)]
  ({ s1 with keeper := { s1.keeper with regions := rs } }.setObj (objKey 0x2440 9) rs.length, e)

/-- A SEAL carried here for a snapshot shipped to this device (R233): of pages of the command's context in the league carried; it waits as a
SEAL of this device does (R169). DESIGN CHOICE (assumption 126): the spec has KEEP carry
allocations (R180) and names no packet that seals a shipped snapshot. -/
def State.tryCarried (s : State) (p : Pkt) (d : Desc) : Option State :=
  let code := s.keeperCheck d
  let ps := s.pagesIn (d.f 0 8) (d.f 0 8 + d.f 8 8)
  if (s.ctx? d.ctx).isNone ∨ p.league = 0 ∨ s.leagueOf d.ctx ≠ p.league then some (s.keepAnswer p sCtxState 0)
  else if code ≠ 0 then some (s.keepAnswer p code 0)
  else if d.f 8 8 = 0 then some (s.keepAnswer p 0 0)
  else if ps.any (fun p => !(s.openOn p).isEmpty) then none
  else if 4096 ≤ s.keeper.regions.length then some (s.keepAnswer p kMeta 0)
  else
    let x := s.sealRange d.ctx (d.f 0 8) (d.f 8 8)
    some (x.1.keepAnswer p 0 x.2)

/-- An allocation carried here performed for this device's context pctx and answered; none where it waits for frames (R180, R181, R193). -/
def State.tryKeep (s : State) (p : Pkt) (frames : List Nat) : Option State :=
  let (d, code) := parseDesc 0 2 p.payload
  let pctx := d.f 18 2
  if s.fencedReq p.src p.league then
    some (s.sendPkt { type := 0x1A, vc := 2, dst := p.src, tag := p.tag, league := p.league, addr := p.addr, ctx := p.ctx, status := rFenced })
  else if code ≠ 0 then some (s.keepAnswer p code 0)
  else if d.op = 0x34 then s.tryCarried p d
  else if d.op ≠ 0x30 then some (s.keepAnswer p sOpcode 0)
  else if (s.ctx? pctx).isNone ∨ p.league = 0 ∨ s.leagueOf pctx ≠ p.league then some (s.keepAnswer p sCtxState 0)
  else
    let c := s.allocCheck { d with body := d.body.take 16 ++ [0xFF, 0xFF] ++ d.body.drop 18 } true
    if c ≠ 0 then some (s.keepAnswer p c 0)
    else if d.f 0 8 = 0 then some (s.keepAnswer p 0 0)
    else if s.rebuilding then none
    else
      let (t, st, base) := s.allocate d pctx frames
      if st = 0 then some (t.keepAnswer p 0 (globalOf s.ownDev base).toNat)
      else if st = kSpace ∧ !s.keeper.offs.isEmpty then none
      else some ((t.refuseAlloc pctx st (d.f 0 8)).keepAnswer p st 0)

/-- Peers' allocations that wait tried again, oldest first. -/
def State.pumpKeeps (s : State) : State :=
  ({ s with keeper := { s.keeper with keepWaits := [] } } : State).forAll s.keeper.keepWaits (fun s p =>
    match s.tryKeep p [] with
    | some t => t
    | none => { s with keeper := { s.keeper with keepWaits := s.keeper.keepWaits ++ [p] } })

/-- R181: 100 ms passed for an allocation that waits: a command of this device, or a peer's, by its sender and tag. -/
def execAllocWaitTimeout (q : QueueId) (w : AllocWait) (s : State) : Out :=
  commit s (fun s =>
    match w with
    | .own n => withDesc q n 0x30 (fun s d =>
        if !s.keeper.allocWaits.elem (q.val, n) then s
        else ((s.refuseAlloc d.ctx kSpace (d.f 0 8)).allocDone q n).complete q n kSpace 0) s
    | .peer src tag =>
      match s.keeper.keepWaits.find? (fun p => p.src == src && p.tag == tag) with
      | none => s
      | some p =>
        let d := (parseDesc 0 2 p.payload).1
        (({ s with keeper := { s.keeper with keepWaits := s.keeper.keepWaits.filter (fun x => !(x.src == src && x.tag == tag)) } } : State).refuseAlloc
          (d.f 18 2) kSpace (d.f 0 8)).keepAnswer p kSpace 0)

/-- A command's completion once none of its sealed pages waits for its readers (R478). -/
def State.completeFree (s : State) (q n lo size : Nat) : State :=
  let waits := s.keeper.regions.filter (fun r => r.freeing.any (fun b => decide (lo ≤ b) && decide (b < lo + size)))
  if waits.isEmpty then s.complete q n 0 0
  else s.forAll waits (fun s r => s.setRegion { r with frees := r.frees ++ [(q, n)] })

/-- R179, KEEP_FREE: it takes effect once every request already issued to the pages has completed. -/
def execKeepFree (q : QueueId) (n : Nat) (s : State) : Out :=
  commit s (withDesc q n 0x31 (fun s d =>
    match s.wholePages d.ctx (d.f 0 8) (d.f 8 8) with
    | none => s.rejectDesc q n kAddr
    | some ps =>
      if ps.any (fun p => !(s.openOn p).isEmpty) then s
      else ((s.forAll ps State.freePage).replan.pumpKeeps).completeFree q n (d.f 0 8) (d.f 8 8)))

/-- The pin wish of a page changed (R151, R152); `full`: an earlier page of the request did not fit the quota. -/
def State.pinPage (s : State) (pin : Nat) (full : Bool) (p : Page) : State × Bool :=
  let k := s.keeper
  let k1 := { k with pinned := k.pinned.filter (fun b => b != p.base), demoted := k.demoted.filter (fun b => b != p.base) }
  let s1 := { s with keeper := k1 }.setPage { p with pin := 0 }
  let fits := !full && decide (s1.pinnedFrames + p.frames + 16 * s1.reservations ≤ 16 * s1.quota)
  if pin = 2 ∧ !fits then
    ({ s1 with keeper := { s1.keeper with demoted := s1.keeper.demoted ++ [p.base] } }.setPage { p with pin := 3 }, true)
  else if pin = 2 then ({ s1 with keeper := { s1.keeper with pinned := s1.keeper.pinned ++ [p.base] } }.setPage { p with pin := 2 }, false)
  else (s1.setPage { p with pin := pin }, false)

/-- R152, R176, KEEP_PIN: pages are pinned in ascending address order up to the quota, the rest are preferred. -/
def execKeepPin (q : QueueId) (n : Nat) (s : State) : Out :=
  commit s (withDesc q n 0x32 (fun s d =>
    match s.wholePages d.ctx (d.f 0 8) (d.f 8 8) with
    | none => s.rejectDesc q n kAddr
    | some ps =>
      let s1 := (ps.foldl (fun (x : State × Bool) p => x.1.pinPage (d.f 22 1) x.2 p) (s, false)).1
      let dem := (ps.filter (fun p => (s1.pageAt p.base).any (fun x => x.pin == 3)))
      let fr := dem.foldl (fun n p => n + p.frames) 0
      let s2 := if dem.isEmpty then s1
        else (s1.bump oDemotions dem.length).event 0x2421 srcKeeper [(2, d.ctx), (4, mib (d.f 8 8 / 65536 - fr)), (4, mib fr)]
      s2.replan.complete q n 0 0))

/-- A hint of a kind on whole pages of the context (R176, R177). -/
def hint (q : QueueId) (n kind : Nat) (f : State → Desc → Page → State) (s : State) : State :=
  withDesc q n 0x33 (fun s d =>
    if d.f 20 1 ≠ kind then s
    else
      let c := s.keeperCheck d
      if c ≠ 0 then s.rejectDesc q n c
      else (s.forAll (s.pagesIn (d.f 0 8) (d.f 0 8 + d.f 8 8)) (fun s p => f s d p)).complete q n 0 0) s

/-- R188: kind 0, return now. -/
def execHintReturnNow (q : QueueId) (n : Nat) (s : State) : Out := commit s (hint q n 0 (fun s _ p => s.startReturn p))

/-! ## Off-load -/

/-- The lowest run of n consecutive free slots of a lent region. -/
def State.pickSlots (s : State) (n : Nat) : Option Nat :=
  s.host.pool.findSome? (fun e =>
    if e.2.state ≠ 1 then none
    else ((0 :: e.2.used.map (fun u => u % 2 ^ 24 + 1)).filter (fun a =>
        decide (a + n ≤ e.2.slots) && e.2.used.all (fun u => decide (u % 2 ^ 24 < a) || decide (a + n ≤ u % 2 ^ 24)))).foldl
      (fun (m : Option Nat) a => match m with
        | none => some (e.1 * 2 ^ 24 + a)
        | some b => some (min b (e.1 * 2 ^ 24 + a))) none)

/-- May a page be off-loaded (R185)? -/
def State.offloadable (s : State) (p : Page) : Bool :=
  (p.cls == 2 || (p.cls == 3 && p.offok)) && p.loc == 0 && p.pin != 2 && !p.unread && !p.mig &&
    !s.keeper.offs.any (fun o => o.page == p.base)

/-- Off-load order: class A first, lowest key, lowest address (R185). -/
def offBefore (p q : Page) : Bool :=
  if p.cls ≠ q.cls then p.cls < q.cls else if p.okey ≠ q.okey then p.okey < q.okey else p.base < q.base

/-- Slots taken and an off-load begun, once host memory may be reached (R186, R336): every block read, with what HBM's check finds in `bad` (R170), and written with its CRC-32C kept,
then the confirming read. -/
def State.beginOffload (s0 : State) (p : Page) (first : Nat) (bad : List BadBytes) : State :=
  if !s0.hostOpen then
    let s1 := s0.hostWait
    if s1.keeper.offWaits.elem p.base then s1 else { s1 with keeper := { s1.keeper with offWaits := s1.keeper.offWaits ++ [p.base] } }
  else
  let s := s0.forAll (bad.filter (fun b => decide (p.base / 64 ≤ b.sector) && decide (b.sector < (p.base + p.bytes) / 64))) State.checkRead
  let slots := (List.range p.frames).map (fun i => first + i)
  let r := first / 2 ^ 24
  let reg := Tab.get s.host.pool {} r
  let s1 := { s with host := { s.host with pool := Tab.set s.host.pool {} r { reg with used := reg.used ++ slots } } }
  let s2 := (s1.modPool 3 (fun b => b.fly p.frames)).setPage { p with mig := true }
  let s3 := { s2 with keeper := { s2.keeper with offs := s2.keeper.offs ++ [({ page := p.base, slots := slots } : Offload)] } }
  let s4 := s3.forAll (List.range p.frames) (fun s i =>
    let bs := s.readMem (p.base + i * 65536) 65536
    ({ s with keeper := { s.keeper with hostCrc := Tab.set s.keeper.hostCrc 0 (first + i) (BitVec.ofNat 32 (crc32c bs)) } }).emit
      (.hostWrite (s.slotAddr (first + i)) bs))
  s4.emit (.hostRead (s.slotAddr (first + p.frames - 1) + 65528) 8)

/-- Are the slots a free consecutive run of one lent region? -/
def State.slotsFree (s : State) (l : List Nat) : Bool :=
  match l with
  | [] => false
  | a :: _ =>
    let reg := Tab.get s.host.pool {} (a / 2 ^ 24)
    l == (List.range l.length).map (fun i => a + i) && reg.state == 1 && decide (a % 2 ^ 24 + l.length ≤ reg.slots) &&
      l.all (fun k => !reg.used.elem k)

/-- R185: off-loading is on, the allocated share has reached the watermark, or is still above two points below it while a run goes on, and the
page is the first in order. -/
def execOffloadStart (page : Nat) (i : OffIn) (s : State) : Out :=
  commit s (fun s =>
    match s.pageAt page with
    | none => s
    | some p =>
      let mark := s.obj (objKey 0x2400 6)
      let share := s.keeper.hbm.allocated * 100
      let due := if s.keeper.offRun then decide ((mark - 2) * s.keeper.hbm.total < share) else decide (mark * s.keeper.hbm.total ≤ share)
      let first := (s.allPages.filter s.offloadable).all (fun x => x.base == p.base || offBefore p x)
      if s.obj (objKey 0x2400 7) = 1 ∧ due ∧ s.offloadable p ∧ first ∧ s.slotsFree i.slots ∧ i.slots.length = p.frames ∧ s.mayMove 2 3 then
        ({ s with keeper := { s.keeper with offRun := true } }).beginOffload p (i.slots.headD 0) i.bad
      else s)

/-- R185, R186: kind 1, off-load now: eligible pages, while host slots are free. -/
def execHintOffloadNow (q : QueueId) (x : OffHint) (s : State) : Out :=
  commit s (hint q x.n 1 (fun s _ p =>
    if s.obj (objKey 0x2400 7) = 1 ∧ s.offloadable p ∧ s.mayMove 2 3 then
      (match s.pickSlots p.frames with
        | some f => s.beginOffload p f x.bad
        | none => s)
    else s))

/-- The off-loads that waited for host memory start, of pages that may still go. -/
def State.pumpOffloads (s : State) : State :=
  let l := s.keeper.offWaits
  ({ s with keeper := { s.keeper with offWaits := [] } } : State).forAll l (fun s b =>
    match s.pageAt b with
    | some p =>
      if s.offloadable p ∧ s.mayMove 2 3 then
        (match s.pickSlots p.frames with
          | some f => s.beginOffload p f []
          | none => s)
      else s
    | none => s)

/-- R176: kind 2, the order key of class A and K pages. -/
def execHintSetOkey (q : QueueId) (n : Nat) (s : State) : Out :=
  commit s (hint q n 2 (fun s d p => s.setPage { p with okey := d.f 28 4 }))

/-- R189: kind 3, the cursor touches the pages of its range. -/
def execHintCursor (q : QueueId) (n : Nat) (s : State) : Out :=
  commit s (hint q n 3 (fun s _ p => if p.cls = 2 ∨ p.cls = 3 then s.prefetchBelow p.ctx p.okey s.keeper.pages.length else s))

/-- 2400:0E: MiB off-loaded. -/
def State.countOff (s : State) : State :=
  s.setObj (objKey 0x2400 0x0E) (mib ((s.allPages.filter (fun p => p.loc == 3)).foldl (fun n p => n + p.frames) 0))

/-- R186: the confirming read is back: the leaf names the host slots and the device frame is released, once every request issued under the old
leaf has completed (R169). Where the region is being revoked, the page returns (R343). -/
def execOffloadComplete (page : Nat) (s : State) : Out :=
  commit s (fun s =>
    match s.keeper.offs.find? (fun o => o.page == page), s.pageAt page with
    | some o, some p =>
      if !(s.openOn p).isEmpty then s
      else
      let s1 := { s with keeper := { s.keeper with offs := s.keeper.offs.filter (fun x => x.page != page) } }
      let s2 := (s1.modPool 3 (fun b => b.land p.frames)).modPool (poolOf p.loc) (fun b => b.release p.frames)
      let s3 := ({ s2 with cols := dropLines s2.cols p.base (p.base + p.bytes) }.setPage
        { p with loc := 3, place := o.slots.headD 0, mig := false }).dropTlb (pageKey p.base)
      let s4 := (s3.countOff.replan).pumpKeeps
      if (Tab.get s.host.pool {} (o.slots.headD 0 / 2 ^ 24)).state = 2 then
        (match s4.pageAt page with
          | some g => s4.startReturn g
          | none => s4)
      else s4
    | _, _ => s)

/-- R187: 100 ms passed: the off-load is cancelled. -/
def execOffloadTimeout (page : Nat) (s : State) : Out := commit s (fun s => (s.cancelOffload page).pumpKeeps)

/-! ## Returns -/

/-- Every block of a return is back or lost: the leaf names the device frame (R188). -/
def State.finishReturn (s : State) (p : Page) (r : Return) : State :=
  if r.home.length + r.lost.length < p.frames then s
  else
    let k := { s.keeper with
      rets := s.keeper.rets.filter (fun x => x.page != p.base)
      winReturns := s.keeper.winReturns + 1
      hostCrc := (List.range p.frames).foldl (fun t i => Tab.set t 0 (p.place + i) 0) s.keeper.hostCrc }
    let s1 := { s with keeper := k }.releaseSlots p.place p.frames
    let s2 := (s1.modPool (poolOf r.loc) (fun b => b.land p.frames)).setPage
      { p with loc := r.loc, place := r.frame, mig := false, unread := true }
    (((s2.dropTlb (pageKey p.base)).countOff).pumpReturns).pumpPeers

/-- R188: a block's read completes, with its data or in error. -/
def State.returnBlock (page block : Nat) (data : Option (List Byte)) (s : State) : State :=
  match s.keeper.rets.find? (fun r => r.page == page), s.pageAt page with
  | some r, some p =>
    if p.frames ≤ block ∨ r.home.elem block ∨ r.lost.elem block then s
    else
      let a := p.base + block * 65536
      let crc := Tab.get s.keeper.hostCrc 0 (p.place + block)
      let good := data.filter (fun b => b.length == 65536 && BitVec.ofNat 32 (crc32c b) == crc)
      let set (s : State) (r : Return) : State :=
        { s with keeper := { s.keeper with rets := s.keeper.rets.map (fun x => if x.page = page then r else x) } }
      match good with
      | some b =>
        let s1 := { s with mem := Tab.writeBytes s.mem a b }
        let s2 := if r.retried.elem block then s1.event 0x2440 srcKeeper [(2, p.ctx), (8, a)] else s1
        let r1 := { r with home := r.home ++ [block] }
        (set s2 r1).finishReturn p r1
      | none =>
        if r.retried.elem block then
          let s1 := { s with poison := (List.range 1024).foldl (fun t i => Tab.set t false (a / 64 + i) true) s.poison }
          let s2 := (s1.event 0x2441 srcKeeper [(2, p.ctx), (8, a), (1, p.cls)]).when (p.cls == 2)
            (fun s => s.bump (objKey 0x2400 0x0C) 1)
          let r1 := { r with lost := r.lost ++ [block] }
          (set s2 r1).finishReturn p r1
        else
          ((set s { r with retried := r.retried ++ [block] }).bump (objKey 0x2400 0x0D) 1).emit
            (.hostRead (s.slotAddr (p.place + block)) 65536)
  | _, _ => s

/-- R190: a window of 1,024 returns ends. -/
def execPrefetchWindowEnd (s : State) : Out :=
  commit s (fun s =>
    let k := s.keeper
    if k.winReturns < 1024 then s
    else
      let th := s.obj (objKey 0x2400 0x10)
      let d := s.obj oPrefetch
      let k0 := { k with winReturns := k.winReturns - 1024, winWasted := 0 }
      if th * 1024 < k.winWasted * 100 then
        ({ s with keeper := { k0 with calm := 0 } }.setObj oPrefetch (d / 2)).event 0x2443 srcKeeper [(4, k.winWasted), (2, d / 2)]
      else if k.winWasted * 200 ≤ th * 1024 then
        if k.calm = 3 then { s with keeper := { k0 with calm := 0 } }.setObj oPrefetch (min (2 * d + 1) (s.obj (objKey 0x2400 5)))
        else { s with keeper := { k0 with calm := k.calm + 1 } }
      else { s with keeper := { k0 with calm := 0 } })

/-! ## Migration and the books -/

/-- Is a page's deck bank being drained (R135)? -/
def State.leavesBank (s : State) (p : Page) : Bool :=
  (p.loc == 1 || p.loc == 2) &&
    Tab.get (s.col (p.place / 2 ^ 23)).draining 0xFF (bitsOf p.place 22 21 * 17 + bitsOf p.place 20 16) != 0xFF

/-- Where a migration that names a place may take a page: out of a bank being drained to the spare that takes its place, else within its role
(R135, R157); out of a hot bank to an allowed bank of the column (R158); to a new home column (R158); else as Table 06.7 places it (R181). -/
def State.moveTo (s : State) (p : Page) (loc place : Nat) : Option Nat :=
  let k := s.col (p.place / 2 ^ 23)
  let t := bitsOf p.place 22 21
  let wish := s.keeper.rehome.find? (fun e => e.1 == p.base)
  let home := ((wish.bind Prod.snd).getD p.hint)
  let deck := loc == p.loc && s.deckFree loc place p.frames
  let byTable := (s.placeBy p.want p.pin p.cls p.frames home (some place)).filter (fun x => x.1 == loc &&
    (if loc = 0 then x.2 % 2 ^ 23 == place % 2 ^ 23 else x.2 == place))
  if s.leavesBank p && Tab.get k.taking 0 t == bitsOf p.place 20 16 + 1 then
    let d := deckPlace (p.place / 2 ^ 23) t 16 0 + p.place % 2 ^ 16
    if loc = p.loc ∧ place = d ∧ s.deckOpen d p.frames then some d else none
  else if s.leavesBank p && deck then some place
  else if wish == some (p.base, none) then
    (if deck && place / 2 ^ 23 == p.place / 2 ^ 23 && place / 2 ^ 16 != p.place / 2 ^ 16 && s.placeAllowed place then some place else none)
  else if loc = 0 ∧ p.loc = 2 ∧ p.pin = 0 ∧ p.want = 0 ∧ s.stashRoom 0 ∧ !s.leavesBank p then none
  else byTable.map Prod.snd

/-- R191, R193: a destination frame taken in flight, mig set; deferred pools and 256 migrations hold it. A retained copy gives way to a
pinned page (R183). -/
def execMigrationStart (page loc place : Nat) (s : State) : Out :=
  commit s (fun s0 =>
    match s0.pageAt page with
    | none => s0
    | some p =>
      let i := poolOf loc
      let s := if loc = 1 ∧ p.pin = 2 then s0.dropRetained (fun r => !placesMeet place p.frames (r.place, r.frames)) else s0
      match s.moveTo p loc place with
      | none => s0
      | some d =>
        if p.base = page ∧ !p.mig ∧ p.loc ≠ 3 ∧ loc ≤ 2 ∧ p.frames ≤ (s.pool i).free ∧ s.mayMove i (poolOf p.loc) then
          let m : Migration := { page := page, loc := loc, place := d, frames := p.frames }
          let s1 := (s.modPool i (fun b => b.fly p.frames)).setPage { p with mig := true }
          { s1 with keeper := { s1.keeper with migs := s1.keeper.migs ++ [m] } }
        else s0)

/-- What the checks of a migration's source find (R170, R195): of HBM sectors, and of 256 B deck sectors (address, uncorrectable). -/
def State.sourceErrors (s : State) (p : Page) (bad : List BadBytes) (deck : List (Nat × Bool)) : State :=
  if p.loc = 0 then
    s.forAll (bad.filter (fun b => decide (p.base / 64 ≤ b.sector) && decide (b.sector < (p.base + p.bytes) / 64))) State.checkRead
  else if p.loc = 1 ∨ p.loc = 2 then
    s.forAll (deck.filter (fun e => decide (p.base ≤ e.1) && decide (e.1 < p.base + p.bytes))) (fun s e => s.deckError p e.1 (some e.2))
  else s

/-- R169, R191: the copy of the blocks up to `block` is done, with the errors that the source's checks found; with the last the leaf switches;
an unbacked page stays so in HBM. -/
def State.copyDone (page block : Nat) (bad : List BadBytes) (deck : List (Nat × Bool)) (s : State) : State :=
  match s.keeper.migs.find? (fun m => m.page == page && !m.switched), s.pageAt page with
  | some m, some p =>
    let s0 := s.sourceErrors p bad deck
    let put (s : State) (y : Migration) : State :=
      { s with keeper := { s.keeper with migs := s.keeper.migs.map (fun (x : Migration) => if x.page = page then y else x) } }
    if block + 1 < p.frames then (put s0 { m with copied := max m.copied (block + 1) }).pumpPeers
    else
      let m1 := { m with switched := true, srcLoc := p.loc, srcPlace := p.place, olds := s.openOn p }
      let s1 := (s0.modPool (poolOf m.loc) (fun b => b.land p.frames)).setPage
        { p with loc := if p.loc = 4 ∧ m.loc = 0 then 4 else m.loc, place := m.place }
      let s2 := put { s1 with
        keeper := { s1.keeper with rehome := s1.keeper.rehome.filter (fun e => e.1 != page) }
        cols := dropLines s1.cols p.base (p.base + p.bytes) } m1
      (s2.dropTlb (pageKey p.base)).pumpPeers
  | _, _ => s

/-- R169, R191, Table 06.8: the source frame is released once the requests issued under the old leaf have completed; a row of the retirement
list whose last page has gone is retired (R195). -/
def execMigrationSourceRelease (page : Nat) (s : State) : Out :=
  commit s (fun s =>
    match s.keeper.migs.find? (fun m => m.page == page && m.switched), s.pageAt page with
    | some m, some p =>
      if m.olds.any (fun e => (s.openOn p).elem e) then s
      else
        let s1 := (s.modPool (poolOf m.srcLoc) (fun b => b.release p.frames)).setPage { p with mig := false }
        ({ s1 with keeper := { s1.keeper with migs := s1.keeper.migs.filter (fun (x : Migration) => x.page != page) } }.replan).pumpKeeps
    | _, _ => s)

/-- Allocated frames by the mapping book (R192). -/
def State.mapped (s : State) (i : Nat) : Nat :=
  let pages := (s.allPages.filter (fun p => poolOf p.loc == i)).foldl (fun n p => n + p.frames) 0
  let src := (s.keeper.migs.filter (fun m => m.switched && poolOf m.srcLoc == i)).foldl (fun n m =>
    n + ((s.pageAt m.page).map Page.frames).getD 0) 0
  let held := (s.keeper.shadows.map (fun (e : Shadow) => (poolOf e.loc, e.frames)) ++
    s.keeper.flipped.map (fun (e : Flipped) => (poolOf e.loc, e.frames))).foldl (fun n e => n + (if e.1 = i then e.2 else 0)) 0
  pages + src + held + (if i = 0 then s.keeper.retained.foldl (fun n r => n + r.frames) 0 else 0)

/-- Does a migration of the pool run: into it or out of it, off-loads and returns among them (R191, R193)? -/
def State.poolBusy (s : State) (i : Nat) : Bool :=
  let at_ (page : Nat) : Bool := (s.pageAt page).any (fun p => poolOf p.loc == i)
  s.keeper.migs.any (fun m => poolOf m.loc == i || (if m.switched then poolOf m.srcLoc == i else at_ m.page)) ||
    s.keeper.rets.any (fun r => poolOf r.loc == i || i == 3) || s.keeper.offs.any (fun o => i == 3 || at_ o.page)

/-- R193: the books of a pool are checked while no migration of it runs; a failure starts a rebuild in SERVICE. -/
def execFrameBookCheck (pool : Fin 4) (s : State) : Out :=
  commit s (fun s =>
    if s.poolBusy pool then s
    else
      let p := s.pool pool
      let s1 := { s with keeper := { s.keeper with deferred := Tab.set s.keeper.deferred false pool false } }
      if p.free + p.allocated + p.inflight = p.total ∧ p.allocated = s.mapped pool then s1
      else ((s1.event 0x2460 srcKeeper [(1, pool), (4, p.total), (4, p.free), (4, p.allocated), (4, p.inflight)]).bump
        (objKey 0x2400 0x13) 1).beginService (chgFrames pool))

/-- R193: 1 s without a check: new migrations of the pool are deferred. -/
def execFrameBookCheckOverdue (pool : Fin 4) (s : State) : Out :=
  commit s (fun s => { s with keeper := { s.keeper with deferred := Tab.set s.keeper.deferred false pool true } })

/-- R193: 10 ms of deferral passed. -/
def execMigrationDeferralExpire (pool : Fin 4) (s : State) : Out :=
  commit s (fun s => { s with keeper := { s.keeper with deferred := Tab.set s.keeper.deferred false pool false } })

/-! ## Patrol, retirement list, eyes -/

/-- What SECDED makes of wrong bytes: none where no bit of a 64-bit word differs, an uncorrectable error where two or more do (R141). -/
def secdedOf (w : List (Nat × Byte)) : Option Bool :=
  let bits (i : Nat) : Nat := ((List.range 64).filter (fun j => (wrongAt w (8 * i + j / 8)).toNat.testBit (j % 8))).length
  if (List.range 8).any (fun i => decide (2 ≤ bits i)) then some true
  else if (List.range 8).any (fun i => bits i == 1) then some false
  else none

/-- R174: a patrol read of an allocated HBM sector, or of a resident deck line of class W, S or K, acts as a demand read would,
without a fault. -/
def execPatrolRead (addr : Nat) (bad : List BadBytes) (s : State) : Out :=
  commit s (fun s => s.forAll (bad.filter (fun b => b.sector == addr / 64)) (fun s b =>
    match s.pageAt (b.sector * 64) with
    | some p => if (p.loc = 1 ∨ p.loc = 2) ∧ symbolClass p.cls then s.deckError p (b.sector * 64) (secdedOf b.wrong) else s.checkRead b
    | none => s))

/-- R196: the held entries are written, or stay held. -/
def execRetirementFlashRetry (ok : Bool) (s : State) : Out :=
  commit s (fun s =>
    if ok then { s with flash := { s.flash with
      retire := s.flash.retire ++ s.flash.heldRetire, heldRetire := [], retireFailed := false } }
    else s)

/-- Every entry of the list, held ones too. -/
def State.retireAll (s : State) : List RetireEntry := s.flash.retire ++ s.flash.heldRetire

/-- R197: entries confirmed up to a number. -/
def State.wrConfirm (s : State) (v : Nat) : Wr :=
  if s.retireAll.any (fun e => decide (v ≤ e.seq)) ∨ v = 0 then
    let f (e : RetireEntry) := if e.seq ≤ v then { e with confirmed := true } else e
    ({ s with flash := { s.flash with retire := s.flash.retire.map f, heldRetire := s.flash.heldRetire.map f } }, dOk)
  else (s, dRange)

/-- R197, a write to 2402:03. -/
def execConfirmThroughWrite (sess v : Nat) (s : State) : Out := writeNum sess (objKey 0x2402 3) v (fun s => s.wrConfirm v) s

/-- R197: a confirmed entry is to be removed at the next start-up: event 0x2435. -/
def State.wrRemove (s : State) (v : Nat) : Wr :=
  if s.retireAll.any (fun e => e.seq == v && e.confirmed) then
    ((({ s with flash := { s.flash with removed := s.flash.removed ++ [v] } }).setObj (objKey 0x2402 4) v).event 0x2435 srcKeeper [(4, v)], dOk)
  else (s, dRange)

/-- R197, a write to 2402:04. -/
def execRemoveEntryWrite (sess v : Nat) (s : State) : Out := writeNum sess (objKey 0x2402 4) v (fun s => s.wrRemove v) s

/-- R204: a channel's eyes are re-centred, or keep their setting. -/
def execEyeRecentre (stack : StackId) (ch : Nat) (ok : Bool) (s : State) : Out :=
  commit s (fun s =>
    if s.stacks.elem stack.val && !ok && decide (ch < 32) then s.event 0x2453 (srcStack stack) [(1, stack), (1, ch)] else s)

end Sys2Proof.Machine
end

