-- ==== Sys2Proof/Machine/Sched.lean ====
section
/-! DEFINITION. Queues, contexts, sequences, batching, snapshots (R208–R238). -/

namespace Sys2Proof.Machine

def oSlice : Nat := objKey 0x2500 2
def oCtxs : Nat := objKey 0x2500 5
def oSlots : Nat := objKey 0x2500 6

/-! ## Queues -/

/-- The bits of q_ctl that are registers. -/
def ctlBits (v : W64) : W64 := v &&& 0x801F0300

/-- The configuration checks of R209. -/
def Queue.cfgOk (x : Queue) : Bool :=
  decide (4 ≤ x.lsz) && decide (x.lsz ≤ 16) && (x.ver == 1 || x.ver == 2) &&
    x.base.toNat / 64 * 64 % (64 * 2 ^ x.lsz) == 0 && x.cqBase.toNat / 16 * 16 % (x.recSize * 2 ^ x.lsz) == 0

/-- May BAR registers be reached (R336)? -/
def State.barOpen (s : State) : Bool := s.host.memSpace

/-- Is an access a posted write? -/
def Posted.writes (x : Posted) : Bool :=
  match x with
  | .bar2 _ _ data _ => data.isSome
  | .reg _ _ v _ => v.isSome

/-- An access of the host held. -/
def State.holdPosted (s : State) (x : Posted) : State := { s with host := { s.host with posted := s.host.posted ++ [x] } }

/-- A BAR0 access acted on, in the order in which posted writes arrived: not before one that waits (R338). DESIGN CHOICE: a read comes behind
them too (assumption 136). -/
def State.inOrder (s : State) (off size : Nat) (v : Option W64) (peers : List PeerRead) (f : State → State) : State :=
  if s.host.posted.any Posted.writes then s.holdPosted (.reg off size v peers) else f s

/-- The offset of a queue's register (Table 11.4). -/
def queueReg (q off : Nat) : Nat := q * 0x1000 + off

/-- R209: en written 1 to an off queue in READY or SERVICE: it runs with P, C and D at 0, or halts with 0x0503. -/
def State.enableQueue (s : State) (q : Nat) (ctl : W64) : State :=
  let x := s.queue q
  if x.state ≠ 0 ∨ !s.running then s
  else
    let x1 := { x with ctl := ctlBits ctl }
    if x1.cfgOk then s.setQueue q { x1 with state := 1, halt := 0, p := 0, c := 0, d := 0, descs := [] }
    else (s.setQueue q x1).haltQueue q 0x0503

/-- R209: a write of q_ctl with en = 1. -/
def execQueueEnable (q : QueueId) (ctl : W64) (s : State) : Out :=
  commit s (fun s => if ctl.toNat.testBit 31 ∧ s.barOpen then s.inOrder (queueReg q 8) 8 ctl [] (fun s => s.enableQueue q ctl) else s)

/-- en written 0: draining, or off where nothing is left (R210). -/
def State.disableQueue (s : State) (q : Nat) : State :=
  let x := s.queue q
  if x.state = 0 ∨ x.state = 3 then s
  else s.setQueue q { x with ctl := x.ctl &&& ~~~(0x80000000 : W64), state := if x.descs.isEmpty then 0 else 3, halt := 0 }

/-- q_ctl written with en 0: the fields are taken while en is 0, else the queue is disabled (R209, R210). -/
def State.queueCtlOff (s : State) (q : Nat) (ctl : W64) : State :=
  let x := s.queue q
  if x.ctl.toNat.testBit 31 ∨ x.state = 2 then s.disableQueue q else s.setQueue q { x with ctl := ctlBits ctl &&& ~~~(0x80000000 : W64) }

/-- R210: en written 0. -/
def execQueueDisable (q : QueueId) (ctl : W64) (s : State) : Out :=
  commit s (fun s => if ctl.toNat.testBit 31 ∨ !s.barOpen then s else s.inOrder (queueReg q 8) 8 ctl [] (fun s => s.queueCtlOff q ctl))

/-- R211: a doorbell write to a running queue. -/
def State.ringDoorbell (s : State) (q : Nat) (v : W64) : State :=
  let x := s.queue q
  let p := v.toNat % 2 ^ 32
  if x.state ≠ 1 then s
  else if x.size < wrap32 (p + 2 ^ 32 - wrap32 x.d) ∨ 2 ^ 31 ≤ wrap32 (p + 2 ^ 32 - x.p) then s.haltQueue q 0x0501
  else s.setQueue q { x with p := p }

/-- R211. -/
def execDoorbell (q : QueueId) (v : W64) (s : State) : Out := 
  commit s (fun s => if s.barOpen then s.inOrder (queueReg q 0x20) 8 v [] (fun s => s.ringDoorbell q v) else s)

/-- A sequence bound to the snapshot at an address (R234). -/
def State.bindSnap (s : State) (ctx dst : Nat) : State :=
  { s with sched := { s.sched with snaps := s.sched.snaps.map (fun (x : Snap) =>
      if x.ctx = ctx ∧ x.dst = dst then { x with bound := x.bound + 1 } else x) } }

/-- The address of the snapshot that a validated SEQ_START is bound to: kept in the body's res bytes 24 to 31 (R234). -/
def Desc.snapAt (d : Desc) : Nat := d.f 24 8

/-- Validation against the state: a format 1 context that is not open is opened (R238); an eval sequence binds its snapshot (R234). -/
def State.takeIn (s : State) (q : Nat) (d : Desc) : State :=
  let s1 := if d.fmt = 1 ∧ (s.ctx? d.ctx).isNone then
      ({ s with sched := { s.sched with ctxs := Tab.set s.sched.ctxs none d.ctx (some { prio := 1 }) } }).bump oCtxs 1
    else s
  let code := s1.stateCheck d
  let put (s : State) (d : Desc) : State :=
    { s.setQueue q { s.queue q with descs := (s.queue q).descs ++ [{ d with order := s.sched.nextOrder }] } with
      sched := { (s.setQueue q { s.queue q with descs := (s.queue q).descs ++ [{ d with order := s.sched.nextOrder }] }).sched with
        nextOrder := s.sched.nextOrder + 1 } }
  if code ≠ 0 then (put s d).rejectDesc q d.n code
  else if d.op = 0x10 ∧ d.eval then
    match s1.snapFor d.ctx (d.f 22 1) with
    | some x => (put s1 { d with body := d.body.take 24 ++ leBytes 8 x.dst ++ d.body.drop 32 }).bindSnap d.ctx x.dst
    | none => put s1 d
  else put s1 d

/-- C − D, which equals the descriptors in validation, waiting or running (R215). -/
def Queue.unfinished (x : Queue) : Nat := wrap32 (x.c + 2 ^ 32 - wrap32 x.d)

/-- May a queue's next descriptor be fetched: it runs, one is left, and its ring can be reached? -/
def State.canFetch (s : State) (q : Nat) : Bool :=
  let x := s.queue q
  x.state == 1 && x.c != x.p && (x.base.toNat.testBit 0 || s.hostOpen)

/-- The round-robin turn that a fetch of queue q takes, none where the turn is another queue's: at most 8 descriptors of a queue in its turn
(R213). DESIGN CHOICE (assumption 127): after reset the first turn goes to the lowest queue. -/
def State.turnFor (s : State) (q : Nat) : Option (Nat × Nat) :=
  let t := s.sched.turn.1
  let n := s.sched.turn.2
  let after (x : Nat) : Nat := (x + 255 - t) % 256
  if n < 8 ∧ s.canFetch t then (if q = t then some (t, n + 1) else none)
  else if s.sched.queues.all (fun e => !s.canFetch e.1 || decide (after q ≤ after e.1)) then some (q, 1)
  else none

/-- R212–R217, R336: the next descriptor is fetched and validated, in its queue's turn. -/
def execDescriptorFetch (q : QueueId) (data : Option (List Byte)) (s : State) : Out :=
  commit s (fun s =>
    let x := s.queue q
    if x.state ≠ 1 ∨ x.c = x.p ∨ !s.working then s
    else
      let at_ := x.base.toNat / 64 * 64 + x.c % x.size * 64
      let loc := x.base.toNat.testBit 0
      if !loc ∧ !s.hostOpen then s.hostWait
      else if loc ∧ (s.pageAt at_).any Page.away then s.forAll ((s.pageAt at_).toList) State.demandReturn
      else
        match s.turnFor q with
        | none => s
        | some turn =>
          let sT := { s with sched := { s.sched with turn := turn } }
          let s0 := if loc then sT else sT.emit (.hostRead (BitVec.ofNat 64 at_) 64)
          let bytes := if loc then
              (if (s.pageAt at_).isNone ∨ poisonedIn s.poison at_ 64 then none else some (s.readMem at_ 64))
            else data.filter (fun b => b.length == 64)
          match bytes with
          | none => s0.haltQueue q 0x0502
          | some b =>
            if x.unfinished ≠ x.descs.length then
              (s0.event 0x2525 srcSched [(1, bookNo 0 q), (4, x.unfinished), (4, x.descs.length)]).haltQueue q 0x0504
            else
              let (d, code) := parseDesc x.c x.ver b
              let s1 := s0.setQueue q { x with c := wrap32 (x.c + 1) }
              if code ≠ 0 then (s1.setQueue q { s1.queue q with descs := x.descs ++ [d] }).rejectDesc q d.n code
              else s1.takeIn q d)

/-- Is a command already that of a sequence or a batch? -/
def State.taken (s : State) (q n : Nat) : Bool :=
  s.sched.waiting.any (fun (x : Seq) => x.cmds.elem (q, n)) ||
    s.sched.slots.any (fun e => e.2.any (fun (x : Seq) => x.cmds.elem (q, n) || (x.batch.any (fun (b : Batch) => b.cmds.elem (q, n)))))

/-! ## Batching -/

/-- The row records of a ROWS command (R230). -/
def rowsOf (d : Desc) : List RowRec :=
  (List.range (d.f 2 1)).map (fun i =>
    { inA := BitVec.ofNat 64 (d.f 8 8 + i * d.f 4 4), outA := BitVec.ofNat 64 (d.f 16 8 + i * d.f 24 4), tag := d.tag, i := i })

def oFull : Nat := objKey 0x2500 9
def oCapped : Nat := objKey 0x2500 0x0A
def oSplit : Nat := objKey 0x2500 0x0B

/-- The open batch of a template closes (R228, R230): an instance waits, bound to its template's snapshot (R234), or ends at once where the
template runs nothing. -/
def State.closeBatch (s : State) (slot cause : Nat) : State :=
  match s.slot slot with
  | none => s
  | some t =>
    match t.batch with
    | none => s
    | some b =>
      let s1 := (s.setSlot slot (some { t with batch := none, nextBatch := t.nextBatch + 1 })).bump cause 1
      if t.cores = 0 ∨ t.tpc = 0 then s1.completeAll b.cmds 0 t.nextBatch
      else
        let x := { t with
          kind := 2, batch := none, cmds := b.cmds, rows := b.rows, number := t.nextBatch, template := slot, limits := b.limits
          since := s1.dev.ctlCyc, order := s1.sched.nextOrder }
        let s2 := if t.eval then s1.bindSnap t.ctx t.snap.toNat else s1
        { s2 with sched := { s2.sched with waiting := s2.sched.waiting ++ [x], nextOrder := s2.sched.nextOrder + 1 } }

/-- Is a ROWS command for a template waiting in validation among a queue's descriptors: one that has not joined a batch and does not stand
behind a fence that waits (R228)? `head` says that none stands before. -/
def rowsAhead (slot : Nat) (joined : Nat → Bool) : Bool → List Desc → Bool
  | _, [] => false
  | head, d :: r =>
    if d.fence && !head && !d.started then false
    else (d.op == 0x12 && d.f 0 2 == slot && !joined d.n) || rowsAhead slot joined false r

/-- Is a ROWS command for a template waiting in validation (R228)? -/
def State.rowsWaiting (s : State) (slot : Nat) : Bool :=
  s.sched.queues.any (fun e => rowsAhead slot (fun n => s.taken e.1 n) true e.2.descs)

/-- With a cap of 0, the open batches close for which no further ROWS command is waiting in validation (R228). -/
def State.closeCapless (s : State) : State :=
  let l := s.sched.slots.filter (fun e => e.2.any (fun (t : Seq) => t.kind == 1 && t.batch.any (fun b => b.cap == 0)))
  s.forAll (l.map Prod.fst) (fun s i => if s.rowsWaiting i then s else s.closeBatch i oCapped)

/-! ## Starting descriptors -/

/-- R213, R217: the oldest unstarted descriptor starts, behind its fence, after the checks again. -/
def execDescriptorStart (q : QueueId) (s : State) : Out :=
  commit s (fun s =>
    let x := s.queue q
    match x.descs.find? (fun d => !d.started) with
    | none => s
    | some d =>
      if d.fence ∧ x.descs.any (fun e => e.started) ∨ !s.working then s
      else
        let code := s.stateCheck d
        if code ≠ 0 then
          ((if d.op = 0x10 ∧ d.eval then s.letGo d.ctx d.snapAt else s).rejectDesc q d.n code).closeCapless
        else s.setQueue q { x with descs := x.descs.map (fun e => if e.n = d.n then { e with started := true } else e) })

/-! ## Contexts and tensors -/

/-- R219, CTX_OPEN. -/
def execCtxOpen (q : QueueId) (n : Nat) (s : State) : Out :=
  commit s (withDesc q n 0x01 (fun s d =>
    if (s.ctx? d.ctx).isSome then s.rejectDesc q n sCtxState
    else
      let c : Ctx := { league := d.f 0 4, prio := d.f 4 1, maxthr := d.f 6 2 }
      (({ s with sched := { s.sched with ctxs := Tab.set s.sched.ctxs none d.ctx (some c) } }).bump oCtxs 1).complete q n 0 0))

/-- The waiting sequences that meet a condition, cancelled. -/
def State.cancelWaiting (s : State) (f : Seq → Bool) : State :=
  let gone := s.sched.waiting.filter f
  let s1 := { s with sched := { s.sched with waiting := s.sched.waiting.filter (fun (x : Seq) => !f x) } }
  s1.forAll gone (fun s x => (s.completeAll x.cmds 0x0403 0).unbind x)

/-- A template removed: the commands of its open batch, and of its closed batches that have not started, are cancelled (R226). -/
def State.dropTemplate (s : State) (slot : Nat) (x : Seq) : State :=
  let s1 := s.cancelWaiting (fun y => y.kind == 2 && y.template == slot)
  let s2 := match x.batch with
    | some b => s1.completeAll b.cmds 0x0403 0
    | none => s1
  s2.freeSlot slot

/-- A sequence in a slot cancelled (R226): a template goes, a plain sequence's threads are stopped, an instance runs to its end. -/
def State.cancelSlot (s : State) (slot : Nat) : State :=
  match s.slot slot with
  | none => s
  | some x =>
    if x.kind = 1 then s.dropTemplate slot x
    else if x.kind = 0 then ((s.freeThreads x.live).endSeq slot 0x0403 0)
    else s

/-- The snapshots of a context go; one whose copy is still under way is cancelled (DESIGN CHOICE, assumption 128: R219 gives it no
status). -/
def State.dropSnaps (s : State) (ctx : Nat) : State :=
  let gone := s.sched.snaps.filter (fun (y : Snap) => y.ctx == ctx && !y.ready)
  ({ s with sched := { s.sched with snaps := s.sched.snaps.filter (fun (y : Snap) => y.ctx != ctx) } }).forAll gone
    (fun s y => s.complete y.cmd.1 y.cmd.2 0x0403 0)

/-- R219, CTX_CLOSE. -/
def execCtxClose (q : QueueId) (n : Nat) (s : State) : Out :=
  commit s (withDesc q n 0x02 (fun s d =>
    let x := d.ctx
    let s1 := (s.cancelWaiting (fun y => y.ctx == x)).forAll ((s.sched.slots.filter (fun e => e.2.any (fun (y : Seq) => y.ctx == x))).map Prod.fst) State.cancelSlot
    let s1 := s1.dropSnaps x
    let s2 := { s1 with sched := { s1.sched with tensors := dropRange s1.sched.tensors (x * 2 ^ 32) ((x + 1) * 2 ^ 32) } }
    let s3 := s2.forAll (s2.allPages.filter (fun p => p.ctx == x && decide (p.life ≤ 1))) State.freePage
    let s4 := { s3 with sched := { s3.sched with ctxs := Tab.set s3.sched.ctxs none x none } }
    (s4.setObj oCtxs s4.sched.ctxs.length).replan.completeFree q n 0 spaceEnd))

/-- R220, TENSOR_SET. -/
def execTensorSet (q : QueueId) (n : Nat) (s : State) : Out :=
  commit s (withDesc q n 0x03 (fun s d =>
    ({ s with sched := { s.sched with tensors := Tab.set s.sched.tensors 0xFF (d.ctx * 2 ^ 32 + d.f 0 4) (d.f 4 1) } }).complete q n 0 0))

/-! ## Placing sequences -/

/-- The lowest slot that is free. -/
def State.freeSlotNo (s : State) : Option Nat := (List.range 4096).find? (fun i => (s.slot i).isNone)

/-- R221, SEQ_START: a plain sequence waits for its placement; a template takes a slot. -/
def execSeqStart (q : QueueId) (n : Nat) (s : State) : Out :=
  commit s (withDesc q n 0x10 (fun s d =>
    if s.taken q n then s
    else
      let x : Seq := {
        ctx := d.ctx, kind := d.f 20 1, pc := BitVec.ofNat 64 (d.f 0 8), arg := BitVec.ofNat 64 (d.f 8 8), cores := d.f 16 1
        tpc := d.f 17 1, win := d.f 18 1, eng := d.f 19 1, eval := d.eval, shared := d.shared, restart := d.restart
        snap := BitVec.ofNat 64 d.snapAt, step := d.step, cmds := [(q.val, n)], prio := ((s.ctx? d.ctx).map Ctx.prio).getD 0
        order := d.order }
      if x.kind = 1 then
        match s.freeSlotNo with
        | none => s
        | some i =>
          let s1 := s.setSlot i (some { x with cmds := [] })
          ((s1.setObj oSlots s1.slotsUsed).complete q n 0 i).checkSched
      else if x.cores = 0 ∨ x.tpc = 0 then (s.complete q n 0 0).unbind x
      else { s with sched := { s.sched with waiting := s.sched.waiting ++ [{ x with since := s.dev.ctlCyc }] } }))

/-- FREE threads of a core (a thread the scheduler is freeing is not one). -/
def Core.freeThreads (k : Core) : List Nat := (List.range 16).filter (fun t => (k.thread t).st == .free && !(k.thread t).freeing)

/-- The window units in use. -/
def Core.windows (k : Core) : List (Nat × Nat) :=
  (k.threads.filter (fun e => e.2.st != .free)).map (fun e => (e.2.spBase, e.2.spSize))

/-- The lowest free window of n units beside those given. -/
def freeWindow (used : List (Nat × Nat)) (n : Nat) : Option Nat :=
  (List.range (65 - n)).find? (fun b => used.all (fun u => decide (b + n ≤ u.1) || decide (u.1 + u.2 ≤ b)))

/-- Windows for `m` threads. -/
def pickWindows (used : List (Nat × Nat)) (n : Nat) : Nat → Option (List Nat)
  | 0 => some []
  | m + 1 =>
    match freeWindow used n with
    | none => none
    | some b => (pickWindows ((b, n) :: used) n m).map (b :: ·)

/-- Engines free on a core. -/
def Core.freeEngines (k : Core) : List Nat :=
  let busy := k.threads.foldl (fun m e => if e.2.st != .free then m ||| e.2.seMask else m) 0
  (List.range 8).filter (fun e => !busy.testBit e)

/-- Is a core in service for new threads? -/
def State.coreUp (s : State) (c : Nat) : Bool := s.obj (oCore c 1) == 0 && s.obj (oCore c 2) == 0

/-- The threads that a sequence takes on a core: thread, window base, engine mask. -/
def State.fitCore (s : State) (x : Seq) (c : Nat) : Option (List (Nat × Nat × Nat)) :=
  let k := s.core c
  let ts := k.freeThreads.take x.tpc
  let es := k.freeEngines
  let ws := if x.shared then (freeWindow k.windows x.win).map (fun b => List.replicate x.tpc b) else pickWindows k.windows x.win x.tpc
  if !s.coreUp c ∨ ts.length < x.tpc ∨ es.length < x.tpc * x.eng then none
  else ws.map (fun ws => (List.range x.tpc).map (fun i =>
    (ts.getD i 0, ws.getD i 0, ((es.drop (i * x.eng)).take x.eng).foldl (fun m e => m ||| 2 ^ e) 0)))

/-- The cores that a sequence may use: the slice for eval, else those outside it (R222, R232). -/
def State.coresFor (s : State) (x : Seq) : List Nat :=
  let n := s.obj oSlice
  if x.eval then (List.range n).map (fun i => 96 - n + i) else List.range (96 - n)

/-- A core put before those with fewer FREE threads, and before equal ones of a higher number. -/
def putCore (s : State) (c : Nat) : List Nat → List Nat
  | [] => [c]
  | d :: r => if (s.core d).freeThreads.length < (s.core c).freeThreads.length then c :: d :: r else d :: putCore s c r

/-- Threads of a context that run, those of update sequences apart: the limit is the context's own (R222, R269). -/
def State.ctxThreads (s : State) (ctx : Nat) : Nat :=
  s.cores.foldl (fun n e => n + (e.2.threads.filter (fun t => t.2.st != .free && t.2.ctx == ctx &&
    !(s.slot t.2.seq).any (fun q => q.kind == 3))).length) 0

/-- FREE threads of a cluster's in-service cores, and how many of them a host sequence must leave (R269). -/
def State.clusterFree (s : State) (e : Nat) : Nat :=
  (((List.range 12).map (fun i => 12 * e + i)).filter s.coreUp).foldl (fun n c => n + (s.core c).freeThreads.length) 0
def oReserve : Nat := objKey 0x2720 4

/-- The step whose reductions are open (R249). -/
def State.openStep (s : State) : Nat := s.pass.lastHuddle + 1

def oDeadline : Nat := objKey 0x2700 2
def oPolicy : Nat := objKey 0x2700 3
def oQuorum : Nat := objKey 0x2700 5
def oDepth : Nat := objKey 0x2720 5

/-- The training settings as they stand now, for a step (R23, R251). -/
def State.newSample (s : State) (step : Nat) : StepSample :=
  { step := step, deadline := s.obj oDeadline, policy := s.obj oPolicy, quorum := s.obj oQuorum, reserve := s.obj oReserve
    depth := s.obj oDepth }

/-- The sample of a step: what its first contribution found, or else the objects now. -/
def State.sampleOf (s : State) (step : Nat) : StepSample :=
  (s.pass.samples.find? (fun (x : StepSample) => x.step == step)).getD (s.newSample step)

/-- May a host sequence take its threads on a core beside the cores already taken (R269)? -/
def State.leaves (s : State) (x : Seq) (taken : List Nat) (c : Nat) : Bool :=
  decide ((s.sampleOf s.openStep).reserve + x.tpc * (1 + (taken.filter (fun d => clusterOf d == clusterOf c)).length) ≤ s.clusterFree (clusterOf c))

/-- Does a sequence stay within its context's thread limit? -/
def State.roomFor (s : State) (x : Seq) : Bool :=
  match s.ctx? x.ctx with
  | some k => k.maxthr == 0 || decide (s.ctxThreads x.ctx + x.cores * x.tpc ≤ k.maxthr)
  | none => true

/-- The placement of a sequence now (R222): per core its threads; `slot`: it needs a free slot too. -/
def State.fit (s : State) (x : Seq) (slot : Bool := true) : Option (List (Nat × List (Nat × Nat × Nat))) :=
  let cs := ((s.coresFor x).filterMap (fun c => (s.fitCore x c).map (fun l => (c, l))))
  let order := cs.foldl (fun l c => putCore s c.1 l) []
  let pick := order.foldl (fun (l : List Nat) c => if l.length < x.cores && s.leaves x l c then l ++ [c] else l) []
  if pick.length < x.cores ∨ !s.roomFor x ∨ (slot ∧ s.freeSlotNo.isNone) then none
  else some (pick.filterMap (fun c => cs.find? (fun e => e.1 == c)))

/-- Bytes of the row-record block (R230). -/
def rowBlock (rows : List RowRec) : List Byte :=
  rows.flatMap (fun r => leBytes 8 r.inA.toNat ++ leBytes 8 r.outA.toNat ++ leBytes 4 r.tag ++ leBytes 2 r.i ++ leBytes 10 0) ++
    List.replicate (32 * (32 - rows.length)) 0

/-- One thread started with the values of R86, R223 and R230. -/
def State.startThread (s : State) (x : Seq) (slot core index coreIdx : Nat) (t : Nat × Nat × Nat) : State :=
  let inst := x.kind = 2
  let regs : List (Nat × W64) :=
    [(1, x.arg), (2, BitVec.ofNat 64 index), (3, BitVec.ofNat 64 (x.cores * x.tpc)),
     (4, if x.eval then x.snap else BitVec.ofNat 64 x.step), (5, BitVec.ofNat 64 coreIdx),
     (6, if inst then BitVec.ofNat 64 x.rows.length else 0), (7, if inst then BitVec.ofNat 64 (x.win * 65536 - 1024) else 0)]
  let th : Thread := {
    st := .ready, pc := x.pc, s := regs.foldl (fun m e => Tab.set m 0 e.1 e.2) [], spBase := t.2.1, spSize := x.win
    seMask := t.2.2, ctx := x.ctx, seq := slot }
  let s1 := s.modCore core (fun k => { k.setThread t.1 th with allParked := false })
  if inst then s1.modCore core (fun k => k.writeSp (t.2.1 * 65536 + x.win * 65536 - 1024) (rowBlock x.rows)) else s1

/-- Threads started on their cores, in the order of the sequence's core indices; the cores' sequencers then choose. -/
def State.startThreads (s : State) (x : Seq) (slot : Nat) (l : List (Nat × List (Nat × Nat × Nat))) : State :=
  (s.forAll ((List.range l.length).zip l) (fun s e =>
    s.forAll ((List.range e.2.2.length).zip e.2.2) (fun s t => s.startThread x slot e.2.1 (e.1 * x.tpc + t.1) e.1 t.2))).forAll
    (l.map Prod.fst) (fun s c => s.resched c)

/-- A sequence with the threads that a placement gives it. -/
def Seq.on (x : Seq) (l : List (Nat × List (Nat × Nat × Nat))) : Seq :=
  let placed := l.flatMap (fun e => e.2.map (fun t => (e.1, t.1, t.2.1, t.2.2)))
  { x with placed := placed, live := placed.map (fun p => (p.1, p.2.1)) }

/-- A sequence placed: its slot, its threads. -/
def State.placeSeq (s : State) (k : Nat) (x : Seq) (l : List (Nat × List (Nat × Nat × Nat))) : State :=
  match s.freeSlotNo with
  | none => s
  | some slot =>
    let s1 := { s with sched := { s.sched with waiting := s.sched.waiting.eraseIdx k } }.setSlot slot (some (x.on l))
    ((s1.setObj oSlots s1.slotsUsed).startThreads (x.on l) slot l).checkSched

/-- Has a sequence waited 2500:04 ms (R222)? -/
def State.starved (s : State) (x : Seq) : Bool :=
  decide ((x.limits.map Prod.snd).getD (s.obj (objKey 0x2500 4)) * 1200000 ≤ s.dev.ctlCyc - x.since)

/-- The waiting sequences with their places. -/
def State.waiters (s : State) : List (Nat × Seq) := (List.range s.sched.waiting.length).zip s.sched.waiting

/-- Does y go before x: of higher priority, or of the same and validated earlier (R222)? -/
def Seq.before (y x : Seq) : Bool := decide (x.prio < y.prio) || (y.prio == x.prio && decide (y.order < x.order))

/-- What the checks find against a waiting sequence at its start (R217); an instance has none of its own. -/
def State.startCode (s : State) (x : Seq) : Nat :=
  if x.kind ≠ 0 then 0
  else
    match x.cmds with
    | [(q, n)] => (((s.queue q).descs.find? (fun d => d.n == n)).map s.stateCheck).getD 0
    | _ => 0

/-- A waiting sequence that fails a check at its start: its record, as for a rejection (R217); S_SLICE of an instance is its commands'
status (R222). -/
def State.refuseSeq (s : State) (k : Nat) (x : Seq) (code : Nat) : State :=
  let s1 := { s with sched := { s.sched with waiting := s.sched.waiting.eraseIdx k } }
  (if x.kind = 0 then s1.forAll x.cmds (fun s c => s.rejectDesc c.1 c.2 code) else s1.completeAll x.cmds code 0).unbind x

/-- The single-core sequence that relief places on a core: the first in the order of R222 that fits its threads, engines and window room
(R231). -/
def State.reliefFor (s : State) (c : Nat) : Option (Nat × Seq) :=
  let l := s.waiters.filter (fun y => y.2.cores == 1 && s.startCode y.2 == 0 && (s.coresFor y.2).elem c && (s.fitCore y.2 c).isSome &&
    s.leaves y.2 [] c && s.roomFor y.2)
  if s.freeSlotNo.isNone then none else l.find? (fun x => l.all (fun y => !y.2.before x.2))

/-- R231: a relief placement onto a core whose all-parked signal is raised; 2500:08 counts it. -/
def State.relieve (s : State) (c : Nat) : State :=
  match s.reliefFor c with
  | some (k, x) => (s.placeSeq k x [(c, (s.fitCore x c).getD [])]).bump (objKey 0x2500 8) 1
  | none => s

/-- R91, R231: no thread READY or in RUN and at least one parked for 2,048 cycles: the core's all-parked signal rises, and the scheduler
places a waiting single-core sequence onto the core. -/
def execAllParkedSignal (c : CoreId) (s : State) : Out :=
  commit s (fun s =>
    let k := s.core c
    if (List.range 16).any (fun t => (k.thread t).st == .park) &&
        (List.range 16).all (fun t => (k.thread t).st != .ready && (k.thread t).st != .run) then
      let s1 := (s.setCore c { k with allParked := true }).bump (oCore c 0x15) (if k.allParked then 0 else 2048)
      if s.working then s1.relieve c else s1
    else s)

/-- R217, R222, R231: waiting item k is checked again, then placed where it is the first that fits by priority and validation order and none
before it has waited 2500:04 ms, or, as relief, on a core whose all-parked signal stands; one that the slice can never hold completes with
S_SLICE. -/
def execSequencePlace (k : Nat) (s : State) : Out :=
  commit s (fun s =>
    match s.sched.waiting[k]? with
    | none => s
    | some x =>
      if !s.working then s
      else if s.startCode x ≠ 0 then s.refuseSeq k x (s.startCode x)
      else if (s.coresFor x).length < x.cores then s.refuseSeq k x sSlice
      else
        match (s.coresFor x).find? (fun c => (s.core c).allParked && (s.reliefFor c).any (fun y => y.1 == k)) with
        | some c => s.relieve c
        | none =>
          match s.fit x with
          | none => s
          | some p =>
            if s.waiters.any (fun y => y.2.before x && ((s.fit y.2).isSome || s.starved y.2)) then s else s.placeSeq k x p)

/-- May a restarting sequence take the threads that it had: the cores in service, the windows and engines not taken since? -/
def State.placesFree (s : State) (x : Seq) : Bool :=
  x.placed.all (fun p =>
    let k := s.core p.1
    s.coreUp p.1 && k.windows.all (fun u => decide (p.2.2.1 + x.win ≤ u.1) || decide (u.1 + u.2 ≤ p.2.2.1)) &&
      (List.range 8).all (fun e => !p.2.2.2.testBit e || k.freeEngines.elem e))

/-- R225: every thread of a restarting sequence is FREE: it starts again in its slot with the same values, on the same threads where their
windows and engines are free, else where it fits (R222). -/
def execSequenceRestart (slot : SlotId) (s : State) : Out :=
  commit s (fun s =>
    match s.slot slot with
    | none => s
    | some x =>
      if x.restarting && x.placed.all (fun p => (s.thread p.1 p.2.1).st == .free && !(s.thread p.1 p.2.1).freeing) then
        let cores := (x.placed.map Prod.fst).dedup
        let old := cores.map (fun c => (c, (x.placed.filter (fun p => p.1 == c)).map Prod.snd))
        match if s.placesFree x then some old else s.fit x false with
        | none => s
        | some l =>
          let y := { x.on l with restarting := false }
          ((s.setSlot slot (some y)).startThreads y slot l).checkSched
      else s)

/-- R226, SEQ_CANCEL. -/
def execSeqCancel (q : QueueId) (n : Nat) (s : State) : Out :=
  commit s (withDesc q n 0x11 (fun s d =>
    let code := s.stateCheck d
    if code ≠ 0 then s.rejectDesc q n code else (s.cancelSlot (d.f 0 2)).complete q n 0 0))

/-! ## ROWS -/

/-- A batch opened by a command: the cap and the scheduler's other settings sampled (R23, R228). -/
def State.newBatch (s : State) (rs : List RowRec) (cmd : Nat × Nat) : Batch :=
  { cap := s.obj (objKey 0x2500 1), limits := some (s.obj (objKey 0x2500 3), s.obj (objKey 0x2500 4)), rows := rs, cmds := [cmd] }

/-- A ROWS command, checked again (R217), joins its template's open batch whole or opens the next (R228). -/
def State.joinRows (s : State) (q n : Nat) (d : Desc) : State :=
  let slot := d.f 0 2
  let rs := rowsOf d
  let code := s.stateCheck d
  if code ≠ 0 then s.rejectDesc q n code
  else if rs.isEmpty then s.complete q n 0 0
  else
    match s.slot slot with
    | none => s
    | some t =>
      let fits := t.batch.any (fun b => decide (b.rows.length + rs.length ≤ 32))
      let s1 := if fits then s else s.closeBatch slot oSplit
      let t1 := (s1.slot slot).getD t
      let b := match t1.batch with
        | some b => { b with rows := b.rows ++ rs, cmds := b.cmds ++ [(q, n)] }
        | none => s1.newBatch rs (q, n)
      let s2 := s1.setSlot slot (some { t1 with batch := some b })
      if b.rows.length = 32 then s2.closeBatch slot oFull
      else if (d.f 3 1).testBit 0 then s2.closeBatch slot oSplit
      else s2

/-- R228, ROWS. -/
def execRows (q : QueueId) (n : Nat) (s : State) : Out :=
  commit s (withDesc q n 0x12 (fun s d =>
    if s.taken q n then s else (s.joinRows q n d).closeCapless))

/-- R228: the open batch's cap expires. -/
def execBatchCapExpire (slot : SlotId) (s : State) : Out := commit s (fun s => s.closeBatch slot oCapped)

/-- R216, NOP. -/
def execNopCommand (q : QueueId) (n : Nat) (s : State) : Out := commit s (withDesc q n 0x00 (fun s _ => s.complete q n 0 0))

/-! ## Steps and snapshots -/

/-- The decision that this device holds for a step (R259): every step up to the last decided huddle has committed. -/
def State.decisionOf (s : State) (step : Nat) : Option Bool :=
  match s.pass.decisions.find? (fun d => d.1 == step) with
  | some d => some d.2
  | none => if step ≤ s.pass.lastHuddle ∧ s.pass.layout.isSome then some true else none

/-- Do pushes of a step still wait to be sent (R10, R261)? -/
def State.pushing (s : State) (step : Nat) : Bool :=
  s.fabric.links.any (fun e => e.2.queued.any (fun (p : Pkt) =>
    p.src == s.ownDev && p.type == 0x20 && fieldAt p.payload 0 1 == 3 && fieldAt p.payload 4 4 == step % 2 ^ 32))

/-- R10, R236, STEP_END: once the step has committed and flipped here and its pushes have gone, or it has been discarded. -/
def execStepEnd (q : QueueId) (n : Nat) (s : State) : Out :=
  commit s (withDesc q n 0x20 (fun s d =>
    match s.pass.layout, s.decisionOf d.step with
    | some l, some e =>
      if l.league ≠ s.leagueOf d.ctx then s
      else if e then (if d.step ≤ s.pass.fstep ∧ !s.pushing d.step then s.complete q n 0 0 else s)
      else s.complete q n 0x0404 0
    | _, _ => s))

/-- The allocation that a snapshot's pages are: class W, preferred, life 1, on a device, for the same context (R233). -/
def snapDesc (ctx size : Nat) (dev : Nat := 0xFFFF) : Desc :=
  { op := 0x30, ctx := ctx
    body := leBytes 8 size ++ leBytes 8 0 ++ leBytes 2 dev ++ leBytes 2 (if dev = 0xFFFF then 0 else ctx) ++ [0, 2, 1, 1, 0, 0xFF] ++ leBytes 22 0 }

/-- R233, R235, SNAPSHOT: new pages here, or asked of the device named. -/
def execSnapshot (q : QueueId) (n : Nat) (frames : List Nat) (s : State) : Out :=
  commit s (withDesc q n 0x28 (fun s d =>
    let size := d.f 8 8
    let dev := d.f 16 2
    let x : Snap := { ctx := d.ctx, id := d.f 18 1, src := d.f 0 8, size := size, dev := dev, cmd := (q.val, n) }
    if s.sched.snaps.any (fun (y : Snap) => y.cmd == (q.val, n)) then s
    else if size = 0 then s.complete q n 0 0
    else if dev = 0xFFFF then
      let (t, st, base) := s.allocate (snapDesc d.ctx size) d.ctx frames
      if st ≠ 0 then s.complete q n st 0
      else { t with sched := { t.sched with snaps := t.sched.snaps ++ [{ x with dst := (globalOf s.ownDev base).toNat }] } }
    else
      ({ s with sched := { s.sched with snaps := s.sched.snaps ++ [x] } }).askPeer 0 idKeep d.ctx (globalOf dev 0) (some (q.val, n))
        { type := 0x14, payload := (snapDesc d.ctx size dev).bytes }))

/-- A snapshot not delivered (R235): S_SHIP and event 0x2527. -/
def State.failSnap (s : State) (x : Snap) : State :=
  let s1 := { s with sched := { s.sched with snaps := s.sched.snaps.filter (fun (y : Snap) => y.cmd != x.cmd || y.ready) } }
  ((s1.freeSnap x).event 0x2527 srcSched [(2, x.ctx), (1, x.id), (2, x.dev)]).complete x.cmd.1 x.cmd.2 0x0405 0

/-- A snapshot sealed at its destination: installed and completed, an older one of the id replaced (R233, R234). -/
def State.installSnap (s : State) (x : Snap) : State :=
  let rest := s.sched.snaps.filter (fun (y : Snap) => y.cmd != x.cmd || y.ready)
  let old := rest.map (fun (y : Snap) => if y.ctx = x.ctx ∧ y.id = x.id ∧ y.ready then { y with replaced := true } else y)
  let keep := old.filter (fun (y : Snap) => !(y.replaced && y.bound == 0))
  let gone := old.filter (fun (y : Snap) => y.replaced && y.bound == 0)
  let s1 := { s with sched := { s.sched with snaps := keep ++ [{ x with ready := true }] } }
  (s1.forAll gone State.freeSnap).complete x.cmd.1 x.cmd.2 0 x.dst

/-- The copy of a snapshot to pages of this device: bytes and poison, sealed. -/
def State.copySnap (s : State) (x : Snap) : State :=
  let a := x.dst % 2 ^ 48
  let s0 := { s with
    mem := Tab.writeBytes s.mem a (s.readMem x.src x.size)
    poison := (List.range (x.size / 64)).foldl (fun t i => Tab.set t false (a / 64 + i) (Tab.get s.poison false (x.src / 64 + i))) s.poison }
  ((s0.forAll (s0.pagesIn a (a + x.size)) (fun s p => if p.loc = 4 then s.setPage { p with loc := 0 } else s)).sealRange x.ctx a x.size).1

def State.setStage (s : State) (x : Snap) (n : Nat) : State :=
  { s with sched := { s.sched with snaps := s.sched.snaps.map (fun (y : Snap) => if y.cmd = x.cmd ∧ !y.ready then { y with stage := n, dst := x.dst } else y) } }

/-- The data of a shipped snapshot sent to its pages; poisoned data is not shipped (assumption 126). -/
def State.shipData (s : State) (x : Snap) : State :=
  if poisonedIn s.poison x.src x.size then s.failSnap x
  else
    (s.setStage x 1).forAll (List.range (x.size / 4096)) (fun s i =>
      s.askPeer 0 idShip x.ctx (BitVec.ofNat 64 (x.dst + 4096 * i)) (some x.cmd)
        { type := 0x11, payload := s.readMem (x.src + 4096 * i) 4096 })

/-- The peer's keeper answers for a shipped snapshot: its pages are there, or they are sealed; any other status is a failed delivery. -/
def State.shipAnswer (s : State) (x : Snap) (st result : Nat) : State :=
  if st ≠ 0 then s.failSnap x
  else if x.stage = 0 then s.shipData { x with dst := result }
  else s.installSnap x

/-- A shipped snapshot whose copy is under way for a command. -/
def State.shipOf (s : State) (cmd : Nat × Nat) : Option Snap :=
  s.sched.snaps.find? (fun (x : Snap) => x.cmd == cmd && !x.ready && x.dev != 0xFFFF)

/-- The seal of a shipped snapshot's pages asked for, once all its data is acknowledged. -/
def State.askSeal (s : State) (x : Snap) : State :=
  if x.stage ≠ 1 ∨ s.fabric.outs.any (fun o => o.id == idShip && o.keep == some x.cmd) then s
  else
    let d : Desc := { op := 0x34, ctx := x.ctx, body := leBytes 8 (x.dst % 2 ^ 48) ++ leBytes 8 x.size ++ leBytes 32 0 }
    (s.setStage x 2).askPeer 0 idKeep x.ctx (globalOf x.dev 0) (some x.cmd) { type := 0x14, payload := d.bytes }

/-- R233–R235: the copy ends: here it is sealed and installed, at a peer its seal is asked for; or it is not delivered. -/
def execSnapshotCopyDone (ctx id : Nat) (ok : Bool) (s : State) : Out :=
  commit s (fun s =>
    match s.sched.snaps.find? (fun (x : Snap) => x.ctx == ctx && x.id == id && !x.ready) with
    | none => s
    | some x => if !ok then s.failSnap x else if x.dev = 0xFFFF then (s.copySnap x).installSnap x else s.askSeal x)

/-- R232: the slice size, a multiple of 4. -/
def State.wrSlice (s : State) (v : Nat) : Wr := if v % 4 ≠ 0 then (s, dRange) else (s.setObj oSlice v, dOk)

/-- R232, a write to 2500:02. -/
def execEvalSliceWrite (sess v : Nat) (s : State) : Out := writeNum sess oSlice v (fun s => s.wrSlice v) s

end Sys2Proof.Machine
end

