-- ==== Sys2Proof/Machine/Control.lean ====
section
/-! DEFINITION. The control complex: host time marks, heartbeats and the bench (R17, R21), FAULT (R379, R384, R391), the whistle and the
entry into STOPPING (R406, R434, R435), and clearing of the statistics slots (R59). -/

namespace Sys2Proof.Machine

/-! ## Marks and clears -/

/-- R17: the mark, with the control-complex cycle count of the same write. -/
def State.wrMark (s : State) (v : Nat) : Wr := ((s.setObj (objKey 0x1010 1) v).setObj (objKey 0x1010 2) s.dev.ctlCyc, dOk)

/-- R17, a write to 1010:01. -/
def execHostTimeMarkWrite (sess v : Nat) (s : State) : Out := writeNum sess (objKey 0x1010 1) v (fun s => s.wrMark v) s

/-- R59: a slot's counters, its flag and its first-NaN mark cleared on every core; 0xFFFF clears all. -/
def State.wrClearSlot (s : State) (v : Nat) : Wr :=
  let all := v == 0xFFFF
  let flags := s.obj (objKey 0x2600 5)
  let s1 := { s with
    cores := s.cores.map (fun (e : Nat × Core) => (e.1, { e.2 with stats := if all then [] else Tab.set e.2.stats {} v {} }))
    nanSeen := if all then [] else Tab.set s.nanSeen false v false }
  (s1.setObj (objKey 0x2600 5) (if all then 0 else if flags.testBit v then flags - 2 ^ v else flags), dOk)

/-- R59, a write to 2600:04. -/
def execClearSlotWrite (sess v : Nat) (s : State) : Out := writeNum sess (objKey 0x2600 4) v (fun s => s.wrClearSlot v) s

/-! ## Firmware sets and slots -/

/-- A slot of the flash: 0 A, 1 B. -/
def State.fwSlot (s : State) (k : Nat) : FwSlot := if k = 0 then s.flash.slotA else s.flash.slotB

/-- The copy of the boot record that is read: of those whose CRC holds the one with the higher number (R386). -/
def Flash.bootRec (f : Flash) : BootRec :=
  match f.bootA, f.bootB with
  | some a, some b => if b.seq < a.seq then a else b
  | some a, none => a
  | none, some b => b
  | none, none => {}

/-- A change of the boot record goes into the copy that is not read, with the next number (R386). -/
def Flash.saveBoot (f : Flash) : Flash :=
  let r := f.bootRec
  let n : BootRec := { seq := r.seq, active := f.active, stateA := f.slotA.state, stateB := f.slotB.state, boot := f.boot, fallbacks := f.fallbacks }
  if n = r then f
  else
    let m : BootRec := { n with seq := (r.seq + 1) % 2 ^ 32 }
    if f.bootA = some r then { f with bootB := some m } else { f with bootA := some m }

/-- What the boot record says. -/
def Flash.loadBoot (f : Flash) : Flash :=
  let r := f.bootRec
  { f with
    active := r.active, boot := r.boot, fallbacks := r.fallbacks
    slotA := { f.slotA with state := r.stateA }, slotB := { f.slotB with state := r.stateB } }

/-- The copy last written is lost in a power loss: the other one stays readable (R386). -/
def Flash.tearBoot (f : Flash) : Flash :=
  if f.bootA.isNone ∨ f.bootB.isNone then f else if f.bootA = some f.bootRec then { f with bootA := none } else { f with bootB := none }

/-- Writes of the boot record and of the owner record cut short by the loss of power or by RESET_N (R386, R464). -/
def State.cutWrites (boot owner : Bool) (s : State) : State :=
  let f := if boot then s.flash.tearBoot else s.flash
  { s with flash := if owner then f.tearOwner else f }

def State.setFwSlot (s : State) (k : Nat) (x : FwSlot) : State :=
  { s with flash := (if k = 0 then { s.flash with slotA := x } else { s.flash with slotB := x } : Flash).saveBoot }

/-- The active slot named in the boot record. -/
def State.setActive (s : State) (k : Nat) : State := { s with flash := ({ s.flash with active := k } : Flash).saveBoot }

/-- The state of a slot set (2900:02): 0 empty, 1 staged, 2 trial, 3 good, 4 failed. -/
def State.markSlot (s : State) (k st : Nat) : State := s.setFwSlot k { s.fwSlot k with state := st }

/-- An image of a set, by its ID. -/
def FwSet.image (f : FwSet) (id : Nat) : FwImage := (f.images.find? (fun i => i.id == id)).getD {}
def FwSet.version (f : FwSet) (id : Nat) : Nat := (f.image id).version

/-! ## FAULT -/

/-- FAULT (R379): the cause in 1001:01 and event 0x1003. A trial slot that fails before READY is marked failed, and the other slot
becomes active if it is good (R391). -/
def State.enterFault (s : State) (cause : Nat) : State :=
  if s.devState = stFault then s
  else
    let k := s.dev.slot
    let s1 := if s.dev.phase < stReady ∧ 0x20 ≤ s.dev.phase ∧ !s.dev.noSlot ∧ (s.fwSlot k).state = 2 then
        (let s1 := s.markSlot k 4
         if (s1.fwSlot (1 - k)).state = 3 then s1.setActive (1 - k) else s1)
      else s
    ((s1.setObj oState stFault).setObj oCause cause).event 0x1003 (srcRole 0) [(2, cause)]

/-! ## Control cores (R21) -/

/-- The role of a control core: its own at start-up; 4 the bench, 5 none. -/
def State.roleOf (s : State) (k : Nat) : Nat := Tab.get s.dev.roleOf k k
def State.setRole (s : State) (k r : Nat) : State := { s with dev := { s.dev with roleOf := Tab.set s.dev.roleOf k k r } }
def State.isSilent (s : State) (k : Nat) : Bool := Tab.get s.dev.silent false k
def State.setSilent (s : State) (k : Nat) (b : Bool) : State := { s with dev := { s.dev with silent := Tab.set s.dev.silent false k b } }

/-- The control core with a role. -/
def State.coreOfRole (s : State) (r : Nat) : Option Nat := (List.range 5).find? (fun k => s.roleOf k == r)

/-- The bench, where it is free. -/
def State.bench (s : State) : Option Nat := (List.range 5).find? (fun k => s.roleOf k == 4 && !s.isSilent k)

/-- R21: a heartbeat. -/
def execHeartbeat (k : CtlId) (s : State) : Out :=
  commit s (fun s => { s with dev := { s.dev with beats := Tab.upd s.dev.beats 0 k.val (fun n => (n + 1) % 2 ^ 32) } })

/-! ## STOPPING -/

def stRom : Nat := 0x10

/-- STOPPING is entered (R434, R435): event 0x2010; step 1 begins: every queue stops fetching and drains. A live activation ends where it
stands, without reverting (R406). -/
def State.takeWhistle (s : State) (cause : Nat) : State :=
  let s1 := { s with dev := { s.dev with stop := some { cause := cause, step := 1 }, pendingWhistle := 0, act := none, changes := [] } }
  let s2 := s1.forAll (s1.sched.queues.map Prod.fst) State.disableQueue
  (s2.setObj oState stStopping).event 0x2010 srcPower [(1, cause)]

/-- Does a role or engine step of a live activation run (R406)? -/
def State.actBusy (s : State) : Bool := s.dev.act.any (fun a => a.stage != .engines)

/-- A whistle of a cause (R406, R434): in FAULT none; in STOPPING only a thermal one changes the budgets; in a start-up phase or during a
role or engine step it waits. -/
def State.whistle (s : State) (cause : Nat) : State :=
  let st := s.devState
  if st = stFault ∨ st = stStopped then s
  else if st = stStopping then
    (if cause = 3 then { s with dev := { s.dev with stop := s.dev.stop.map (fun x => { x with cause := 3 }) } } else s)
  else if !s.running ∨ s.actBusy then
    { s with dev := { s.dev with pendingWhistle := if s.dev.pendingWhistle = 0 ∨ cause = 3 then cause else s.dev.pendingWhistle } }
  else s.takeWhistle cause

/-- A whistle that waited is taken. -/
def State.pendWhistle (s : State) : State := if s.dev.pendingWhistle = 0 then s else s.takeWhistle s.dev.pendingWhistle

end Sys2Proof.Machine
end

