-- ==== Sys2Proof/Machine/Live.lean ====
section
/-! DEFINITION. A live activation: roles handed over through the bench, engines updated one at a time at the huddle's decisions, and its
end or abandonment (R394–R402); the silent control core (R21, R397). -/

namespace Sys2Proof.Machine

/-- The number of a live activation among the changes of R403. -/
def chgLive : Nat := 0x5000

def oUpdState : Nat := objKey 0x2900 7
def oEngines : Nat := objKey 0x2700 1

/-- The slot that does not run. -/
def State.otherSlot (s : State) : Nat := 1 - s.dev.slot

def State.setAct (s : State) (a : Activation) : State := { s with dev := { s.dev with act := some a } }

/-- The version of an image that a role or engine runs: the staged set's where it has been handed over. -/
def State.verOf (s : State) (id : Nat) (new_ : Bool) : Nat := (if new_ then (s.fwSlot s.otherSlot).set else s.dev.running).version id

/-- Does this device hold a READY without a decision (R396)? -/
def State.readyPending (s : State) : Bool :=
  s.pass.ready.any (fun r => r.1 == s.pass.lastHuddle + 1 && !s.pass.decisions.any (fun d => d.1 == r.1))

/-! ## Engines (R401, R402) -/

/-- The buffer counts of every engine as the held contributions make them (R265). -/
def State.recountBufs (s : State) : State :=
  s.forAll (List.range 8) (fun s e =>
    let n := (s.pass.reds.filter (fun (r : Reduction) => s.serving (r.layer % 8) == e)).foldl (fun n r => n + r.held.length) 0
    s.setEngine e { s.engine e with held := n, free := 1024 - n })

/-- Update buffers as the engines in service hold them. -/
def State.rehomeBufs (s : State) : State :=
  let all := s.upd.bufs.flatMap Prod.snd
  let t := (List.range 8).foldl (fun (t : Tab (List BufChunk)) e =>
    Tab.set t [] e (all.filter (fun c => s.serving (c.layer % 8) == e))) []
  { s with upd := { s.upd with bufs := t } }

/-- An engine leaves service: its window's requests and its layers pass to the next one. -/
def State.leaveEngine (s : State) (e : Nat) : State :=
  let x := s.engine e
  let n := (e + 1) % 8
  let y := s.engine n
  let s1 := (s.setEngine e { x with reqs := [], waiting := [], micro := 1 }).setEngine n
    { y with reqs := y.reqs ++ x.reqs, waiting := y.waiting ++ x.waiting }
  ((s1.setObj oEngines ((s1.obj oEngines) &&& (0xFF ^^^ 2 ^ e))).rehomeBufs).recountBufs

/-- An engine returns with a microcode version, and its layers with it. -/
def State.returnEngine (s : State) (e ver : Nat) : State :=
  let s1 := s.setEngine e { s.engine e with micro := 0, version := ver }
  ((s1.setObj oEngines ((s1.obj oEngines) ||| 2 ^ e)).rehomeBufs).recountBufs

/-! ## The order of an activation -/

/-- R399: the new set runs. -/
def State.finishAct (s : State) : State :=
  let k := s.otherSlot
  let f := (s.fwSlot k).set
  let s1 := s.markSlot k 3
  let s2 := { s1.setActive k with dev := { s1.dev with slot := k, running := f, act := none } }
  ((s2.setObj oUpdState 0).event 0x2906 (srcRole 0) [(1, k), (4, f.setver)]).endService chgLive

/-- R400: everything is back on the former set. -/
def State.finishAbandon (s : State) (a : Activation) : State :=
  let s0 := s.setActive s.dev.slot
  let s1 := (s0.markSlot s.otherSlot 1).setObj oUpdState 4
  (({ s1 with dev := { s1.dev with act := none } }).event 0x2907 (srcRole 0) [(1, a.cause), (4, a.reverted)]).endService chgLive

/-- An engine's turn: it leaves at the next decision, or at once when no layout is current (R401). -/
def State.startEngine (s : State) (a : Activation) (e : Nat) (now : Bool) : State :=
  let b := { a with engine := e, retried := false }
  if now ∨ s.pass.layout.isNone then (s.leaveEngine e).setAct { b with stage := .micro } else s.setAct { b with stage := .engines }

/-- The next step of a reverting activation: engines in reverse order, then roles from C0 on (R400). With no bench left, roles cannot
revert, and the abandonment ends. -/
def State.revertNext (s : State) (a : Activation) (now : Bool) : State :=
  match a.updated.getLast? with
  | some e => s.startEngine a e now
  | none =>
    match (List.range 4).find? (fun r => a.handed.elem r) with
    | some r =>
      if (s.coreOfRole 4).isNone then s.finishAbandon a
      else s.setAct { a with role := r, stage := if s.bench.isSome then .load else .restart }
    | none => s.finishAbandon a

/-- R400: an activation is abandoned, for a cause of the model's numbering: 1 operator, 2 freeze wait, 3 silent core, 4 microcode. An
engine that is out of service returns with its previous microcode. -/
def State.abandonAct (s : State) (cause : Nat) : State :=
  match s.dev.act with
  | none => s
  | some a =>
    if a.reverting then s
    else
      let out := a.stage == .micro || a.stage == .back
      let s1 := if out then s.returnEngine a.engine (s.verOf 4 (a.updated.elem a.engine)) else s
      s1.revertNext { a with reverting := true, cause := cause, image5 := false } false

/-- Steps 2 to 4 of R395: the bench takes the role with the loaded image, and the former role core restarts as the bench. -/
def State.handRole (s : State) (a : Activation) : State :=
  match s.coreOfRole a.role, s.bench with
  | some f, some b =>
    let old := s.verOf a.role a.reverting
    let new_ := s.verOf a.role (!a.reverting)
    let s1 := (((s.setRole b a.role).setRole f 4).setSilent f true).event 0x2905 (srcRole a.role) [(1, a.role), (4, old), (4, new_)]
    if a.reverting then
      let h := a.handed.filter (fun r => r != a.role)
      s1.revertNext { a with handed := h, reverted := a.reverted + 1 } false
    else
      let a1 := { a with handed := a.handed ++ [a.role] }
      if a.role = 0 then s1.startEngine a1 0 false else s1.setAct { a1 with role := a.role - 1, stage := .restart }
  | _, _ => s

/-- The freeze of a role, once this device holds no READY without a decision where the role is C2 (R396). -/
def State.freezeRole (s : State) (a : Activation) : State :=
  if a.role = 2 ∧ s.readyPending then s.setAct { a with stage := .freeze } else s.handRole a

/-- An engine's load has ended well: it returns, and the next leaves (R401). -/
def State.engineBack (s : State) (a : Activation) (now : Bool) : State :=
  let ver := s.verOf 4 (!a.reverting)
  let s1 := (s.returnEngine a.engine ver).event 0x2908 (srcCluster a.engine) [(1, a.engine), (4, ver)]
  let s2 := if s1.dev.pendingWhistle ≠ 0 then s1.pendWhistle else s1
  if s2.dev.stop.isSome then s2
  else if a.reverting then s2.revertNext { a with updated := a.updated.filter (fun e => e != a.engine) } now
  else
    let a1 := { a with updated := a.updated ++ [a.engine] }
    if a.engine = 7 then s2.finishAct else s2.startEngine a1 (a.engine + 1) now

/-- What a huddle decision of this device does to a live activation (R396, R398, R401). -/
def State.onDecision (s : State) : State :=
  match s.dev.act with
  | none => s
  | some a0 =>
    let a := if a0.handed.elem 1 ∧ !a0.reverting then { a0 with image5 := true } else a0
    match a.stage with
    | .freeze => s.freezeRole a
    | .engines => (s.leaveEngine a.engine).setAct { a with stage := .micro }
    | .back => s.engineBack a true
    | _ => s.setAct a

/-- R395: the bench has loaded and verified the role's image. -/
def execRoleImageLoaded (s : State) : Out :=
  commit s (fun s =>
    match s.dev.act with
    | some a => if a.stage = .load then s.freezeRole a else s
    | none => s)

/-- R396: 2700:04 ms without a moment to freeze C2. -/
def execFreezeWaitTimeout (s : State) : Out :=
  commit s (fun s => if s.dev.act.any (fun a => a.stage == .freeze) then s.abandonAct 2 else s)

/-- R395: the former role core runs as the bench; the next image load may begin. -/
def execBenchHeartbeatLive (s : State) : Out :=
  commit s (fun s =>
    match s.coreOfRole 4 with
    | none => s
    | some k =>
      let s1 := s.setSilent k false
      match s1.dev.act with
      | some a =>
        if a.stage ≠ .restart then s1
        else if s1.dev.pendingWhistle ≠ 0 then s1.pendWhistle
        else s1.setAct { a with stage := .load }
      | none => s1)

/-- R401: an engine's microcode is loaded and checked, or the load fails: once it is retried, twice the activation is abandoned. -/
def execMicrocodeLoadDone (ok : Bool) (s : State) : Out :=
  commit s (fun s =>
    match s.dev.act with
    | some a =>
      if a.stage ≠ .micro then s
      else if ok then (if s.pass.layout.isNone then s.engineBack a true else s.setAct { a with stage := .back })
      else if a.retried then
        (if a.reverting then s.engineBack a true else s.abandonAct 4)
      else s.setAct { a with retried := true }
    | none => s)

/-- The live control cores that watch core k, by role: C0 to C3, then the bench. -/
def State.watchers (s : State) (k : Nat) : List Nat :=
  (List.range 5).filterMap (fun r => (List.range 5).find? (fun j => j != k && !s.isSilent j && s.roleOf j == r))

/-- R21, R397: a control core is silent: every live one logs it, the lowest first, and the bench takes its role with the running version;
without a bench the device enters FAULT. -/
def execControlCoreSilent (k : CtlId) (s : State) : Out :=
  commit s (fun s =>
    if s.isSilent k ∨ s.roleOf k = 5 ∨ s.dev.phase < 0x30 then s
    else
      match s.watchers k with
      | [] => s
      | w :: others =>
        let r := s.roleOf k
        let s0 := s.setSilent k true
        let b := s0.bench
        let s1 := s0.forAll (w :: others) (fun t j => t.event 0x2910 (srcRole (s.roleOf j)) [(1, r), (1, if b.isSome ∧ r ≠ 4 then 1 else 0)])
        if r = 4 then (s1.setRole k 5).abandonAct 3
        else
          match b with
          | none => s1.enterFault 0x2910
          | some c =>
            let s2 := (s1.setRole c r).setRole k 5
            match s2.dev.act with
            | none => s2
            | some a => (s2.setAct { a with handed := a.handed.filter (fun x => x != r) }).abandonAct 3)

end Sys2Proof.Machine
end

