-- ==== Sys2Proof/Machine/Layout.lean ====
section
/-! DEFINITION. Layouts and update tables as the T96 reads and checks them (R241, R242, R271–R274; Tables 08.1, 08.2, 09.2–09.4). -/

namespace Sys2Proof.Machine

/-! ## A layout's layers, parts and members -/

/-- Elements of a chunk (2700:06). -/
def chunkSize : Nat := 16384

def LayerEntry.chunks (e : LayerEntry) : Nat := (e.elements + chunkSize - 1) / chunkSize
/-- The first chunk of part j (R242). -/
def LayerEntry.lo (e : LayerEntry) (j : Nat) : Nat := j * e.chunks / e.parts
/-- The part that holds a chunk. -/
def LayerEntry.partOf (e : LayerEntry) (c : Nat) : Nat :=
  ((List.range e.parts).find? (fun j => decide (e.lo j ≤ c) && decide (c < e.lo (j + 1)))).getD 0
/-- First element, number of elements and number of chunks of a part. -/
def LayerEntry.first (e : LayerEntry) (j : Nat) : Nat := e.lo j * chunkSize
def LayerEntry.count (e : LayerEntry) (j : Nat) : Nat := min (e.lo (j + 1) * chunkSize) e.elements - e.first j
def LayerEntry.nChunks (e : LayerEntry) (j : Nat) : Nat := e.lo (j + 1) - e.lo j
/-- Elements of a chunk: only the last may be shorter. -/
def LayerEntry.inChunk (e : LayerEntry) (c : Nat) : Nat := min chunkSize (e.elements - c * chunkSize)

/-- The device of squad m at a stage. -/
def Layout.devAt (l : Layout) (m st : Nat) : Nat := l.squads.getD (m * l.stages + st) 0xFFFF
/-- The devices of the squad table, each once. -/
def Layout.devices (l : Layout) : List Nat := l.squads.eraseDups
/-- The huddle lead: squad 0, stage 0 (R256). -/
def Layout.lead (l : Layout) : Nat := l.devAt 0 0
def Layout.layer? (l : Layout) (n : Nat) : Option LayerEntry := l.layers.find? (fun e => e.layer == n)
/-- The member that a device is at a stage: the lowest one. -/
def Layout.memberOf (l : Layout) (dev st : Nat) : Option Nat := (List.range l.members).find? (fun m => l.devAt m st == dev)
/-- The device that owns a part. -/
def Layout.ownerOf (l : Layout) (e : LayerEntry) (j : Nat) : Nat := l.devAt ((e.owner0 + j) % l.members) e.stage
/-- The replicas of a layer: the devices of its stage. -/
def Layout.replicas (l : Layout) (e : LayerEntry) : List Nat := ((List.range l.members).map (fun m => l.devAt m e.stage)).eraseDups
/-- The parts that a device owns. -/
def Layout.owned (l : Layout) (dev : Nat) : List (LayerEntry × Nat) :=
  l.layers.flatMap (fun e => ((List.range e.parts).filter (fun j => l.ownerOf e j == dev)).map (fun j => (e, j)))

/-- The parts of the current layout that this device owns. -/
def State.ownParts (s : State) : List (LayerEntry × Nat) :=
  match s.pass.layout with
  | some l => l.owned s.ownDev
  | none => []

/-! ## Reading a sealed block -/

/-- The 64 KiB blocks that a local range touches all meet a condition. -/
def State.blocksAll (s : State) (a n : Nat) (f : Page → Bool) : Bool :=
  n == 0 || (List.range ((a + n - 1) / 65536 - a / 65536 + 1)).all (fun i => (s.pageAt ((a / 65536 + i) * 65536)).any f)

/-- `n` bytes at an offset of a sealed block that the T96 can read: its own memory, or, for a peer's address, what the read of the
peer's block gave, where its RDRs say sealed. -/
def State.blob (s : State) (g : Nat) (peer : PeerRead) (off n : Nat) : Option (List Byte) :=
  if 2 ^ 62 ≤ g + off then none
  else if s.isLocal (BitVec.ofNat 64 g) then
    let a := g % 2 ^ 48 + off
    if s.blocksAll a n Page.sealed && !poisonedIn s.poison a n then some (s.readMem a n) else none
  else if peer.sealed ∧ off + n ≤ peer.data.length then some ((peer.data.drop off).take n) else none

/-- Fields of a record of a table. -/
def recordsOf (size : Nat) (b : List Byte) : List (List Byte) :=
  (List.range (b.length / size)).map (fun i => (b.drop (size * i)).take size)

/-- A layout block (Tables 08.1, 08.2), where every field lies within its table. -/
def State.parseLayout (s : State) (g : Nat) (peer : PeerRead) : Option Layout := do
  let h ← s.blob g peer 0 64
  let stages := fieldAt h 2 1
  let league := fieldAt h 4 4
  let members := fieldAt h 8 2
  let n := fieldAt h 12 4
  if fieldAt h 3 1 ≠ 0 ∨ fieldAt h 10 2 ≠ 0 ∨ leNat (h.drop 32) ≠ 0 ∨ stages = 0 ∨ 64 < stages ∨ league = 0 ∨ members = 0 ∨
      4096 < members ∨ n = 0 ∨ 1048576 < n then none
  else
    let sq ← s.blob g peer (fieldAt h 16 8) (2 * members * stages)
    let lt ← s.blob g peer (fieldAt h 24 8) (16 * n)
    let ids := (recordsOf 2 sq).map leNat
    let ls := (recordsOf 16 lt).map (fun b =>
      ({ layer := fieldAt b 0 4, stage := fieldAt b 4 1, parts := fieldAt b 5 1, owner0 := fieldAt b 6 2,
         elements := fieldAt b 8 8 } : LayerEntry))
    let inRange := ls.all (fun e => decide (e.stage < stages) && decide (1 ≤ e.parts) && decide (e.parts ≤ 16) &&
      decide (e.owner0 < members) && decide (1 ≤ e.elements) && decide (e.elements ≤ 2 ^ 42))
    let rising := (ls.zip (ls.drop 1)).all (fun p => decide (p.1.layer < p.2.layer))
    if ids.all (fun d => decide (d < 16384)) && inRange && rising then
      some { epoch := fieldAt h 0 2, stages := stages, league := league, members := members, squads := ids, layers := ls }
    else none

/-! ## Update tables -/

/-- A finite FP32 value that is not negative; −0 is not. -/
def nonNeg (w : W32) : Bool :=
  match f32 w with
  | .fin n m _ => !n || m == 0
  | _ => false

/-- β in [0, 1). -/
def betaOk (w : W32) : Bool := nonNeg w && Num.lt (f32 w) (.fin false 1 0)

/-- R274 and the ranges of Table 09.3. -/
def UEntry.valid (e : UEntry) : Bool :=
  decide (e.rule ≤ 1) && decide (e.vform ≤ 2) && (e.wfmt == 1 || e.wfmt == 3) && decide (e.flags / 16 = 0) &&
    decide (e.flags / 4 % 4 ≠ 3) && betaOk e.beta1 && betaOk e.beta2 && nonNeg e.eps && !(f32 e.eps).isZero &&
    nonNeg e.eta && nonNeg e.lambda && nonNeg e.gmax && decide (0 < e.cols) && decide (0 < e.rows) && decide (e.ctx < 16384) &&
    (if e.rule = 1 ∨ e.vform = 1 ∨ e.vform = 2 then chunkSize % e.cols == 0 || e.cols % chunkSize == 0 else true) &&
    (if e.vform = 2 ∨ e.flags.testBit 1 then e.cols % 32 == 0 else true) &&
    (if e.wfmt = 3 then decide (e.cols ≤ 65536) else true) &&
    (if e.rule = 1 then e.vform == 0 && e.wfmt == 1 && !e.flags.testBit 1 else true)

/-- An entry of 64 B, with the part addresses that can be read: at most 16 parts. -/
def State.parseEntry (s : State) (g : Nat) (peer : PeerRead) (b : List Byte) : UEntry :=
  let w (o : Nat) : W32 := BitVec.ofNat 32 (fieldAt b o 4)
  let ps := (List.range 16).map (fun j => s.blob g peer (fieldAt b 48 8 + 8 * j) 8)
  { layer := fieldAt b 0 4, rule := fieldAt b 4 1, vform := fieldAt b 5 1, wfmt := fieldAt b 6 1, flags := fieldAt b 7 1
    rows := fieldAt b 8 4, cols := fieldAt b 12 4, eta := w 16, beta1 := w 20, beta2 := w 24, eps := w 28, lambda := w 32
    gmax := w 36, nfmax := fieldAt b 40 4, ctx := fieldAt b 44 2, epoch := fieldAt b 46 2
    parts := (ps.takeWhile Option.isSome).map (fun x => leNat (x.getD [])) }

/-- The order of entries: ascending (epoch, layer). -/
def UEntry.key (e : UEntry) : Nat := e.epoch * 2 ^ 32 + e.layer

/-- An update table whose fields lie within Tables 09.2 and 09.3 and meet R274. -/
def State.parseTable (s : State) (g : Nat) (peer : PeerRead) : Option UTable := do
  let h ← s.blob g peer 0 64
  let n := fieldAt h 0 4
  let ns := fieldAt h 12 4
  if n = 0 ∨ 2097152 < n ∨ fieldAt h 4 4 ≠ 0 ∨ ns = 0 ∨ 65536 < ns ∨ leNat (h.drop 32) ≠ 0 then none
  else
    let sc ← s.blob g peer (fieldAt h 16 8) (4 * ns)
    let et ← s.blob g peer (fieldAt h 24 8) (64 * n)
    let raw := recordsOf 64 et
    let es := raw.map (s.parseEntry g peer)
    let fs := (recordsOf 4 sc).map (fun b => BitVec.ofNat 32 (leNat b))
    let rising := (es.zip (es.drop 1)).all (fun p => decide (p.1.key < p.2.key))
    if fs.all nonNeg && rising && es.all UEntry.valid && raw.all (fun b => fieldAt b 56 8 == 0) then
      some { addr := g, sbase := fieldAt h 8 4, sched := fs, entries := es }
    else none

def UTable.entry? (t : UTable) (epoch layer : Nat) : Option UEntry := t.entries.find? (fun e => e.epoch == epoch && e.layer == layer)

/-! ## Part state blocks (Table 09.4) -/

/-- A part state block: device-local addresses. -/
structure PartBlk where
  master : Nat := 0
  m : Nat := 0
  v : Nat := 0
  wcopy : Nat := 0
  wshift : Nat := 0
  wmx : Nat := 0
  tcount : Nat := 0
  stats : Nat := 0
  scratch : Nat := 0
deriving DecidableEq, Repr

def parsePart (b : List Byte) : PartBlk :=
  { master := fieldAt b 0 8, m := fieldAt b 8 8, v := fieldAt b 16 8, wcopy := fieldAt b 24 8, wshift := fieldAt b 32 8
    wmx := fieldAt b 40 8, tcount := fieldAt b 48 8, stats := fieldAt b 56 8, scratch := fieldAt b 64 8 }

/-- The part state block of part j of an entry. -/
def State.partBlk (s : State) (u : UEntry) (j : Nat) : PartBlk := parsePart (s.readMem (u.parts.getD j 0 % 2 ^ 48) 128)

/-- Bytes of each array of a part of N elements (R272, R280). -/
def UEntry.partRows (u : UEntry) (n : Nat) : Nat := n / u.cols
def UEntry.vBytes (u : UEntry) (n : Nat) : Nat :=
  match u.vform with
  | 0 => 4 * n
  | 1 => 4 * u.partRows n
  | _ => n + n / 32
def UEntry.copyBytes (u : UEntry) (n : Nat) : Nat := if u.wfmt = 1 then 2 * n else n
def UEntry.cAt (u : UEntry) : Nat := 64 + (u.cols + 3) / 4 * 4
def UEntry.statBytes (u : UEntry) : Nat := u.cAt + (if u.vform = 1 then 4 * u.cols else 0)

/-- The arrays of a part that its update rewrites: address and bytes. -/
def UEntry.arrays (u : UEntry) (b : PartBlk) (n : Nat) : List (Nat × Nat) :=
  [(b.master, 4 * n), (b.m, 4 * n), (b.v, u.vBytes n), (b.wcopy, u.copyBytes n)] ++
    (if u.wfmt = 3 then [(b.wshift, u.cols)] else []) ++ (if u.flags.testBit 1 then [(b.wmx, n + n / 32)] else []) ++
    (if u.rule = 1 then [(b.tcount, 4 * u.partRows n)] else []) ++ [(b.stats, u.statBytes)]

/-- A local range in pages of a context and class, sealed where asked. -/
def State.arrayIn (s : State) (ctx cls : Nat) (sealed : Bool) (a n : Nat) : Bool :=
  decide (a + n ≤ 2 ^ 48) && s.blocksAll a n (fun p => p.ctx == ctx && p.cls == cls && (!sealed || p.sealed))

/-- The last check of R273 for a part that this device owns. -/
def State.partOk (s : State) (u : UEntry) (e : LayerEntry) (j : Nat) : Bool :=
  let g := u.parts.getD j 0
  let a := g % 2 ^ 48
  let raw := s.readMem a 128
  let b := parsePart raw
  let n := e.count j
  decide (j < u.parts.length) && s.isLocal (BitVec.ofNat 64 g) && decide (g < 2 ^ 62) && s.arrayIn u.ctx 1 false a 128 &&
    leNat (raw.drop 72) == 0 &&
    s.arrayIn u.ctx 1 false b.master (4 * n) && s.arrayIn u.ctx 1 false b.m (4 * n) && s.arrayIn u.ctx 1 false b.v (u.vBytes n) &&
    s.arrayIn u.ctx 0 true b.wcopy (u.copyBytes n) &&
    (if u.wfmt = 3 then s.arrayIn u.ctx 0 true b.wshift u.cols else b.wshift == 0) &&
    (if u.flags.testBit 1 then s.arrayIn u.ctx 0 true b.wmx (n + n / 32) else b.wmx == 0) &&
    (if u.rule = 1 then s.arrayIn u.ctx 1 false b.tcount (4 * u.partRows n) else b.tcount == 0) &&
    s.arrayIn u.ctx 1 false b.stats u.statBytes && s.arrayIn u.ctx 4 false b.scratch (1024 * e.nChunks j)

/-- The checks of R273 that name a layout's layers and parts. -/
def State.tableFits (s : State) (t : UTable) (l : Layout) : Bool :=
  l.layers.all (fun e =>
    match t.entry? l.epoch e.layer with
    | some u => u.rows * u.cols == e.elements && decide (e.parts ≤ u.parts.length)
    | none => false) &&
  (l.owned s.ownDev).all (fun p => (t.entry? l.epoch p.1.layer).any (fun u => s.partOk u p.1 p.2))

/-- The layer and update entries of a layer under a layout. -/
def State.updEntry (s : State) (l : Layout) (layer : Nat) : Option (LayerEntry × UEntry) :=
  match l.layer? layer, s.upd.table with
  | some e, some t => (t.entry? l.epoch layer).map (fun u => (e, u))
  | _, _ => none

end Sys2Proof.Machine
end

