-- ==== Sys2Proof/Machine/Shadows.lean ====
section
/-! DEFINITION. Shadow frames, the flip and the previous frames (R257, R258, R285, R287, R288, R324, R479). -/

namespace Sys2Proof.Machine

/-- The entries of a table within [lo, hi) replaced by those of another. -/
def spliceRange {α : Type} (t u : Tab α) (lo hi : Nat) : Tab α :=
  t.filter (fun e => decide (e.1 < lo)) ++ u.filter (fun e => decide (lo ≤ e.1) && decide (e.1 < hi)) ++
    t.filter (fun e => decide (hi ≤ e.1))

def State.shadowed (s : State) (base : Nat) : Bool := s.keeper.shadows.any (fun e => e.page == base)

/-- A frame for a page's shadow: in HBM one under the page's home column, in the deck one of its role. -/
def State.shadowFrame (s : State) (p : Page) : Option Nat :=
  if p.loc = 1 ∨ p.loc = 2 then s.pickDeck p.loc p.frames else (s.pickHbm p.frames).map (fun f => p.place / 2 ^ 23 * 2 ^ 23 + f)

/-- A page given a shadow frame from the pool of its live one, a copy of it (R285); none where no frame is free, or the page is
unsealing (R321). -/
def State.giveShadow (s : State) (p : Page) : Option State :=
  if s.shadowed p.base then some s
  else if p.sealed ∧ (s.regionOf p.base).any Region.unsealing then none
  else
    let i := poolOf p.loc
    match (if (s.pool i).free < p.frames then none else s.shadowFrame p) with
    | none => none
    | some f =>
      let s1 := s.modPool i (fun b => b.take p.frames)
      let hi := p.base + p.bytes
      let x : Shadow := { page := p.base, loc := if p.loc = 4 then 0 else p.loc, place := f, frames := p.frames }
      some { s1 with
        keeper := { s1.keeper with shadows := s1.keeper.shadows ++ [x] }
        shadow := spliceRange s1.shadow s1.mem p.base hi
        shadowPoison := spliceRange s1.shadowPoison s1.poison (p.base / 64) (hi / 64) }

/-- An update's write to the shadows of the pages of a range. -/
def State.shadowWrite (s : State) (a : Nat) (bs : List Byte) : Option State :=
  if bs.isEmpty then some s
  else
    let blocks := (List.range ((a + bs.length - 1) / 65536 - a / 65536 + 1)).map (fun i => (a / 65536 + i) * 65536)
    let got := blocks.foldl (fun (o : Option State) b =>
      match o with
      | some s =>
        (match s.pageAt b with
          | some p => s.giveShadow p
          | none => none)
      | none => none) (some s)
    got.map (fun s => { s with
      shadow := Tab.writeBytes s.shadow a bs, shadowPoison := clearPoison s.shadowPoison a bs.length })

/-- What an update that runs in this step sees of its own earlier writes. -/
def State.shadowRead (s : State) (a n : Nat) : List Byte :=
  (List.range n).map (fun i =>
    match s.pageAt (a + i) with
    | some p => if s.shadowed p.base then Tab.get s.shadow 0 (a + i) else Tab.get s.mem 0 (a + i)
    | none => 0)

/-- A page's shadow freed (R287). -/
def State.dropShadow (s : State) (p : Page) : State :=
  let s1 := s.forAll (s.keeper.shadows.filter (fun e => e.page == p.base)) (fun s e => s.modPool (poolOf e.loc) (fun b => b.release e.frames))
  let hi := p.base + p.bytes
  { s1 with
    keeper := { s1.keeper with shadows := s1.keeper.shadows.filter (fun e => e.page != p.base) }
    shadow := dropRange s1.shadow p.base hi
    shadowPoison := dropRange s1.shadowPoison (p.base / 64) (hi / 64) }

/-- Every shadow freed (R287, DISCARD). -/
def State.dropShadows (s : State) : State :=
  s.forAll s.keeper.shadows (fun s e =>
    match s.pageAt e.page with
    | some p => s.dropShadow p
    | none => s)

/-- A page's shadow becomes its frame, the old frame the previous one: its leaf names the shadow's frame; a sealed page takes its next epoch
(R257, R258, R287, R324). -/
def State.flipPage (s : State) (step : Nat) (e : Shadow) : State :=
  match s.pageAt e.page with
  | none => s
  | some p =>
    let hi := p.base + p.bytes
    let lo64 := p.base / 64
    let k := s.keeper
    let kp := { k with
      shadows := k.shadows.filter (fun x => x.page != p.base)
      flipped := k.flipped ++ [({ page := p.base, step := step, epoch := p.sepoch, loc := p.loc, place := p.place, frames := p.frames } : Flipped)] }
    let s1 := { s with
      keeper := kp
      prev := spliceRange s.prev s.mem p.base hi
      prevPoison := spliceRange s.prevPoison s.poison lo64 (hi / 64)
      mem := spliceRange s.mem s.shadow p.base hi
      poison := spliceRange s.poison s.shadowPoison lo64 (hi / 64)
      shadow := dropRange s.shadow p.base hi
      shadowPoison := dropRange s.shadowPoison lo64 (hi / 64) }
    let p1 := if p.sealed then { p with sepoch := (p.sepoch + 1) % 2 ^ 16 } else p
    (s1.setPage { p1 with loc := e.loc, place := e.place }).dropTlb (pageKey p.base)

/-- Every shadowed leaf flipped, between the flip marker's writing and its clearing (R287). -/
def State.flipAll (s : State) (step : Nat) : State := s.forAll s.keeper.shadows (fun s e => s.flipPage step e)

/-- RELEASE for a step: the previous frames freed (R258, R287). -/
def State.releasePrev (s : State) (step : Nat) : State :=
  let gone := s.keeper.flipped.filter (fun e => e.step == step)
  let s1 := s.forAll gone (fun s e =>
    match s.pageAt e.page with
    | some p => { s.modPool (poolOf e.loc) (fun b => b.release e.frames) with
        prev := dropRange s.prev p.base (p.base + p.bytes)
        prevPoison := dropRange s.prevPoison (p.base / 64) ((p.base + p.bytes) / 64) }
    | none => s)
  { s1 with keeper := { s1.keeper with flipped := s1.keeper.flipped.filter (fun e => e.step != step) } }

/-- A part's arrays put back to their live bytes and poison in the shadows, and the shadows of pages in which every layer with state is
released freed (R282, R479). `mine` are the released part's arrays, `others` those of the parts that are not released. -/
def State.releaseArrays (s : State) (mine others : List (Nat × Nat)) : State :=
  let s1 := s.forAll mine (fun s r =>
    (List.range r.2).foldl (fun s i =>
      match s.pageAt (r.1 + i) with
      | some p =>
        if s.shadowed p.base then
          let q := (r.1 + i) / 64
          { s with
            shadow := Tab.set s.shadow 0 (r.1 + i) (Tab.get s.mem 0 (r.1 + i))
            shadowPoison := Tab.set s.shadowPoison false q (Tab.get s.poison false q) }
        else s
      | none => s) s)
  let touches (p : Page) (r : Nat × Nat) : Bool := decide (0 < r.2) && decide (r.1 < p.base + p.bytes) && decide (p.base < r.1 + r.2)
  s1.forAll s1.keeper.shadows (fun s e =>
    match s.pageAt e.page with
    | some p => if mine.any (touches p) && !others.any (touches p) then s.dropShadow p else s
    | none => s)

end Sys2Proof.Machine
end

