-- ==== Sys2Proof/Machine/Smu.lean ====
section
/-! DEFINITION. The arithmetic of the update: constants, the SMU and N40 rules, second-moment forms, statistics, records, working
copies (R275–R284, R289, R290). Every operation rounds once to nearest even in FP32. -/

namespace Sys2Proof.Machine

/-! ## FP32 operations (R123) -/

def fone : W32 := 0x3F800000
def fneg (a : W32) : W32 := a ^^^ 0x80000000
def fdiv (a b : W32) : W32 := toF32 (Num.div (f32 a) (f32 b))
def fsqrt (a : W32) : W32 := toF32 (Num.sqrt (f32 a))
def frsq (a : W32) : W32 := toF32 (Num.rsqrt (f32 a))
def fexp2 (a : W32) : W32 := toF32 (Num.exp2 (f32 a))
def flog2 (a : W32) : W32 := toF32 (Num.log2 (f32 a))
def fnat (n : Nat) : W32 := toF32 (Num.ofInt n)
def fmin2 (a b : W32) : W32 := BitVec.ofNat 32 (vMin 0 a.toNat b.toNat)
def fmax2 (a b : W32) : W32 := BitVec.ofNat 32 (vMax 0 a.toNat b.toNat)
def fltB (a b : W32) : Bool := Num.lt (f32 a) (f32 b)
def fzero (a : W32) : Bool := (f32 a).isZero
def ffin (a : W32) : Bool := (f32 a).isFin

/-! ## Sums in a fixed order (R278) -/

/-- A pair packed: lo above hi. -/
def packPair (p : W32 × W32) : W64 := p.2 ++ p.1
def unpackPair (w : W64) : W32 × W32 := (w.setWidth 32, (w >>> 32).setWidth 32)

/-- A pair folded into another as R71 folds it. -/
def pairFold (p q : W32 × W32) : W32 × W32 := spillAdd p q.1 q.2

/-- The tree of R123 over pairs. -/
def pairTree : Nat → List (W32 × W32) → W32 × W32
  | 0, l => l.headD (0, 0)
  | n + 1, l => if l.length ≤ 1 then l.headD (0, 0) else pairTree n (List.zipWith pairFold l (l.drop (l.length / 2)))

/-- The sum over indexed elements: 64 lanes by index mod 64 in ascending index, then the tree. -/
def laneSum (l : List (Nat × W32)) : W32 × W32 :=
  pairTree 6 ((List.range 64).map (fun i => (l.filter (fun e => e.1 % 64 == i)).foldl (fun p e => pairAdd p e.2) (0, 0)))

/-- Partial sums folded in order. -/
def foldPairs (l : List W64) : W64 := packPair (l.foldl (fun p w => pairFold p (unpackPair w)) (0, 0))

/-- The value of a sum: round(hi + lo). -/
def sumVal (w : W64) : W32 := fadd (unpackPair w).1 (unpackPair w).2

/-! ## The statistics record (Table 09.6) -/

structure StatRec where
  step : Nat := 0
  rmsW : W32 := 0
  rmsD : W32 := 0
  gnorm : W32 := 0
  s : W32 := 0
  nonfinite : Nat := 0
  shift : List Int := []
  c : List W32 := []
deriving DecidableEq, Repr

def wordsOf (b : List Byte) : List W32 := (recordsOf 4 b).map (fun x => BitVec.ofNat 32 (leNat x))
def wordBytes (l : List W32) : List Byte := l.flatMap (fun w => leBytes 4 w.toNat)

def UEntry.parseRec (u : UEntry) (b : List Byte) : StatRec :=
  let w (o : Nat) : W32 := BitVec.ofNat 32 (fieldAt b o 4)
  { step := fieldAt b 0 4, rmsW := w 8, rmsD := w 12, gnorm := w 16, s := w 20, nonfinite := fieldAt b 24 8
    shift := ((b.drop 64).take u.cols).map BitVec.toInt
    c := if u.vform = 1 then wordsOf ((b.drop u.cAt).take (4 * u.cols)) else [] }

def StatRec.bytes (r : StatRec) (u : UEntry) : List Byte :=
  leBytes 4 r.step ++ leBytes 4 0 ++ leBytes 4 r.rmsW.toNat ++ leBytes 4 r.rmsD.toNat ++ leBytes 4 r.gnorm.toNat ++
    leBytes 4 r.s.toNat ++ leBytes 8 r.nonfinite ++ leBytes 32 0 ++ r.shift.map (BitVec.ofInt 8) ++
    leBytes (u.cAt - 64 - u.cols) 0 ++ wordBytes r.c

/-! ## The rules -/

/-- The constants of a layer for a step (R275). -/
structure SmuK where
  beta1 : W32 := 0
  beta2 : W32 := 0
  eps : W32 := 0
  etaS : W32 := 0
  a : W32 := 0
  b : W32 := 0
  c1 : W32 := 0
  c2 : W32 := 0
deriving DecidableEq, Repr

/-- 2^−60 in FP32. -/
def tiny : W32 := 0x21800000

def UTable.consts (t : UTable) (u : UEntry) (step : Nat) (r : StatRec) : SmuK :=
  let etaS := fmul u.eta (t.sched.getD (min (step - t.sbase) (t.sched.length - 1)) 0)
  let q := if r.step = 0xFFFFFFFF ∨ fltB r.rmsD tiny then r.rmsW else fdiv r.rmsW r.rmsD
  { beta1 := u.beta1, beta2 := u.beta2, eps := u.eps, etaS := etaS, a := fmul etaS q, b := fmul etaS u.lambda
    c1 := fsub fone u.beta1, c2 := fsub fone u.beta2 }

/-- What an element's update gives. -/
structure ElemOut where
  w : W32 := 0
  m : W32 := 0
  v : W32 := 0
  d : W32 := 0
  e2 : W32 := 0
deriving DecidableEq, Repr

/-- One element under SMU (R275): `vp` is v, or vh of R276, or the read value of R277. -/
def smuElem (k : SmuK) (gf w m vp : W32) : ElemOut :=
  let sg : W32 := if fltB 0 gf then fone else if fltB gf 0 then fneg fone else 0
  let m1 := fma k.beta1 m (fmul k.c1 sg)
  let e := fsub sg m1
  let e2 := fmul e e
  let vt := fma k.beta2 vp (fmul k.c2 e2)
  let r := frsq (fadd vt k.eps)
  let d := fmin2 (fmax2 (fmul m1 r) (fneg fone)) fone
  let w1 := fma (fneg k.b) w w
  { w := fma (fneg k.a) d w1, m := m1, v := vt, d := d, e2 := e2 }

/-- vh of R276. -/
def sketchV (s r c : W32) : W32 := if fzero s then 0 else fdiv (fmul r c) s

/-- One element of a touched row under N40 (R289), with the row's count t; g is finite. -/
def n40Elem (k : SmuK) (t : Nat) (g w m v : W32) : ElemOut :=
  let tf := fnat t
  let bc1 := fsub fone (fexp2 (fmul tf (flog2 k.beta1)))
  let bc2 := fsub fone (fexp2 (fmul tf (flog2 k.beta2)))
  let m1 := fma k.beta1 m (fmul k.c1 g)
  let v1 := fma k.beta2 v (fmul k.c2 (fmul g g))
  let mh := fdiv m1 bc1
  let vh := fdiv v1 bc2
  let u := fdiv mh (fadd (fsqrt vh) k.eps)
  let w1 := fma (fneg k.b) w w
  { w := fma (fneg k.etaS) u w1, m := m1, v := v1, d := u }

/-! ## Working copies (R283, R284) -/

/-- The rounding of a copy's element: kind 0 the primary copy, 1 the MX copy. -/
def UEntry.rnd (u : UEntry) (step kind g : Nat) : Rnd :=
  if u.flags.testBit 0 then .stoch (stochR step (u.layer + kind * 2 ^ 32) g) else .rne

/-- The primary copy of an element with its channel's shift. -/
def UEntry.copyConv (u : UEntry) (step g : Nat) (k : Int) (w : W32) : Conv :=
  if u.wfmt = 1 then convOne 0x01 0 0 (u.rnd step 0 g) (f32 w) else convOne 0x03 0 0 (u.rnd step 0 g) (Num.scale (f32 w) k)

/-- Elements and scale bytes of rows cut into blocks of 32 (R277, R283). -/
def mxBlocks (l : List (Num × Rnd)) : List Byte × List Byte :=
  let bs := (List.range (l.length / 32)).map (fun i => convBlock (elemOf 0x08) 0 ((l.drop (32 * i)).take 32))
  (bs.flatMap (fun b => b.2.map (fun c => BitVec.ofNat 8 c.code)), bs.map (fun b => BitVec.ofNat 8 b.1))

/-! ## A chunk -/

/-- What the update of a chunk writes, counts and leaves for the statistics. -/
structure ChunkOut where
  writes : List (Nat × List Byte) := []
  stats : ChunkStats := {}
  clipped : List Nat := []
  nonfinite : Nat := 0
deriving DecidableEq, Repr

/-- The largest magnitude, NaN above all: FP32 magnitudes order as their bits. -/
def maxMag (l : List W32) : W32 := l.foldl (fun m w => if m < (w &&& 0x7FFFFFFF) then w &&& 0x7FFFFFFF else m) 0

/-- The update of a chunk from the committed state (R275–R278, R283, R289). -/
def State.chunkOut (s : State) (t : UTable) (e : LayerEntry) (u : UEntry) (j : Nat) (b : BufChunk) : ChunkOut :=
  let blk := s.partBlk u j
  let n := e.inChunk b.chunk
  let total := e.count j
  let g0 := b.chunk * chunkSize
  let q0 := g0 - e.first j
  let rec_ := u.parseRec (s.readMem blk.stats u.statBytes)
  let k := t.consts u b.step rec_
  let idx := List.range n
  let ws := wordsOf (s.readMem (blk.master + 4 * q0) (4 * n))
  let ms := wordsOf (s.readMem (blk.m + 4 * q0) (4 * n))
  let pairs := b.pairs
  let gfs := pairs.map (fun p => fadd p.1 p.2)
  let row (i : Nat) : Nat := (g0 + i) / u.cols
  let col (i : Nat) : Nat := (g0 + i) % u.cols
  let lrow (i : Nat) : Nat := row i - e.first j / u.cols
  let touched (i : Nat) : Bool := u.rule == 0 || b.touched.elem (row i)
  let gN (i : Nat) : W32 := fdiv (gfs.getD i 0) (fnat b.c)
  let vPrev (i : Nat) : W32 :=
    match u.vform with
    | 0 => BitVec.ofNat 32 (s.memNat (blk.v + 4 * (q0 + i)) 4)
    | 1 => sketchV rec_.s (BitVec.ofNat 32 (s.memNat (blk.v + 4 * lrow i) 4)) (rec_.c.getD (col i) 0)
    | _ =>
      let x := s.memNat (blk.v + total + (q0 + i) / 32) 1
      toF32 (scaled (e4m3.decode (s.memNat (blk.v + q0 + i) 1)) x)
  let tOf (i : Nat) : Nat := min (s.memNat (blk.tcount + 4 * lrow i) 4 + 1) (2 ^ 32 - 1)
  let old (i : Nat) : ElemOut := { w := ws.getD i 0, m := ms.getD i 0, v := vPrev i }
  let outs := idx.map (fun i =>
    if u.rule = 0 then smuElem k (gfs.getD i 0) (ws.getD i 0) (ms.getD i 0) (vPrev i)
    else if touched i && ffin (gN i) then n40Elem k (tOf i) (gN i) (ws.getD i 0) (ms.getD i 0) (vPrev i)
    else old i)
  let bad (i : Nat) : Bool := touched i && !ffin (if u.rule = 0 then gfs.getD i 0 else gN i)
  let done (i : Nat) : Bool := u.rule == 0 || (touched i && ffin (gN i))
  let convs := idx.map (fun i => u.copyConv b.step (g0 + i) (rec_.shift.getD (col i) 0) (outs.getD i {}).w)
  let cSize := if u.wfmt = 1 then 2 else 1
  let vMx := mxBlocks (outs.map (fun o => (f32 o.v, Rnd.rne)))
  let wMx := mxBlocks (idx.map (fun i => (f32 (outs.getD i {}).w, u.rnd b.step 1 (g0 + i))))
  let rows := (idx.map row).eraseDups
  let perElem (f : Nat → List (Nat × List Byte)) : List (Nat × List Byte) := (idx.filter done).flatMap f
  let dense :=
    [(blk.master + 4 * q0, wordBytes (outs.map ElemOut.w)), (blk.m + 4 * q0, wordBytes (outs.map ElemOut.m)),
     (blk.wcopy + cSize * q0, convs.flatMap (fun c => leBytes cSize c.code))] ++
    (match u.vform with
      | 0 => [(blk.v + 4 * q0, wordBytes (outs.map ElemOut.v))]
      | 1 => []
      | _ => [(blk.v + q0, vMx.1), (blk.v + total + q0 / 32, vMx.2)]) ++
    (if u.wfmt = 3 then [(blk.wshift, rec_.shift.map (BitVec.ofInt 8))] else []) ++
    (if u.flags.testBit 1 then [(blk.wmx + q0, wMx.1), (blk.wmx + total + q0 / 32, wMx.2)] else [])
  let sparse := perElem (fun i =>
      [(blk.master + 4 * (q0 + i), leBytes 4 (outs.getD i {}).w.toNat), (blk.m + 4 * (q0 + i), leBytes 4 (outs.getD i {}).m.toNat),
       (blk.v + 4 * (q0 + i), leBytes 4 (outs.getD i {}).v.toNat),
       (blk.wcopy + 2 * (q0 + i), leBytes 2 (convs.getD i {}).code)]) ++
    (rows.filter (fun r => b.touched.elem r)).map (fun r =>
      (blk.tcount + 4 * (r - e.first j / u.cols), leBytes 4 (tOf (r * u.cols - g0))))
  let over_ := idx.filter touched
  let sumBy (f : Nat → W32) (l : List Nat) : W64 := packPair (laneSum (l.map (fun i => (g0 + i, f i))))
  let wOf (i : Nat) : W32 := (outs.getD i {}).w
  let stats : PartStats := {
    layer := u.layer, part := j
    gg := sumBy (fun i => fmul (gfs.getD i 0) (gfs.getD i 0)) (over_.filter (fun i => ffin (gfs.getD i 0)))
    nonfinite := (idx.filter bad).length
    ww := sumBy (fun i => fmul (wOf i) (wOf i)) over_
    dd := sumBy (fun i => fmul (outs.getD i {}).d (outs.getD i {}).d) over_
    chmax := (List.range u.cols).map (fun c => maxMag ((over_.filter (fun i => col i == c)).map wOf))
    colsum := if u.vform = 1 then
        (List.range u.cols).map (fun c => sumBy (fun i => (outs.getD i {}).e2) (over_.filter (fun i => col i == c)))
      else [] }
  { writes := if u.rule = 0 then dense else sparse
    stats := {
      step := b.step, layer := u.layer, part := j, chunk := b.chunk, stats := stats
      rows := if u.vform = 1 then rows.map (fun r => (r, sumBy (fun i => (outs.getD i {}).e2) (over_.filter (fun i => row i == r)))) else []
      hit := if u.rule = 1 then rows.filter (fun r => b.touched.elem r) else [] }
    clipped := if u.wfmt = 3 then (idx.filter (fun i => (convs.getD i {}).clipped)).map col else []
    nonfinite := (idx.filter bad).length }

/-- The ranges that the update of a chunk reads. -/
def State.chunkReads (s : State) (e : LayerEntry) (u : UEntry) (j c : Nat) : List (Nat × Nat) :=
  let blk := s.partBlk u j
  let n := e.inChunk c
  let q0 := c * chunkSize - e.first j
  let r0 := (c * chunkSize) / u.cols - e.first j / u.cols
  let nr := (n + u.cols - 1) / u.cols
  [(u.parts.getD j 0 % 2 ^ 48, 128), (blk.master + 4 * q0, 4 * n), (blk.m + 4 * q0, 4 * n), (blk.stats, u.statBytes)] ++
    (match u.vform with
      | 0 => [(blk.v + 4 * q0, 4 * n)]
      | 1 => [(blk.v + 4 * r0, 4 * nr)]
      | _ => [(blk.v + q0, n), (blk.v + e.count j + q0 / 32, n / 32)]) ++
    (if u.rule = 1 then [(blk.tcount + 4 * r0, 4 * nr)] else [])

/-! ## A part's totals and a layer's record -/

/-- Chunk partials in ascending chunk order. -/
def sortChunks (l : List ChunkStats) : List ChunkStats := l.mergeSort (fun a b => a.chunk ≤ b.chunk)

/-- The totals of several partials, in the order given. -/
def totalOf (layer part : Nat) (l : List PartStats) : PartStats :=
  let n := l.foldl (fun m p => max m p.chmax.length) 0
  let nc := l.foldl (fun m p => max m p.colsum.length) 0
  { layer := layer, part := part, gg := foldPairs (l.map PartStats.gg), nonfinite := (l.map PartStats.nonfinite).sum
    ww := foldPairs (l.map PartStats.ww), dd := foldPairs (l.map PartStats.dd)
    chmax := (List.range n).map (fun i => maxMag (l.map (fun p => p.chmax.getD i 0)))
    colsum := (List.range nc).map (fun i => foldPairs (l.map (fun p => p.colsum.getD i 0)))
    rowsum := foldPairs (l.map PartStats.rowsum) }

/-- The row estimates that a part's end writes under vform 1, by row (R276). -/
def State.newRows (s : State) (e : LayerEntry) (u : UEntry) (j : Nat) (l : List ChunkStats) : List (Nat × W32) :=
  let blk := s.partBlk u j
  let parts := (sortChunks l).flatMap ChunkStats.rows
  ((parts.map Prod.fst).eraseDups).map (fun r =>
    let sum := foldPairs ((parts.filter (fun x => x.1 == r)).map Prod.snd)
    let old : W32 := BitVec.ofNat 32 (s.memNat (blk.v + 4 * (r - e.first j / u.cols)) 4)
    (r, fma u.beta2 old (fmul (fsub fone u.beta2) (fdiv (sumVal sum) (fnat u.cols)))))

/-- k_j of R279. For a finite M above 224 × 2⁶⁴ the spec states none: a free value. -/
def shiftOf (m : W32) : Int :=
  if !ffin m ∨ fzero m then 0
  else
    let ok (k : Int) : Bool := !Num.lt (.fin false 224 0) (Num.scale (f32 m) k)
    match (List.range 128).find? (fun (i : Nat) => ok (63 - (i : Int))) with
    | some i => 63 - (i : Int)
    | none => (Config.freeFn 0x279 [m.toNat] % 128 : Nat) - 64

/-- The layer's new record from its totals (R276, R279, R290). -/
def UEntry.newRec (u : UEntry) (e : LayerEntry) (step : Nat) (old : StatRec) (p : PartStats) : StatRec :=
  let n := fnat e.elements
  let c2 := fsub fone u.beta2
  let base : StatRec := { old with step := step, gnorm := fsqrt (sumVal p.gg), nonfinite := p.nonfinite }
  if u.rule = 1 then base
  else
    let r1 : StatRec := { base with
      rmsW := fsqrt (fdiv (sumVal p.ww) n), rmsD := fsqrt (fdiv (sumVal p.dd) n)
      shift := (List.range u.cols).map (fun j => shiftOf (p.chmax.getD j 0)) }
    if u.vform = 1 then
      { r1 with
        c := (List.range u.cols).map (fun j => fma u.beta2 (old.c.getD j 0) (fmul c2 (fdiv (sumVal (p.colsum.getD j 0)) (fnat u.rows))))
        s := fdiv (sumVal p.rowsum) (fnat u.rows) }
    else r1

/-- Does a layer fail its check (R282)? -/
def UEntry.fails (u : UEntry) (r : StatRec) : Bool :=
  decide (u.nfmax < r.nonfinite) || (!fzero u.gmax && (!ffin r.gnorm || fltB u.gmax r.gnorm))

end Sys2Proof.Machine
end

