-- ==== Sys2Proof/Machine/Pass.lean ====
section
/-! DEFINITION. The pass engines: requests, packets, reductions, the late ledger, update sequences and their chunks, masks, top-k
merges (R245–R256, R264, R268–R270, R281–R286). -/

namespace Sys2Proof.Machine

def oLateFolded : Nat := objKey 0x2700 0x0B
def oDroppedC : Nat := objKey 0x2700 0x0C
def oGenExcluded : Nat := objKey 0x2700 0x0E

/-! ## Pass packets (R248, Table 08.5) -/

/-- The set of the active flash slot. -/
def State.activeSet (s : State) : FwSet := s.dev.running

/-- Generations of this device: pass microcode of the running firmware, determinism (R296). -/
def State.ownGen (s : State) : Nat := s.activeSet.passmc % 16 * 16 + 2

/-- The bytes of a pass packet. -/
def passBytes (type : Nat) (p : PassPkt) : List Byte :=
  leBytes 1 type ++ leBytes 1 p.gen ++ leBytes 2 p.epoch ++ leBytes 4 p.step ++ leBytes 4 p.layer ++
    leBytes 4 (p.chunk * 16 + p.idx % 16) ++ leBytes 2 p.member ++ leBytes 2 p.dev ++ leBytes 2 p.payload.length ++ leBytes 1 p.fmt ++
    leBytes 1 p.flags ++ leBytes 4 p.league ++ leBytes 4 p.seq ++ p.payload

/-- The engine that serves a layer: L mod 8, or the next one while that is out of service (R246, R401, R402). -/
def State.engineOf (s : State) (layer : Nat) : Nat := s.serving (layer % 8)

/-- A pass packet sent to another device by engine e under a layout: in PASSD, or in PASSC for the huddle's control packets
(Table 10.5). -/
def State.sendPassBy (s : State) (l : Layout) (e type dst : Nat) (p : PassPkt) : State :=
  let q : PassPkt := { p with gen := s.ownGen, epoch := l.epoch, dev := s.ownDev, league := l.league, seq := Tab.get s.pass.seqs 0 dst }
  let ctl := decide (5 ≤ type) && decide (type ≤ 9)
  let x := s.engine e
  let s1 := s.setEngine e { x with packetsOut := x.packetsOut + 1 }
  ({ s1 with pass := { s1.pass with seqs := Tab.set s1.pass.seqs 0 dst ((q.seq + 1) % 2 ^ 32) } }).sendPkt
    { type := if ctl then 0x21 else 0x20, vc := if ctl then 6 else 4, dst := dst, league := l.league, payload := passBytes type q }

/-- A pass packet sent by the engine that serves its layer. -/
def State.sendPass (s : State) (l : Layout) (type dst : Nat) (p : PassPkt) : State := s.sendPassBy l (s.engineOf p.layer) type dst p

/-- A long payload in numbered packets, each with the same head, the last one flagged. -/
def State.sendPieces (s : State) (l : Layout) (e type dst : Nat) (p : PassPkt) (head data : List Byte) : State :=
  let k := 4096 - head.length
  let n := max 1 ((data.length + k - 1) / k)
  s.forAll (List.range n) (fun s i =>
    s.sendPassBy l e type dst { p with
      chunk := i / 16, idx := i % 16, flags := if i + 1 = n then 2 else 0, payload := head ++ (data.drop (k * i)).take k })

/-- A pass packet of so many payload bytes arrives on its link, in PASSC or PASSD: its bytes counted, its flits freed (R302, R306). -/
def State.arrivePass (s : State) (ctl : Bool) (p : PassPkt) (bytes : Nat) : State :=
  let n := 1 + (32 + bytes + 31) / 32
  (s.bump (oLink p.link 0x10) (32 * n)).freeVc p.link ((if ctl then 6 else 4) + p.lane) n

/-- A packet counted in, or discarded (R248). -/
def State.countIn (s : State) (layer : Nat) : State :=
  let x := s.engine (s.engineOf layer)
  s.setEngine (s.engineOf layer) { x with packetsIn := x.packetsIn + 1 }
def State.discardPass (s : State) (layer : Nat) : State :=
  let x := s.engine (s.engineOf layer)
  s.setEngine (s.engineOf layer) { x with discarded := x.discarded + 1 }

/-- Is a peer fenced from a league by this device (R326)? -/
def State.leagueFenced (s : State) (dev league : Nat) : Bool :=
  s.fabric.fences.any (fun (f : Fence) => f.kind == 2 && f.dev == dev && f.league == league)

/-- The layout under which a step's contributions go: the armed one from its effective step on (R262). DEDUCED: a request for the step after
the open one names that layout's owners before the switch too. -/
def State.layoutFor (s : State) (step : Nat) : Option Layout :=
  match s.pass.armed with
  | some (a, n) => if n ≤ step then some a else s.pass.layout
  | none => s.pass.layout

/-- A packet other than a contribution held for a layout that is armed, or one of an epoch not armed (R263). -/
def State.holdPass (s : State) (b : PassBody) (p : PassPkt) : State := { s with pass := { s.pass with heldPass := s.pass.heldPass ++ [(b, p)] } }
def State.holdUnknown (s : State) (b : PassBody) (p : PassPkt) : State := { s with pass := { s.pass with unknown := s.pass.unknown ++ [(b, p)] } }

/-- What a received pass packet meets: taken under the current layout, from an older epoch, of an epoch armed or unknown, or
discarded (R248, R262, R263, R326). -/
inductive PassFate where
  | current
  | old
  | armed
  | unknown
  | discard
deriving DecidableEq, Repr

def State.passFate (s : State) (p : PassPkt) : PassFate :=
  match s.pass.layout with
  | none => .discard
  | some l =>
    if p.league ≠ l.league ∨ s.leagueFenced p.dev p.league then .discard
    else if p.epoch = l.epoch then .current
    else if s.pass.old.any (fun (o : Layout) => o.epoch == p.epoch) then .old
    else if s.pass.armed.any (fun a => a.1.epoch == p.epoch) then .armed
    else .unknown

/-! ## Buffers of an engine (R265) -/

def State.holdBuf (s : State) (layer n : Nat) : State :=
  let x := s.engine (s.engineOf layer)
  s.setEngine (s.engineOf layer) { x with free := x.free - n, held := x.held + n }

/-- The number of a pass-buffer rebuild among the changes of R403. -/
def chgBufs (e : Nat) : Nat := 0x3001 + e

/-- Buffers let go; an engine that then holds none checks its balance. -/
def State.freeBuf (s : State) (layer n : Nat) : State :=
  let e := s.engineOf layer
  let x := s.engine e
  let y := { x with free := x.free + n, held := x.held - n }
  let s1 := s.setEngine e y
  if y.held = 0 ∧ y.free ≠ 1024 then (s1.event 0x270A (srcCluster e) [(1, e), (4, y.free), (4, y.held)]).beginService (chgBufs e) else s1

/-! ## Masks (R253) -/

/-- A mask's bytes: bit m for member m. -/
def maskOf (members : Nat) (l : List Nat) : List Byte :=
  leBytes ((members + 7) / 8) (l.eraseDups.foldl (fun n m => n + 2 ^ m) 0)

def State.recordMask (s : State) (r : MaskRec) : State :=
  { s with pass := { s.pass with
    masks := s.pass.masks.filter (fun (x : MaskRec) => !(x.step == r.step && x.layer == r.layer && x.chunk == r.chunk)) ++ [r] } }

/-! ## Reductions -/

def State.redOf (s : State) (step layer chunk : Nat) : Option Reduction :=
  s.pass.reds.find? (fun (r : Reduction) => r.step == step && r.layer == layer && r.chunk == chunk)

def State.putRed (s : State) (r : Reduction) : State :=
  { s with pass := { s.pass with
    reds := s.pass.reds.filter (fun (x : Reduction) => !(x.step == r.step && x.layer == r.layer && x.chunk == r.chunk)) ++ [r] } }

/-- The event's source: the cluster and pass engine of a layer. -/
def State.srcPass (s : State) (layer : Nat) : Nat := srcCluster (s.engineOf layer)

/-- A contribution dropped (R249, R254, R255): counted, with event 0x2703. Causes: 1 too old, 2 late under policy 0, 3 the ledger is
full, 4 not folded in the next step, 5 a layout switch, 6 more than one step ahead. -/
def State.dropContrib (s : State) (step layer member cause : Nat) : State :=
  (s.bump oDroppedC 1).event 0x2703 (s.srcPass layer) [(4, step), (4, layer), (2, member), (1, cause)]

/-- Does a device's determinism generation differ (R245): as its HELLO or its packets gave it? -/
def State.genDiffers (s : State) (dev : Nat) : Bool :=
  s.pass.gens.any (fun e => e.1 == dev && e.2 != 2) ||
    (List.range 64).any (fun l => s.obj (oLink l 5) == dev && dev != 0xFFFF && s.obj (oLink l 7) % 256 != 2)

/-- Event 0x2709 once per step for a member excluded by generation. -/
def State.noteGen (s : State) (step layer member gen : Nat) : State :=
  if s.pass.genNoted.elem (step, member) then s
  else { s with pass := { s.pass with genNoted := (step, member) :: s.pass.genNoted } }.event 0x2709 (s.srcPass layer)
    [(4, step), (2, member), (1, gen)]

/-- The generation known of a device that differs. -/
def State.genKnown (s : State) (dev : Nat) : Nat :=
  match s.pass.gens.find? (fun e => e.1 == dev) with
  | some e => e.2
  | none => (((List.range 64).find? (fun l => s.obj (oLink l 5) == dev)).map (fun l => s.obj (oLink l 7) % 256)).getD 2

/-- Packets that a chunk's contribution takes in a format: FP32 or BF16. -/
def contribSize (fmt : Nat) : Nat := if fmt = 0 then 4 else 2
def packetsFor (n fmt : Nat) : Nat := (n * contribSize fmt + 4095) / 4096

/-- A member's packets of a chunk, by index. -/
def Reduction.of (r : Reduction) (m : Nat) : List PassPkt :=
  ((r.held.filter (fun (p : PassPkt) => p.member == m)).mergeSort (fun a b => a.idx ≤ b.idx))

/-- Has a member's contribution arrived whole? -/
def Reduction.whole (r : Reduction) (n m : Nat) : Bool :=
  let l := r.of m
  match l with
  | [] => false
  | p :: _ => l.length == packetsFor n p.fmt && l.all (fun q => q.fmt == p.fmt) &&
      l.foldl (fun k (q : PassPkt) => k + q.payload.length) 0 == n * contribSize p.fmt

/-- The values of a contribution, exactly widened to FP32. -/
def contribVals (l : List PassPkt) : List W32 :=
  let bs := l.flatMap PassPkt.payload
  match l with
  | [] => []
  | p :: _ =>
    if p.fmt = 0 then wordsOf bs else (recordsOf 2 bs).map (fun b => toF32 (bf16.decode (leNat b)))

/-- The rows of a chunk in which a contribution carries an element other than ±0 (R289). -/
def touchedRows (cols g0 : Nat) (vals : List W32) : List Nat :=
  if cols = 0 then []
  else ((((List.range vals.length).zip vals).filter (fun e => !fzero e.2)).map (fun e => (g0 + e.1) / cols)).eraseDups

/-- One contribution folded (R250): the first sets the pairs, later ones follow R53. -/
def Reduction.fold (r : Reduction) (cols : Nat) (vals : List W32) : Reduction :=
  let acc := if r.c = 0 then vals.map (fun v => (v, (0 : W32))) else List.zipWith pairAdd r.acc vals
  { r with
    acc := acc, c := r.c + 1
    touched := (r.touched ++ touchedRows cols (r.chunk * chunkSize) vals).eraseDups }

/-- The ledger's packets of a member's contribution of the step before, for a chunk (R254). -/
def State.ledgerOf (s : State) (step layer chunk m : Nat) : List PassPkt :=
  ((s.pass.ledger.filter (fun (p : PassPkt) => p.step + 1 == step && p.layer == layer && p.chunk == chunk && p.member == m)).mergeSort
    (fun a b => a.idx ≤ b.idx))

/-- Bytes that the ledger holds, and its capacity 2410:06 in MiB. -/
def State.ledgerBytes (s : State) : Nat := s.pass.ledger.foldl (fun n (p : PassPkt) => n + p.payload.length) 0
def State.ledgerRoom (s : State) (n : Nat) : Bool := decide (s.ledgerBytes + n ≤ s.obj (objKey 0x2410 6) * 2 ^ 20)

/-- The row length of a layer under the N40 rule; 0 otherwise. -/
def State.n40Cols (s : State) (l : Layout) (layer : Nat) : Nat :=
  match s.updEntry l layer with
  | some (_, u) => if u.rule = 1 then u.cols else 0
  | none => 0

def State.buf (s : State) (e : Nat) : List BufChunk := Tab.get s.upd.bufs [] e
def State.setBuf (s : State) (e : Nat) (l : List BufChunk) : State := { s with upd := { s.upd with bufs := Tab.set s.upd.bufs [] e l } }
def State.bufRoom (s : State) (e : Nat) : Bool := decide ((s.buf e).length < (s.sampleOf s.openStep).depth)

/-- A decided chunk put in its engine's update buffer where it has room (R268). -/
def State.bufferRed (s : State) (r : Reduction) : State :=
  let e := s.engineOf r.layer
  if !r.decided ∨ r.buffered ∨ !s.bufRoom e then s
  else
    let b : BufChunk := { step := r.step, layer := r.layer, chunk := r.chunk, c := r.c, pairs := r.acc, touched := r.touched }
    let s1 := s.putRed { r with buffered := true, acc := [], touched := [] }
    if s.upd.stopped.elem r.layer then s1 else s1.setBuf e (s1.buf e ++ [b])

/-- A mask decided (R252–R255): the quorum, the MASK packets, the aged ledger entries dropped, the chunk handed to the update. -/
def State.decideMask (s : State) (l : Layout) (e : LayerEntry) (r : Reduction) : State :=
  let r1 := { r with decided := true, acc := if r.c = 0 then List.replicate (e.inChunk r.chunk) (0, 0) else r.acc }
  let q := (s.sampleOf r.step).quorum
  let s1 := s.putRed r1
  let s2 := if r.c < (l.members * q + 99) / 100 then
      ({ s1 with pass := { s1.pass with failed := true } }).event 0x2704 (s.srcPass r.layer)
        [(4, r.step), (4, r.layer), (4, r.chunk), (4, r.c)]
    else s1
  let mask := maskOf l.members r.folded
  let late := maskOf l.members r.late
  let p : PassPkt := { step := r.step, layer := r.layer, chunk := r.chunk, member := (l.memberOf s.ownDev e.stage).getD 0
                       payload := mask ++ late ++ leBytes 4 r.c }
  let s3 := s2.forAll (l.replicas e) (fun s d =>
    if d = s.ownDev then s.recordMask { step := r.step, layer := r.layer, chunk := r.chunk, mask := mask, late := late, c := r.c }
    else s.sendPass l 2 d p)
  let aged := s3.pass.ledger.filter (fun (p : PassPkt) => p.step + 1 == r.step && p.layer == r.layer && p.chunk == r.chunk)
  let s4 := s3.forAll ((aged.map PassPkt.member).eraseDups) (fun s m => s.dropContrib (r.step - 1) r.layer m 4)
  let s5 := { s4 with pass := { s4.pass with ledger := s4.pass.ledger.filter (fun p =>
    !(p.step + 1 == r.step && p.layer == r.layer && p.chunk == r.chunk)) } }
  s5.bufferRed r1

/-- The ledger entry of the member just passed, folded (R254). -/
def State.foldLate (s : State) (cols : Nat) (r : Reduction) (m : Nat) : State × Reduction :=
  match s.ledgerOf r.step r.layer r.chunk m with
  | [] => (s, r)
  | ps =>
    let s1 := { s with pass := { s.pass with ledger := s.pass.ledger.filter (fun p =>
      !(p.step + 1 == r.step && p.layer == r.layer && p.chunk == r.chunk && p.member == m)) } }
    let r1 := r.fold cols (contribVals ps)
    ((s1.bump oLateFolded 1).event 0x2702 (s.srcPass r.layer) [(4, r.step - 1), (4, r.layer), (4, r.chunk), (2, m)],
      { r1 with late := r1.late ++ [m] })

/-- A member's packets of a chunk let go. -/
def State.dropHeld (s : State) (r : Reduction) (m : Nat) : State × Reduction :=
  let n := (r.held.filter (fun (p : PassPkt) => p.member == m)).length
  (if n = 0 then s else s.freeBuf r.layer n, { r with held := r.held.filter (fun (p : PassPkt) => p.member != m) })

/-- The fold of a chunk as far as its contributions allow, in member order (R250); a member whose device is of another determinism generation
is passed over (R245). No new fold starts while the update buffer is full (R268). -/
def State.advance (l : Layout) (e : LayerEntry) (cols : Nat) : Nat → State → Reduction → State
  | 0, s, r => s.putRed r
  | fuel + 1, s, r =>
    if l.members ≤ r.next then s.decideMask l e r
    else if r.c = 0 ∧ !s.bufRoom (s.engineOf r.layer) then s.putRed r
    else
      let m := r.next
      let dev := l.devAt m e.stage
      let r0 := { r with next := m + 1 }
      let go (x : State × Reduction) : State :=
        let y := x.1.foldLate cols x.2 m
        State.advance l e cols fuel y.1 y.2
      if r.excluded.elem m then go (s, r0)
      else if s.genDiffers dev then
        go ((s.noteGen r.step r.layer m (s.genKnown dev)).dropHeld { r0 with excluded := r.excluded ++ [m] } m)
      else if r.whole (e.inChunk r.chunk) m then
        let ps := r.of m
        let r1 := { r0.fold cols (contribVals ps) with
          folded := r.folded ++ [m], held := r.held.filter (fun (p : PassPkt) => p.member != m) }
        go (s.freeBuf r.layer ps.length, r1)
      else s.putRed r

/-- A chunk's deadline: every member whose contribution has not arrived is excluded, and the mask is fixed (R252). -/
def State.expireRed (s : State) (l : Layout) (e : LayerEntry) (r : Reduction) : State × Reduction :=
  let miss := (List.range l.members).filter (fun m =>
    decide (r.next ≤ m) && !r.excluded.elem m && !s.genDiffers (l.devAt m e.stage) && !r.whole (e.inChunk r.chunk) m)
  (s.forAll miss (fun s m => s.event 0x2701 (s.srcPass r.layer) [(4, r.step), (4, r.layer), (4, r.chunk), (2, m)]),
    { r with excluded := r.excluded ++ miss, due := true })

/-- A chunk's reduction begun: members of another determinism generation are excluded (R245). -/
def State.newRed (s : State) (l : Layout) (e : LayerEntry) (step chunk : Nat) : State × Reduction :=
  let out := (List.range l.members).filter (fun m => s.genDiffers (l.devAt m e.stage))
  let s1 := s.forAll out (fun s m => s.noteGen step e.layer m (s.genKnown (l.devAt m e.stage)))
  (s1, { step := step, layer := e.layer, chunk := chunk, excluded := out })

/-- A step tried again: the DISCARD held of an earlier attempt no longer answers for it (R257, R260). DESIGN CHOICE: the packets of two
attempts of a step cannot be told apart, and a device takes the second for begun at its first request, contribution or READY. -/
def State.newAttempt (s : State) (step : Nat) : State :=
  { s with pass := { s.pass with decisions := s.pass.decisions.filter (fun d => d.1 != step || d.2) } }

/-- The step sample at the first contribution of a step (R251), kept for the step and the next. -/
def State.takeSample (s : State) (step : Nat) : State :=
  if s.pass.samples.any (fun (x : StepSample) => x.step == step) then s
  else ({ s with pass := { s.pass with samples := s.newSample step :: s.pass.samples.take 1 } } : State).newAttempt step

/-- A late contribution, whole: dropped, or kept in the ledger for the next step (R254, R255). -/
def State.lateContrib (s : State) (r : Reduction) (m : Nat) : State :=
  let ps := r.of m
  let n := ps.foldl (fun k (p : PassPkt) => k + p.payload.length) 0
  let s1 := (s.putRed { r with held := r.held.filter (fun (p : PassPkt) => p.member != m) }).freeBuf r.layer ps.length
  let policy := (s.sampleOf r.step).policy
  let passed := (s.redOf (r.step + 1) r.layer r.chunk).any Reduction.decided
  if policy = 0 then s1.dropContrib r.step r.layer m 2
  else if passed then s1.dropContrib r.step r.layer m 4
  else if !s1.ledgerRoom n then s1.dropContrib r.step r.layer m 3
  else { s1 with pass := { s1.pass with ledger := s1.pass.ledger ++ ps } }

def State.holdPkt (s : State) (p : PassPkt) : State := { s with pass := { s.pass with heldPkts := s.pass.heldPkts ++ [p] } }

/-- The undecided reductions that meet a condition go on (R245, R268). -/
def State.advanceAll (s : State) (l : Layout) (f : Reduction → Bool) : State :=
  s.forAll (s.pass.reds.filter (fun (r : Reduction) => !r.decided && f r)) (fun s r =>
    match l.layer? r.layer, s.redOf r.step r.layer r.chunk with
    | some e, some r => s.advance l e (s.n40Cols l r.layer) (l.members + 1) r
    | _, _ => s)

/-- The reductions go on once a partner's HELLO has named another determinism generation (R245). -/
def State.regroup (s : State) : State :=
  match s.pass.layout with
  | some l => s.advanceAll l (fun _ => true)
  | none => s

/-- A contribution under the current layout, for a layer that this device owns the part of (R249–R254). -/
def State.contribHere (s0 : State) (l : Layout) (e : LayerEntry) (p : PassPkt) : State :=
  let s := if p.step = s0.openStep then s0.takeSample p.step else s0
  let o := s.openStep
  let n := e.inChunk p.chunk
  let dev := l.devAt p.member e.stage
  if p.step = o + 1 ∨ (s.pass.handover.elem (p.layer, e.partOf p.chunk)) then s.holdPkt p
  else if p.step + 1 < o then if p.idx = 0 then s.dropContrib p.step p.layer p.member 1 else s
  else if o < p.step then if p.idx = 0 then s.dropContrib p.step p.layer p.member 6 else s
  else if p.gen % 16 ≠ 2 ∨ s.genDiffers dev then
    let s1 := { s with pass := { s.pass with gens := (dev, p.gen % 16) :: s.pass.gens.filter (fun g => g.1 != dev) } }
    let s2 := (if p.gen % 16 ≠ 2 then s1 else s).noteGen p.step p.layer p.member (if p.gen % 16 ≠ 2 then p.gen % 16 else s.genKnown dev)
    ((if p.idx = 0 then s2.bump oGenExcluded 1 else s2).discardPass p.layer).advanceAll l (fun _ => true)
  else if (s.engine (s.engineOf p.layer)).free = 0 then s.holdPkt p
  else
    let x := match s.redOf p.step p.layer p.chunk with
      | some r => (s, r)
      | none =>
        let y := s.newRed l e p.step p.chunk
        (y.1, { y.2 with decided := decide (p.step < o) })
    let r := x.2
    if r.folded.elem p.member ∨ r.held.any (fun (q : PassPkt) => q.member == p.member && q.idx == p.idx) then s.discardPass p.layer
    else
      let s1 := x.1.holdBuf p.layer 1
      let s2 := if p.step = o ∧ !s1.pass.started.elem p.layer then
          { s1 with pass := { s1.pass with started := p.layer :: s1.pass.started } }
        else s1
      let r1 := { r with held := r.held ++ [p] }
      if !r.decided ∧ !(r.due ∧ r.excluded.elem p.member) then s2.advance l e (s2.n40Cols l p.layer) (l.members + 1) r1
      else if r1.whole n p.member then (s2.putRed r1).lateContrib r1 p.member
      else s2.putRed r1

/-- The layer of a contribution, where this device folds its chunk under a layout. -/
def State.foldsHere (s : State) (l : Layout) (p : PassPkt) : Option LayerEntry :=
  match l.layer? p.layer with
  | none => none
  | some e =>
    if e.chunks ≤ p.chunk ∨ l.members ≤ p.member ∨ 1 < p.fmt ∨ l.ownerOf e (e.partOf p.chunk) ≠ s.ownDev then none else some e

/-- A CONTRIB packet reaches this device. One of the old epoch came too late for its step (R255); DESIGN CHOICE: one sent before the
switch for a step that the new layout governs is folded where that layout has the same owner and member, else dropped. -/
def State.onContrib (s : State) (p : PassPkt) : State :=
  match s.passFate p, s.pass.layout with
  | .current, some l =>
    (match s.foldsHere l p with
      | none => s.discardPass p.layer
      | some e => s.contribHere l e p)
  | .old, some l =>
    (match s.foldsHere l p with
      | some e =>
        if s.pass.switchStep ≤ p.step ∧ l.devAt p.member e.stage = p.dev then s.contribHere l e { p with epoch := l.epoch }
        else if p.idx = 0 then s.dropContrib p.step p.layer p.member 5
        else s
      | none => if p.idx = 0 then s.dropContrib p.step p.layer p.member 5 else s)
  | .armed, _ => s.holdPkt p
  | .unknown, _ => s.holdUnknown .contrib p
  | _, _ => s.discardPass p.layer

/-- Contributions held under back-pressure try again. -/
def State.pumpHeld (s : State) : State :=
  let l := s.pass.heldPkts
  { s with pass := { s.pass with heldPkts := [] } }.forAll l State.onContrib

/-- Folds that waited for room in an engine's update buffer go on (R268). -/
def State.resume (s : State) (eng : Nat) : State :=
  match s.pass.layout with
  | none => s
  | some l =>
    let mine := s.pass.reds.filter (fun (r : Reduction) => s.engineOf r.layer == eng)
    let s1 := s.forAll (mine.filter (fun r => r.decided && !r.buffered)) (fun s r =>
      match s.redOf r.step r.layer r.chunk with
      | some r => s.bufferRed r
      | none => s)
    s1.advanceAll l (fun r => s.engineOf r.layer == eng)

/-- R248–R254, CONTRIB: a contribution packet reaches its owner. The row also carries the packets of a type that Table 08.5 does not list,
which are discarded and counted (R248). -/
def execContrib (x : ContribIn) (s : State) : Out :=
  commit s (fun s =>
    let s1 := (s.arrivePass false x.p x.p.payload.length).countIn x.p.layer
    if x.kind = 1 then (s1.onContrib x.p).pumpHeld else s1.discardPass x.p.layer)

/-- R251, R252: a layer's deadline expires. -/
def execStepDeadlineExpire (step layer : Nat) (s : State) : Out :=
  commit s (fun s =>
    match s.pass.layout with
    | none => s
    | some l =>
      match l.layer? layer with
      | none => s
      | some e =>
        if step ≠ s.openStep ∨ !s.pass.started.elem layer ∨ (s.sampleOf step).deadline = 0 then s
        else
          let chunks := ((List.range e.parts).filter (fun j => l.ownerOf e j == s.ownDev)).flatMap (fun j =>
            (List.range (e.nChunks j)).map (fun i => e.lo j + i))
          (s.forAll chunks (fun s c =>
            let x := match s.redOf step layer c with
              | some r => (s, r)
              | none => s.newRed l e step c
            if x.2.decided ∨ x.2.due then x.1
            else
              let y := x.1.expireRed l e x.2
              y.1.advance l e (y.1.n40Cols l layer) (l.members + 1) y.2)).pumpHeld)

/-- A replica records the masks of a chunk (R253). -/
def State.onMask (s : State) (l : Layout) (p : PassPkt) : State :=
  let k := (l.members + 7) / 8
  match l.layer? p.layer with
  | some e =>
    if (l.replicas e).elem s.ownDev ∧ p.payload.length = 2 * k + 4 then
      s.recordMask { step := p.step, layer := p.layer, chunk := p.chunk, mask := p.payload.take k
                     late := (p.payload.drop k).take k, c := fieldAt p.payload (2 * k) 4 }
    else s.discardPass p.layer
  | none => s.discardPass p.layer

/-- A replica's retained copy, or its cache-remote banks, take a pushed line's sectors where the epoch is its translation's (R261). -/
def State.onPush (s : State) (p : PassPkt) (addr epoch : Nat) : State :=
  let g := addr % 2 ^ 62
  let line := g / 4096
  let col := line % 96
  let bank := Tab.get (s.col col).steerR 0 (fold6 line)
  match s.remoteOf addr with
  | some t =>
    if t.sealed ∧ t.epoch = epoch ∧ (s.copyOf t).isSome then s.retain t g p.payload
    else if t.sealed ∧ t.epoch = epoch ∧ bank ≠ 0 ∧ g % 256 = 0 ∧ p.payload.length % 256 = 0 ∧ g % 4096 + p.payload.length ≤ 4096 then
      s.modCol col (fun k => k.install {
        bank := bank - 1, set := line / 64 % 32, line := line, remote := true, valid := sectorBits g p.payload.length
        epoch := epoch, data := Tab.writeBytes [] (g % 4096) p.payload })
    else s.discardPass p.layer
  | none => s.discardPass p.layer

/-! ## Requests (R246, R247) -/

/-- A request ends: the status at done + 8 unless OK, then 1 added at done, where its context may write there. -/
def State.requestDone (s : State) (r : PassReq) (status : Nat) : State :=
  let a := r.done.toNat % 2 ^ 48
  let may (s : State) (x : Nat) : Bool := s.useLocal r.ctx x true == 0
  let s1 := if status ≠ 0 && may s (a + 8) then s.homeStoreAs true (a + 8) ((leBytes 4 status).map (fun b => (b, true))) else s
  if may s1 a then s1.homeStoreAs true a ((leBytes 8 ((s1.memNat a 8 + 1) % 2 ^ 64)).map (fun b => (b, true))) else s1

/-- The front request of an engine taken off its queue. -/
def State.popReq (s : State) (e : Nat) : State :=
  let x := s.engine e
  s.setEngine e { x with reqs := x.reqs.drop 1 }

/-- The bytes that a request reads: local memory that its context may read and that is not poisoned, or what the peer's read gave. -/
def State.requestData (s : State) (r : PassReq) (peer : List Byte) (n : Nat) : Option (List Byte) :=
  if n = 0 then some []
  else if s.isLocal r.src then
    let a := localOf r.src
    if a + n ≤ 2 ^ 48 ∧ (List.range ((a + n - 1) / 65536 - a / 65536 + 1)).all (fun i => s.useLocal r.ctx (max a ((a / 65536 + i) * 65536)) false == 0) ∧
        !poisonedIn s.poison a n then some (s.readMem a n)
    else none
  else if s.routed (devOf r.src) ∧ peer.length = n then some peer else none

/-- The chunks of a CONTRIB request sent to their owners, in packets of 4 KiB. -/
def State.sendContribs (s0 : State) (l : Layout) (eng : Nat) (e : LayerEntry) (r : PassReq) (member : Nat) (data : List Byte) : State :=
  let sz := contribSize r.fmt
  let s := s0.newAttempt r.step
  (s.forAll (List.range r.count) (fun s i =>
    let c := r.first + i
    let bytes := (data.drop (i * chunkSize * sz)).take (e.inChunk c * sz)
    let n := (bytes.length + 4095) / 4096
    let dst := l.ownerOf e (e.partOf c)
    s.forAll (List.range n) (fun s k =>
      let p : PassPkt := {
        step := r.step, layer := r.layer, chunk := c, idx := k, member := member, fmt := r.fmt
        flags := if k + 1 = n then 2 else 0, payload := (bytes.drop (4096 * k)).take 4096 }
      if dst = s.ownDev then
        (s.countIn p.layer).onContrib { p with gen := s.ownGen, epoch := l.epoch, dev := s.ownDev, league := l.league }
      else s.sendPassBy l eng 1 dst p))).pumpHeld

/-- R246, R247: the front request of an engine, a CONTRIB or one of an unlisted operation: checked in the order of Table 08.4. -/
def execPassRequestContrib (e : EngId) (peer : List Byte) (s : State) : Out :=
  commit s (fun s =>
    match (s.engine e).reqs with
    | [] => s
    | r :: _ =>
      if r.op = 2 then s
      else
        let s1 := s.popReq e
        if r.op ≠ 1 ∨ 1 < r.fmt ∨ r.rows ≠ 0 ∨ r.k ≠ 0 ∨ r.root ≠ 0 ∨ r.out ≠ 0 ∨ r.bad then s1.requestDone r 0x0601
        else
          match s1.pass.layout, s1.layoutFor r.step with
          | none, _ | _, none => s1.requestDone r 0x0602
          | some cur, some l =>
            match l.layer? r.layer with
            | none => s1.requestDone r 0x0602
            | some x =>
              match l.memberOf s1.ownDev x.stage with
              | none => s1.requestDone r 0x0602
              | some m =>
                let n := ((List.range r.count).map (fun i => x.inChunk (r.first + i))).sum * contribSize r.fmt
                if (cur.layer? r.layer).all (fun y => (cur.memberOf s1.ownDev y.stage).isNone) then s1.requestDone r 0x0602
                else if x.chunks < r.first + r.count then s1.requestDone r 0x0603
                else
                  match s1.requestData r peer n with
                  | none => s1.requestDone r 0x0603
                  | some data =>
                    if s1.leagueOf r.ctx ≠ l.league then s1.requestDone r 0x0604
                    else if s1.openStep + 1 < r.step ∨ r.step + 1 < s1.openStep then s1.requestDone r 0x0605
                    else (s1.sendContribs l (s1.serving e) x r m data).requestDone r 0)

/-- R246: a window write that waited on a full queue. -/
def execPassQueueRoom (e : EngId) (s : State) : Out :=
  commit s (fun s =>
    let x := s.engine e
    match x.waiting with
    | [] => s
    | (c, id) :: w =>
      if 256 ≤ x.reqs.length then s
      else
        match ((s.core c).req id).map (fun r => (r.ctx, whole64 r.masked)) with
        | some (ctx, some (_, b)) => (s.setEngine e { x with waiting := w, reqs := x.reqs ++ [parseReq c ctx b] }).serve c id [] 0
        | _ => s.setEngine e { x with waiting := w })

/-! ## Top-k merges (R264) -/

/-- Does an entry (value, position, member) rank above another (R14, R79)? -/
def mergeAbove (x y : W32 × Nat × Nat) : Bool :=
  Num.below (f32 y.1) (f32 x.1) ||
    (!Num.below (f32 x.1) (f32 y.1) && (decide (x.2.2 < y.2.2) || (x.2.2 == y.2.2 && decide (x.2.1 < y.2.1))))

def mergeInsert (x : W32 × Nat × Nat) : List (W32 × Nat × Nat) → List (W32 × Nat × Nat)
  | [] => [x]
  | y :: r => if mergeAbove x y then x :: y :: r else y :: mergeInsert x r

/-- Bytes of a partial-list block (Table 03.4). -/
def blockBytes (rows k : Nat) : Nat := rows * (8 + 8 * k)

/-- A member's block offered to a merge: NaN entries count as NaN. -/
def Merge.offer (m : Merge) (member rows k : Nat) (b : List Byte) : Merge :=
  (List.range rows).foldl (fun (m : Merge) i =>
    let o := i * (8 + 8 * k)
    let n := min (fieldAt b o 4) k
    let es := (List.range n).map (fun e => ((BitVec.ofNat 32 (fieldAt b (o + 8 + 8 * e) 4) : W32), fieldAt b (o + 12 + 8 * e) 4))
    let good := es.filter (fun e => !(f32 e.1).isNan)
    { m with
      lists := Tab.upd m.lists [] i (fun l => good.foldl (fun l e => mergeInsert (e.1, e.2, member) l) l)
      nans := Tab.upd m.nans 0 i (fun c => min (c + fieldAt b (o + 4) 4 + (n - good.length)) (2 ^ 32 - 1)) })
    { m with rows := max m.rows rows, arrived := m.arrived ++ [member] }

/-- The merged block (Table 08.7). -/
def Merge.block (m : Merge) (rows k count : Nat) : List Byte :=
  let miss := (List.range count).filter (fun i => !m.arrived.elem i)
  leBytes 4 rows ++ leBytes 4 k ++ leBytes ((count + 63) / 64 * 8) (miss.foldl (fun n i => n + 2 ^ i) 0) ++
    (List.range rows).flatMap (fun i =>
      let l := (Tab.get m.lists [] i).take k
      leBytes 4 l.length ++ leBytes 4 (Tab.get m.nans 0 i) ++
        l.flatMap (fun e => leBytes 4 e.1.toNat ++ leBytes 4 e.2.1 ++ leBytes 2 e.2.2 ++ leBytes 6 0) ++
        leBytes (16 * (k - l.length)) 0)

def Merge.same (m x : Merge) : Bool := m.league == x.league && m.group == x.group && m.batch == x.batch
def State.dropMerge (s : State) (m : Merge) : State :=
  { s with pass := { s.pass with merges := s.pass.merges.filter (fun x => !x.same m) } }
def State.putMerge (s : State) (m : Merge) : State :=
  { s.dropMerge m with pass := { (s.dropMerge m).pass with merges := (s.dropMerge m).pass.merges ++ [m] } }

/-- Who waits for the acknowledgement of a merged block written to a peer: nobody. -/
def idEngine : Nat := 2 ^ 35

/-- A store of a long range at its home, line by line. -/
def State.homeStoreAll (s : State) (a : Nat) (b : List Byte) : State :=
  s.forAll (List.range ((a + b.length + 4095) / 4096 - a / 4096)) (fun s i =>
    let lo := max a ((a / 4096 + i) * 4096)
    let hi := min (a + b.length) ((a / 4096 + i + 1) * 4096)
    s.homeStoreAs true lo (((b.drop (lo - a)).take (hi - lo)).map (fun x => (x, true))))

/-- A merged block written at `out`, where the context may write: here, or in 256 B sectors to a peer. -/
def State.writeBlock (s : State) (ctx : Nat) (out : W64) (b : List Byte) : State :=
  if s.isLocal out then
    let a := localOf out
    if (List.range ((a + b.length - 1) / 65536 - a / 65536 + 1)).all (fun i => s.useLocal ctx (max a ((a / 65536 + i) * 65536)) true == 0) then
      s.homeStoreAll a b
    else s
  else
    let off := out.toNat % 256
    s.forAll (List.range ((off + b.length + 255) / 256)) (fun s i =>
      let lo := 256 * i - off
      let sect := if i = 0 then sectorOf off ((b.take (256 - off)).map (fun x => (x, true)))
        else sectorOf 0 (((b.drop lo).take 256).map (fun x => (x, true)))
      s.askPeer 0 idEngine ctx (BitVec.ofNat 64 (out.toNat / 256 * 256 + 256 * i)) none (storePkt sect))

/-- A merge whose root request is here completes when every member has arrived, or its deadline has passed. -/
def State.settleMerge (s : State) (m : Merge) : State :=
  match m.req with
  | none => s.putMerge m
  | some r =>
    let miss := ((List.range r.count).filter (fun i => !m.arrived.elem i)).length
    if miss ≠ 0 ∧ !m.expired then s.putMerge m
    else
      let s1 := (s.dropMerge m).writeBlock r.ctx r.out (m.block r.rows r.k r.count)
      if miss = 0 then s1.requestDone r 0
      else (s1.event 0x270B (s.srcPass m.group) [(4, m.group), (4, m.batch), (4, miss)]).requestDone r 0x0606

def State.mergeOf (s : State) (league group batch : Nat) : Merge :=
  (s.pass.merges.find? (fun m => m.league == league && m.group == group && m.batch == batch)).getD
    { league := league, group := group, batch := batch }

/-- R264, TOPK request at the front of an engine: at the root its own list and request join the merge; elsewhere the list is sent. -/
def execPassRequestTopk (e : EngId) (peer : List Byte) (s : State) : Out :=
  commit s (fun s =>
    match (s.engine e).reqs with
    | [] => s
    | r :: _ =>
      if r.op ≠ 2 then s
      else
        let s1 := s.popReq e
        if r.fmt ≠ 0 ∨ 32 < r.rows ∨ r.k = 0 ∨ 256 < r.k ∨ r.count = 0 ∨ 4096 < r.count ∨ r.count ≤ r.first ∨ 16383 < r.root ∨ r.bad ∨
            (r.root ≠ s.ownDev ∧ r.out ≠ 0) then s1.requestDone r 0x0601
        else
          match s1.requestData r peer (blockBytes r.rows r.k) with
          | none => s1.requestDone r 0x0603
          | some b =>
            match s1.pass.layout with
            | none => s1.requestDone r 0x0604
            | some l =>
              if s1.leagueOf r.ctx ≠ l.league then s1.requestDone r 0x0604
              else if r.root = s1.ownDev then
                let m := s1.mergeOf l.league r.layer r.step
                let m1 := if m.arrived.elem r.first then m else m.offer r.first r.rows r.k b
                s1.settleMerge { m1 with req := some r, k := r.k, count := r.count }
              else
                (s1.sendPieces l (s1.serving e) 11 r.root { step := r.step, layer := r.layer, member := r.first }
                  (leBytes 1 r.rows ++ leBytes 2 r.k ++ leBytes 2 r.count) b).requestDone r 0)

/-- A member's list, where every piece of it has arrived. -/
def Merge.listOf (m : Merge) (member : Nat) : Option (List Byte) :=
  let ps := (m.pieces.filter (fun x => x.1 == member)).mergeSort (fun a b => a.2.1 ≤ b.2.1)
  if ps.map (fun x => x.2.1) == List.range ps.length && (ps.getLast?).any (fun x => x.2.2.1) then some (ps.flatMap (fun x => x.2.2.2)) else none

/-- A packet of a member's list reaches the root (R264); its list joins the merge once it is whole. -/
def State.onTopk (s : State) (p : PassPkt) (rows k count root : Nat) : State :=
  let m := s.mergeOf p.league p.layer p.step
  let i := p.chunk * 16 + p.idx
  if root ≠ s.ownDev ∨ 32 < rows ∨ count ≤ p.member ∨ m.arrived.elem p.member ∨ m.pieces.any (fun x => x.1 == p.member && x.2.1 == i) then
    s.discardPass p.layer
  else
    let m1 := { m with pieces := m.pieces ++ [(p.member, i, p.flags.testBit 1, p.payload)] }
    match m1.listOf p.member with
    | none => s.putMerge m1
    | some b =>
      let m2 := { m1 with pieces := m1.pieces.filter (fun x => x.1 != p.member) }
      if b.length = blockBytes rows k then s.settleMerge (m2.offer p.member rows k b) else (s.putMerge m2).discardPass p.layer

/-- R264: 2700:08 µs after the first list. -/
def execMergeDeadlineExpire (league group batch : Nat) (s : State) : Out :=
  commit s (fun s =>
    match s.pass.merges.find? (fun m => m.league == league && m.group == group && m.batch == batch) with
    | some m => if m.arrived.isEmpty then s else s.settleMerge { m with expired := true }
    | none => s)

/-! ## The update of a buffered chunk (R268–R286) -/

/-- R269: the vendor update sequence of an engine's oldest waiting chunk starts on a core of its cluster. -/
def execUpdateSequenceStart (e : EngId) (s : State) : Out :=
  commit s (fun s =>
    match (s.buf e).find? (fun (b : BufChunk) => !b.running), s.pass.layout with
    | some b, some l =>
      (match s.updEntry l b.layer with
        | none => s
        | some (x, u) =>
          let q : Seq := {
            ctx := u.ctx, kind := 3, pc := BitVec.ofNat 64 (Config.freeNat s.fresh), cores := 1, tpc := 1, win := 4, eng := 2
            step := b.step, number := b.layer, nextBatch := x.partOf b.chunk, prio := 256, engine := e }
          let core := ((List.range 12).map (fun i => 12 * e.val + i)).find? (fun c => (s.fitCore q c).isSome)
          match core, s.freeSlotNo with
          | some c, some slot =>
            let ts := (s.fitCore q c).getD []
            let y := { q with placed := ts.map (fun t => (c, t.1, t.2.1, t.2.2)), live := ts.map (fun t => (c, t.1)) }
            let s1 := { s with fresh := s.fresh + 1 }.setSlot slot (some y)
            let s2 := s1.setBuf e ((s1.buf e).map (fun (x : BufChunk) =>
              if x.step = b.step ∧ x.layer = b.layer ∧ x.chunk = b.chunk then { x with running := true, slot := slot } else x))
            (s2.setObj oSlots s2.slotsUsed).startThreads y slot [(c, ts)]
          | _, _ => s)
    | _, _ => s)

/-- Every write of an update to shadows, in order; none where a frame is missing. -/
def State.shadowWrites (s : State) (l : List (Nat × List Byte)) : Option State :=
  l.foldl (fun (o : Option State) w =>
    match o with
    | some s => s.shadowWrite w.1 w.2
    | none => none) (some s)

/-- Does a range need a shadow in a page that is unsealing (R321)? -/
def State.mustWait (s : State) (l : List (Nat × List Byte)) : Bool :=
  l.any (fun w => (List.range ((w.1 + w.2.length) / 65536 - w.1 / 65536 + 1)).any (fun i =>
    match s.pageAt ((w.1 / 65536 + i) * 65536) with
    | some p => !s.shadowed p.base && p.sealed && (s.regionOf p.base).any Region.unsealing
    | none => false))

/-- A row of 2721:00 replaced. -/
def State.setVerdict (s : State) (v : LayerVerdict) : State :=
  { s with upd := { s.upd with
    verdicts := s.upd.verdicts.filter (fun (x : LayerVerdict) => !(x.layer == v.layer && x.part == v.part)) ++ [v] } }

/-- The arrays of the parts of this device's layers that are not released, beside one. -/
def State.otherArrays (s : State) (l : Layout) (layer part : Nat) : List (Nat × Nat) :=
  s.ownParts.flatMap (fun p =>
    if (p.1.layer = layer ∧ p.2 = part) ∨ s.upd.skipped.elem (p.1.layer, p.2) then []
    else
      match s.updEntry l p.1.layer with
      | some (e, u) => u.arrays (s.partBlk u p.2) (e.count p.2)
      | none => [])

/-- A part's shadows released by policy 1 (R282, R479). -/
def State.skipPart (s : State) (l : Layout) (e : LayerEntry) (u : UEntry) (j : Nat) : State :=
  let s1 := { s with upd := { s.upd with skipped := (e.layer, j) :: s.upd.skipped } }
  s1.releaseArrays (u.arrays (s.partBlk u j) (e.count j)) (s1.otherArrays l e.layer j)

/-- A step failed by policy 2, counted once (R282). -/
def State.failNorm (s : State) : State :=
  if s.pass.normFailed then s else ({ s with pass := { s.pass with normFailed := true } } : State).bump (objKey 0x2720 7) 1

/-- A layer's check and record at an owner of part j (R279–R282): event 0x2720 on failure, then the policy; `count` on the layer's first
part here. -/
def State.judge (s : State) (l : Layout) (e : LayerEntry) (u : UEntry) (j step : Nat) (p : PartStats) (count : Bool := true) : State :=
  let blk := s.partBlk u j
  let old := u.parseRec (s.readMem blk.stats u.statBytes)
  let r := u.newRec e step old p
  let policy := u.flags / 4 % 4
  let v (n : Nat) : LayerVerdict := { layer := e.layer, part := j, verdict := n, step := step, rmsW := r.rmsW, rmsD := r.rmsD,
                                      gnorm := r.gnorm, nonfinite := r.nonfinite }
  let apply_ (s : State) : State :=
    match s.shadowWrite blk.stats (r.bytes u) with
    | some t => t.setVerdict (v 0)
    | none => ((s.stopLayer e.layer).setVerdict (v 2)).event 0x2722 srcSched [(4, step), (4, e.layer), (1, j)]
  if !u.fails r then apply_ s
  else
    let s1 := s.when count (fun s =>
      s.event 0x2720 srcSched [(4, step), (4, e.layer), (4, r.gnorm.toNat), (4, r.nonfinite), (1, policy)])
    if policy = 0 then apply_ s1
    else if policy = 1 then
      ((s1.skipPart l e u j).setVerdict (v 1)).when count (fun s => s.bump (objKey 0x2720 6) 1)
    else
      (({ s1 with pass := { s1.pass with failed := true } } : State).setVerdict (v 2)).failNorm

/-- Every chunk of a part is updated: the row estimates, the part's totals, and for an unsplit layer the record (R276, R278, R281). -/
def State.partDone (s : State) (l : Layout) (e : LayerEntry) (u : UEntry) (j step : Nat) : State :=
  let cs := sortChunks (s.upd.chunks.filter (fun (x : ChunkStats) => x.step == step && x.layer == e.layer && x.part == j))
  let rows := if u.vform = 1 then s.newRows e u j cs else []
  let blk := s.partBlk u j
  let t := totalOf e.layer j (cs.map ChunkStats.stats)
  let tot : PartStats := { t with rowsum := packPair (laneSum rows) }
  match s.shadowWrites (rows.map (fun r => (blk.v + 4 * (r.1 - e.first j / u.cols), leBytes 4 r.2.toNat))) with
  | none => (s.stopLayer e.layer).event 0x2722 srcSched [(4, step), (4, e.layer), (1, j)]
  | some s1 =>
    let s2 := { s1 with upd := { s1.upd with totals := s1.upd.totals ++ [tot] } }
    if e.parts = 1 then s2.judge l e u j step (totalOf e.layer 0 [tot]) else s2

/-- R268, R275–R286: a chunk's update has run: its shadows and statistics written, its buffer freed, its sequence ended. -/
def execUpdateChunkDone (e : EngId) (s : State) : Out :=
  commit s (fun s =>
    match (s.buf e).find? (fun (b : BufChunk) => b.running), s.pass.layout, s.upd.table with
    | some b, some l, some t =>
      (match s.updEntry l b.layer with
        | none => s
        | some (x, u) =>
          let j := x.partOf b.chunk
          let ended (s : State) : State :=
            let s1 := s.endUpdates [b]
            ((s1.setBuf e ((s1.buf e).filter (fun (y : BufChunk) => !(y.step == b.step && y.layer == b.layer && y.chunk == b.chunk)))).resume
              e).pumpHeld
          match (s.chunkReads x u j b.chunk).find? (fun r => poisonedIn s.poison r.1 r.2) with
          | some r =>
            (ended (s.stopLayer b.layer)).event 0x2723 srcSched [(4, b.step), (4, b.layer), (1, j), (8, r.1)]
          | none =>
            let o := s.chunkOut t x u j b
            if s.mustWait o.writes then s
            else
              match s.shadowWrites o.writes with
              | none => (ended (s.stopLayer b.layer)).event 0x2722 srcSched [(4, b.step), (4, b.layer), (1, j)]
              | some s1 =>
                let blk := s.partBlk u j
                let scr := blk.scratch + 1024 * (b.chunk - x.lo j)
                let fill := (List.range 1024).map (fun i => (BitVec.ofNat 8 (Config.freeFn 0x278 [b.step, b.layer, b.chunk, i]) : Byte))
                let s2 := { s1 with
                  mem := Tab.writeBytes s1.mem scr fill
                  upd := { s1.upd with chunks := s1.upd.chunks ++ [o.stats] } }
                let seen := (s.upd.chunks.filter (fun (y : ChunkStats) => y.step == b.step && y.layer == b.layer && y.part == j)).flatMap
                  ChunkStats.hit
                let s3 := ((s2.bump (objKey 0x2720 0x0A) 1).bump (objKey 0x2720 8) o.nonfinite).bump (objKey 0x2720 0x0B)
                  (o.stats.hit.filter (fun r => !seen.elem r)).length
                let s4 := (s3.bump (objKey 0x2720 9) o.clipped.length).forAll o.clipped (fun s c =>
                  s.event 0x2725 srcSched [(4, b.layer), (4, c), (4, 1)])
                let n := (s4.upd.chunks.filter (fun (y : ChunkStats) => y.step == b.step && y.layer == b.layer && y.part == j)).length
                ended (if n = x.nChunks j then s4.partDone l x u j b.step else s4))
    | _, _, _ => s)

end Sys2Proof.Machine
end

