-- ==== Sys2Proof/Machine/Huddle.lean ====
section
/-! DEFINITION. The huddle, its queries, layouts and update tables armed and switched, handover (R241–R244, R256–R263, R273, R281,
R282, R287, R326). -/

namespace Sys2Proof.Machine

def oLayAddr : Nat := objKey 0x2710 1
def oLayStep : Nat := objKey 0x2710 2
def oLayEpoch : Nat := objKey 0x2710 3
def oLayCur : Nat := objKey 0x2710 4
def oTabCur : Nat := objKey 0x2720 1
def oTabNext : Nat := objKey 0x2720 2
def oTabStep : Nat := objKey 0x2720 3

/-- Causes of event 0x2705: a READY FAIL, the huddle timeout, a query, the lead's DECIDE. -/
def causeFail : Nat := 1
def causeTimeout : Nat := 2
def causeQuery : Nat := 3
def causeDecide : Nat := 4

/-- Is a whistle under way here (R260)? -/
def State.whistled (s : State) : Bool := s.dev.stop.isSome

/-! ## Layouts and tables becoming current -/

/-- A table becomes current (R244, R273): event 0x2721. -/
def State.setTable (s : State) (t : UTable) (step : Nat) : State :=
  let old := s.obj oTabCur
  let s1 := { s with upd := { s.upd with table := some t, armed := none } }
  ((s1.setObj oTabCur t.addr).setObj oTabStep 0xFFFFFFFF).event 0x2721 srcSched [(8, old), (8, t.addr), (4, step)]

/-- The parts (layer, part) that change owner between two layouts and meet a condition on their old and new owners. -/
def movedParts (a b : Layout) (f : Nat → Nat → Bool) : List (Nat × Nat) :=
  b.layers.flatMap (fun e =>
    match a.layer? e.layer with
    | some o => ((List.range (min e.parts o.parts)).filter (fun j =>
        a.ownerOf o j != b.ownerOf e j && f (a.ownerOf o j) (b.ownerOf e j))).map (fun j => (e.layer, j))
    | none => [])

/-- The armed layout becomes current at the decision of step S − 1 (R262): the old epoch's ledger entries are dropped (R255). -/
def State.switchLayout (s : State) (l : Layout) (step : Nat) : State :=
  match s.pass.layout with
  | none => s
  | some o =>
    let s1 := s.forAll s.pass.ledger (fun s p => if p.idx = 0 then s.dropContrib p.step p.layer p.member 5 else s)
    let s2 := s1.forAll s1.pass.reds (fun s r => s.freeBuf r.layer r.held.length)
    let me := s.ownDev
    { s2 with pass := { s2.pass with
      layout := some l, armed := none, old := some o, switchStep := step, ledger := [], reds := []
      handover := movedParts o l (fun _ b => b == me), moving := true } }.setObj oLayCur l.epoch

/-! ## Sending the huddle's packets -/

/-- A huddle packet to one device other than this one, under the layout of its step. -/
def State.sendHuddle (s : State) (l : Layout) (type dst step : Nat) (payload : List Byte) : State :=
  s.sendPass l type dst { step := step, payload := payload }

/-- The devices of the layout other than this one. -/
def State.others (s : State) (l : Layout) : List Nat := l.devices.filter (fun d => d != s.ownDev)

/-- Part statistics as READY carries them; the spec gives no layout. -/
def statBytes (p : PartStats) : List Byte :=
  leBytes 4 p.layer ++ leBytes 1 p.part ++ leBytes 8 p.gg.toNat ++ leBytes 8 p.nonfinite ++ leBytes 8 p.ww.toNat ++
    leBytes 8 p.dd.toNat ++ leBytes 8 p.rowsum.toNat ++ leBytes 4 p.chmax.length ++ p.chmax.flatMap (fun w => leBytes 4 w.toNat) ++
    leBytes 4 p.colsum.length ++ p.colsum.flatMap (fun w => leBytes 8 w.toNat)

/-! ## The end of a step at this device (R260) -/

/-- Started STEP_END commands of a step in the layout's league. -/
def State.stepEnds (s : State) (l : Layout) (step : Nat) : List (Nat × Nat) :=
  s.sched.queues.flatMap (fun e => (e.2.descs.filter (fun (d : Desc) =>
    d.started && d.op == 0x20 && d.step == step && s.leagueOf d.ctx == l.league)).map (fun d => (e.1, d.n)))

/-- The pages of life 3 whose step has ended (R179). -/
def State.freeStepPages (s : State) (l : Layout) (step : Nat) : State :=
  s.forAll (s.allPages.filter (fun p => p.life == 3 && p.owner == step && s.leagueOf p.ctx == l.league)) State.freePage

/-- Update sequences still running are ended and the update buffers emptied. -/
def State.clearBuffers (s : State) : State :=
  let s1 := s.endUpdates (s.upd.bufs.flatMap Prod.snd)
  { s1 with upd := { s1.upd with bufs := [], chunks := [], totals := [], stopped := [], skipped := [] } }

/-- What a decided step leaves: counters, STEP_END records (after a COMMIT once the pushes have gone: R10), pages of life 3, the
reductions that reopen or close. -/
def State.endStep (s : State) (l : Layout) (step : Nat) (committed : Bool) (cause dev : Nat) : State :=
  let s1 := if committed then (s.bump (objKey 0x2700 9) 1).setObj (objKey 0x2700 0x0D) step
    else (s.bump (objKey 0x2700 0x0A) 1).event 0x2705 srcSched [(4, step), (1, cause), (2, dev)]
  let ends := if committed && s1.pushing step then [] else s1.stepEnds l step
  let s2 := (s1.completeAll ends (if committed then 0 else 0x0404) 0).freeStepPages l step
  let keep (r : Reduction) : Bool := committed && r.step == step
  let s3 := s2.forAll (s2.pass.reds.filter (fun r => !keep r)) (fun s r => s.freeBuf r.layer r.held.length)
  let s4 := if committed then s3
    else s3.forAll (s3.pass.ledger.filter (fun p => p.step == step && p.idx == 0)) (fun s p => s.dropContrib p.step p.layer p.member 7)
  let lead := l.lead == s.ownDev
  let p := s4.pass
  { s4.clearBuffers with pass := { p with
    lastHuddle := if committed then step else p.lastHuddle
    fstep := if committed then step else p.fstep
    reds := (p.reds.filter keep).map (fun r => { r with decided := true, buffered := true, acc := [], touched := [] })
    ledger := if committed then p.ledger else p.ledger.filter (fun x => x.step != step)
    samples := if committed then p.samples else p.samples.filter (fun x => x.step != step)
    masks := p.masks.filter (fun m => if committed then step ≤ m.step else m.step != step)
    readys := p.readys.filter (fun r => decide (step < r.1) || (committed && lead && r.1 == step))
    decisions := (p.decisions.filter (fun d => d.1 != step)).take 3
    started := [], genNoted := [], ready := none, failed := false, normFailed := false, commitWait := false, answeredNone := none, query := none } }

/-- The decision recorded and acted on at the end of a step, the armed table and layout switched where their step is next, and held
contributions taken up again. -/
def State.closeStep (s : State) (l : Layout) (step : Nat) (committed : Bool) (cause dev : Nat) : State :=
  let s1 := s.endStep l step committed cause dev
  let s2 := { s1 with pass := { s1.pass with decisions := (step, committed) :: s1.pass.decisions } }
  let s3 := match s2.upd.armed with
    | some (t, n) => if committed ∧ n = step + 1 then s2.setTable t n else s2
    | none => s2
  let s4 := match s3.pass.armed with
    | some (a, n) => if committed ∧ n = step + 1 then s3.switchLayout a n else s3
    | none => s3
  s4.pumpHeld

/-! ## RELEASE and FLIPPED (R257, R258) -/

/-- RELEASE of a step: the previous frames go; the lead's READYs of the step too (R281). -/
def State.onRelease (s : State) (step : Nat) : State :=
  let s1 := s.releasePrev step
  { s1 with pass := { s1.pass with readys := s1.pass.readys.filter (fun r => decide (step < r.1)) } }

/-- The lead collects FLIPPED, and releases once every device has flipped. -/
def State.onFlipped (s : State) (l : Layout) (dev step : Nat) : State :=
  if l.lead ≠ s.ownDev ∨ s.pass.flipStep ≠ step ∨ s.pass.flippedFrom.elem dev ∨ !l.devices.elem dev then s
  else
    let got := dev :: s.pass.flippedFrom
    let s1 := { s with pass := { s.pass with flippedFrom := got } }
    if l.devices.all (fun d => got.elem d) then
      (s1.forAll (s1.others l) (fun s d => s.sendHuddle l 7 d step [])).onRelease step
    else s1

/-! ## The flip -/

/-- The working copies of this device's updated parts pushed to the layer's other replicas (R261), which the home's reader maps then
name (R320). A push carries its global address and epoch before at most 2 KiB of data. -/
def State.pushPart (s : State) (l : Layout) (e : LayerEntry) (u : UEntry) (j step : Nat) : State :=
  let blk := s.partBlk u j
  let base := blk.wcopy
  let total := u.copyBytes (e.count j)
  let to_ := (l.replicas e).filter (fun d => d != s.ownDev)
  let cuts := (List.range ((base % 2048 + total + 2047) / 2048)).map (fun i =>
    let lo := max base ((base / 2048 + i) * 2048)
    (lo, min (base + total) ((base / 2048 + i + 1) * 2048) - lo))
  s.forAll cuts (fun s c =>
    match s.pageAt c.1 with
    | none => s
    | some p =>
      let data := s.readMem c.1 c.2
      let chunk := e.lo j + (c.1 - base) / (chunkSize * (if u.wfmt = 1 then 2 else 1))
      s.forAll to_ (fun s d =>
        let s1 := match s.regionOf p.base with
          | some r => if s.sealsTo d ∧ !r.readers.elem d then s.setRegion { r with readers := r.readers ++ [d] } else s
          | none => s
        s1.sendPass l 3 d { step := step, layer := e.layer, chunk := chunk
                            payload := leBytes 8 (globalOf s.ownDev c.1).toNat ++ leBytes 2 p.sepoch ++ data }))

def State.pushAll (s : State) (l : Layout) (parts : List (LayerEntry × Nat)) (step : Nat) : State :=
  s.forAll parts (fun s p =>
    match s.updEntry l p.1.layer with
    | some (e, u) => s.pushPart l e u p.2 step
    | none => s)

/-- What every device of the league drops at DECIDE COMMIT: its copies of the other devices' pages (R257). -/
def State.dropLeague (s : State) (l : Layout) : State :=
  s.forAll (s.others l) (fun s d => s.dropCopies (d * 2 ^ 48) ((d + 1) * 2 ^ 48))

/-- The totals of every part of a split layer, in part order, where this device has them (R281). -/
def State.layerTotals (s : State) (step : Nat) (e : LayerEntry) : Option (List PartStats) :=
  let known := s.upd.totals ++ (s.pass.readys.filter (fun r => r.1 == step)).flatMap (fun r => r.2.2.2)
  let need := (List.range e.parts).filter (fun j => e.nChunks j != 0)
  let got := need.map (fun j => known.find? (fun (p : PartStats) => p.layer == e.layer && p.part == j))
  if got.all Option.isSome then some (got.filterMap id) else none

/-- The split layers that this device owns parts of. -/
def State.splitOwned (s : State) : List (LayerEntry × Nat) := s.ownParts.filter (fun p => decide (1 < p.1.parts))

/-- DECIDE COMMIT acted on once the statistics of every split layer are here: the records, the flip, FLIPPED, the pushes, and the end of
the step (R10, R257, R281, R287). -/
def State.tryFlip (s : State) (l : Layout) (step : Nat) : State :=
  let split := s.splitOwned
  if split.any (fun p => (s.layerTotals step p.1).isNone) then { s with pass := { s.pass with commitWait := true } }
  else
    let s1 := s.forAll split (fun s p =>
      match s.updEntry l p.1.layer, s.layerTotals step p.1 with
      | some (e, u), some ts =>
        let first := (split.find? (fun q => q.1.layer == e.layer)).all (fun q => q.2 == p.2)
        s.judge l e u p.2 step (totalOf e.layer 0 ts) first
      | _, _ => s)
    let done := s1.ownParts.filter (fun p => !s1.upd.skipped.elem (p.1.layer, p.2) && p.1.nChunks p.2 != 0)
    let s2 := { s1 with keeper := { s1.keeper with flipMarker := some step } }.flipAll step
    let s3 := ({ s2 with keeper := { s2.keeper with flipMarker := none } }).dropLeague l
    let s4 := if l.lead = s.ownDev then s3.onFlipped l s.ownDev step else s3.sendHuddle l 6 l.lead step []
    ((s4.pushAll l done step).closeStep l step true 0 0).pumpPeers

/-- A decision of a step acted on (R257, R287). -/
def State.act (s : State) (l : Layout) (step : Nat) (committed : Bool) (cause dev : Nat) : State :=
  (if committed then ({ s with pass := { s.pass with decisions := (step, true) :: s.pass.decisions } }).tryFlip l step
  else (s.dropShadows.closeStep l step false cause dev).pumpPeers).onDecision

/-- The lead's decision: DECIDE to every device, and its own part. -/
def State.leadDecides (s : State) (l : Layout) (step : Nat) (committed : Bool) (cause dev : Nat) : State :=
  let s1 := s.forAll (s.others l) (fun s d => s.sendHuddle l 5 d step [if committed then 1 else 0])
  let s2 := if committed then { s1 with pass := { s1.pass with flipStep := step, flippedFrom := [] } } else s1
  s2.act l step committed cause dev

/-- The split layers that fail under policy 2, judged from the READY totals (R282). -/
def State.splitFails (s : State) (l : Layout) (step : Nat) : List (LayerEntry × UEntry × StatRec) :=
  (l.layers.filter (fun e => decide (1 < e.parts))).filterMap (fun e =>
    match s.updEntry l e.layer, s.layerTotals step e with
    | some (_, u), some ts =>
      let r : StatRec := { step := step, gnorm := fsqrt (sumVal (totalOf e.layer 0 ts).gg), nonfinite := (ts.map PartStats.nonfinite).sum }
      if u.flags / 4 % 4 = 2 ∧ u.fails r then some (e, u, r) else none
    | _, _ => none)

/-- The lead decides when it may: DISCARD on a FAIL, COMMIT when every device is OK (R257). -/
def State.tryDecide (s : State) (l : Layout) : State :=
  let step := s.openStep
  let rs := s.pass.readys.filter (fun r => r.1 == step)
  if l.lead ≠ s.ownDev ∨ (s.decisionOf step).isSome then s
  else
    match rs.find? (fun (r : Nat × Nat × Bool × List PartStats) => !r.2.2.1) with
    | some r => s.leadDecides l step false causeFail r.2.1
    | none =>
      if !l.devices.all (fun d => rs.any (fun (r : Nat × Nat × Bool × List PartStats) => r.2.1 == d)) then s
      else
        match s.splitFails l step with
        | x :: rest =>
          let s1 := s.forAll (x :: rest) (fun s y => s.event 0x2720 srcSched
            [(4, step), (4, y.1.layer), (4, y.2.2.gnorm.toNat), (4, y.2.2.nonfinite), (1, y.2.1.flags / 4 % 4)])
          s1.failNorm.leadDecides l step false causeFail (l.ownerOf x.1 0)
        | [] => if s.whistled then s else s.leadDecides l step true 0 0

/-- A READY recorded (R256); the lead may then decide, and a device that waits for its statistics goes on (R281). -/
def State.onReady (s : State) (l : Layout) (step dev : Nat) (ok : Bool) (stats : List PartStats) : State :=
  if step < s.openStep ∨ !l.devices.elem dev then s
  else
    let rest := s.pass.readys.filter (fun r => !(r.1 == step && r.2.1 == dev))
    let s1 : State := { s with pass := { s.pass with readys := rest ++ [(step, dev, ok, stats)] } }
    if s1.pass.commitWait then s1.tryFlip l s1.openStep else s1.tryDecide l

/-- Does every part that this device owns stand updated in the shadows, with every mask sent? -/
def State.partsDone (s : State) (step : Nat) : Bool :=
  s.ownParts.all (fun p =>
    decide ((s.upd.chunks.filter (fun (x : ChunkStats) => x.step == step && x.layer == p.1.layer && x.part == p.2)).length = p.1.nChunks p.2))

/-- READY to the lead and to the other owners of this device's split layers (R256). -/
def State.sendReady (s0 : State) (l : Layout) (ok : Bool) : State :=
  let step := s0.openStep
  let s := s0.newAttempt step
  let stats := s.upd.totals
  let co := (s.splitOwned.flatMap (fun p => (List.range p.1.parts).map (fun j => l.ownerOf p.1 j)))
  let to_ := ((l.lead :: co).eraseDups).filter (fun d => d != s.ownDev)
  let s1 := { s with pass := { s.pass with ready := some (step, ok) } }
  let s2 := s1.forAll to_ (fun s d => s.sendPieces l (s.engineOf 0) 4 d { step := step } [if ok then 1 else 0] (stats.flatMap statBytes))
  s2.onReady l step s.ownDev ok stats

/-- Does a step flip the pages of a snapshot that is being copied (R233)? -/
def State.snapWaits (s : State) : Bool :=
  s.sched.snaps.any (fun (x : Snap) => !x.ready && s.keeper.shadows.any (fun e =>
    (s.pageAt e.page).any (fun p => decide (x.src % 2 ^ 48 < p.base + p.bytes) && decide (p.base < x.src % 2 ^ 48 + x.size))))

/-- DECIDE acted on by a device that has not answered "none" for the step; after a whistle only a DISCARD (R257, R259, R260). -/
def State.onDecide (s : State) (l : Layout) (p : PassPkt) (c : Bool) : State :=
  if p.step ≠ s.openStep ∨ (s.decisionOf p.step).isSome ∨ s.pass.answeredNone = some p.step ∨ p.dev ≠ l.lead ∨ (c ∧ s.whistled) then s
  else s.act l p.step c causeDecide p.dev

/-! ## Queries (R259) -/

/-- A peer fenced from a league (R326). -/
def State.fenceLeague (s : State) (dev league step : Nat) : State :=
  if s.leagueFenced dev league then s
  else
    let f : Fence := { dev := dev, kind := 2, league := league, key := step }
    ({ s with fabric := { s.fabric with fences := s.fabric.fences ++ [f] } }).event 0x2223 srcRouter [(2, dev), (4, league), (4, step)]

/-- A querier decides; without the lead with event 0x2706, and the lead fenced. -/
def State.queryDecides (s : State) (l : Layout) (step : Nat) (d byLead : Bool) : State :=
  if byLead then s.act l step d causeQuery l.lead
  else
    ((s.event 0x2706 srcSched [(4, step), (1, if d then 1 else 0)]).fenceLeague l.lead l.league step).act l step d causeQuery 0xFFFF

/-- QUERY sent to every device that has not answered, the lead first. -/
def State.sendQueries (s : State) (l : Layout) (q : Query) : State :=
  let rest := (s.others l).filter (fun d => d != l.lead)
  s.forAll ((l.lead :: rest).filter (fun d => d != s.ownDev && !q.answers.any (fun a => a.1 == d))) (fun s d => s.sendHuddle l 8 d q.step [])

/-- What the answers allow once the lead is silent. -/
def State.evalQuery (s : State) (l : Layout) (q : Query) : State :=
  let others := (s.others l).filter (fun d => d != l.lead)
  if !q.leadSilent then s
  else if q.answers.any (fun a => a.2 == some true) then s.queryDecides l q.step true false
  else if others.all (fun d => q.answers.any (fun a => a.1 == d)) then s.queryDecides l q.step false false
  else s

def State.setQuery (s : State) (q : Query) : State := { s with pass := { s.pass with query := some q } }

/-- An effect for a device that is querying the open step. -/
def querying (f : State → Layout → Query → State) (s : State) : State :=
  match s.pass.layout, s.pass.query with
  | some l, some q => if q.step = s.openStep ∧ (s.decisionOf q.step).isNone then f s l q else s
  | _, _ => s

/-- An ANSWER: none, COMMIT or DISCARD. -/
def State.sendAnswer (s : State) (l : Layout) (dst step : Nat) (d : Option Bool) : State :=
  s.sendHuddle l 9 dst step [match d with | none => 0 | some true => 1 | some false => 2]

/-- QUERY: answered with the decision held, or none; an undecided lead decides DISCARD (R259). -/
def State.onQuery (s : State) (l : Layout) (p : PassPkt) : State :=
  match s.decisionOf p.step with
  | some d => s.sendAnswer l p.dev p.step (some d)
  | none =>
    if l.lead = s.ownDev ∧ p.step = s.openStep then
      (s.leadDecides l p.step false causeQuery p.dev).sendAnswer l p.dev p.step (some false)
    else ({ s with pass := { s.pass with answeredNone := some p.step } } : State).sendAnswer l p.dev p.step none

/-- ANSWER taken by a device that is querying the step (R259). -/
def State.onAnswer (s : State) (p : PassPkt) (dec : Option Bool) : State :=
  querying (fun s l q =>
    if p.step ≠ q.step ∨ !l.devices.elem p.dev then s
    else
      let q1 := { q with answers := q.answers.filter (fun a => a.1 != p.dev) ++ [(p.dev, dec)] }
      let s1 := s.setQuery q1
      match dec with
      | some d => if p.dev = l.lead then s1.queryDecides l q.step d true else s1.evalQuery l q1
      | none => s1.evalQuery l q1) s

/-! ## Re-sharding (R262, R263) -/

/-- Epoch-E reductions still open and epoch-E ledger entries (2710:05): none once the switch has dropped them. -/
def State.oldInFlight (s : State) (o : Layout) : Nat := (s.pass.ledger.filter (fun (p : PassPkt) => p.epoch == o.epoch)).length

/-- The arrays that a part's state moves in: master, moments and second-moment state. -/
def handoverArrays (u : UEntry) (b : PartBlk) (n : Nat) : List (Nat × Nat) := [(b.master, 4 * n), (b.m, 4 * n), (b.v, u.vBytes n)]

/-- A part's state in HANDOVER packets: part, field, offset and last before at most 4,000 B. -/
def State.sendState (s : State) (l : Layout) (dst layer part : Nat) (arrays : List (Nat × Nat)) : State :=
  let cuts := ((List.range arrays.length).zip arrays).flatMap (fun a =>
    (List.range ((a.2.2 + 3999) / 4000)).map (fun i => (a.1, a.2.1, 4000 * i, min 4000 (a.2.2 - 4000 * i))))
  s.forAll ((List.range cuts.length).zip cuts) (fun s c =>
    let last := c.1 + 1 == cuts.length
    let x := c.2
    let data := leBytes 1 part ++ leBytes 1 x.1 ++ leBytes 8 x.2.2.1 ++ [if last then 1 else 0] ++ s.readMem (x.2.1 + x.2.2.1) x.2.2.2
    s.sendPass l 10 dst { step := s.openStep, layer := layer, payload := data })

/-- R263: 2710:05 has reached 0: the parts that changed owner are sent; event 0x2707. -/
def execOldEpochDrained (s : State) : Out :=
  commit s (fun s =>
    match s.pass.old, s.pass.layout with
    | some o, some l =>
      if !s.pass.moving ∨ s.oldInFlight o ≠ 0 then s
      else
        let me := s.ownDev
        let mine := movedParts o l (fun a _ => a == me)
        let s1 := s.forAll mine (fun s p =>
          match o.layer? p.1, l.layer? p.1, s.upd.table with
          | some e, some f, some t =>
            (match t.entry? o.epoch p.1 with
              | some u => s.sendState l (l.ownerOf f p.2) p.1 p.2 (handoverArrays u (s.partBlk u p.2) (e.count p.2))
              | none => s)
          | _, _, _ => s)
        let s2 := { s1 with pass := { s1.pass with moving := false } }
        if mine.isEmpty then s2 else s2.event 0x2707 srcSched [(2, o.epoch), (2, l.epoch), (4, s.openStep)]
    | _, _ => s)

/-- HANDOVER: state written into the new owner's arrays; the last packet lets the held contributions be folded (R263). -/
def State.onHandover (s : State) (l : Layout) (p : PassPkt) (part field off : Nat) (last : Bool) : State :=
  if !s.pass.handover.elem (p.layer, part) then s.discardPass p.layer
  else
    match s.updEntry l p.layer with
    | none => s.discardPass p.layer
    | some (e, u) =>
      match (handoverArrays u (s.partBlk u part) (e.count part))[field]? with
      | none => s.discardPass p.layer
      | some a =>
        if a.2 < off + p.payload.length then s.discardPass p.layer
        else
          let s1 := s.writeMem (a.1 + off) p.payload
          if last then
            ({ s1 with pass := { s1.pass with handover := s1.pass.handover.filter (fun x => x != (p.layer, part)) } } : State).pumpHeld
          else s1

/-! ## Pass packets met (R248, R262, R263) -/

/-- A packet taken under a layout. -/
def State.onPass (s : State) (l : Layout) (b : PassBody) (p : PassPkt) : State :=
  match b with
  | .contrib => s.onContrib p
  | .mask => s.onMask l p
  | .push addr epoch => s.onPush p addr epoch
  | .ready ok stats => s.onReady l p.step p.dev ok stats
  | .decide c => s.onDecide l p c
  | .flipped => s.onFlipped l p.dev p.step
  | .release => s.onRelease p.step
  | .query => s.onQuery l p
  | .answer dec => s.onAnswer p dec
  | .handover part field off last => s.onHandover l p part field off last
  | .topk rows k count root => s.onTopk p rows k count root

/-- A packet by its epoch: of the current layout, of the one before for steps that it governed, of an armed one, for which it is held, or of
an epoch not armed, held too. A top-k list names no step, so it is taken under any of the layouts. -/
def State.meetPass (s : State) (b : PassBody) (p : PassPkt) : State :=
  match s.passFate p, b, s.pass.layout, s.pass.old with
  | .discard, _, _, _ => s.discardPass p.layer
  | .unknown, b, _, _ => s.holdUnknown b p
  | _, .contrib, _, _ => s.onContrib p
  | _, .topk rows k count root, _, _ => s.onTopk p rows k count root
  | .armed, b, _, _ => s.holdPass b p
  | .current, b, some l, _ => s.onPass l b p
  | .old, b, _, some o => if p.step < s.pass.switchStep then s.onPass o b p else s.discardPass p.layer
  | _, _, _, _ => s.discardPass p.layer

/-- The packets held for a layout tried again. -/
def State.pumpHuddle (s : State) : State :=
  let s1 := s.pumpHeld
  let l := s1.pass.heldPass
  ({ s1 with pass := { s1.pass with heldPass := [] } } : State).forAll l (fun s e => s.meetPass e.1 e.2)

/-- Does a packet travel in PASSC (Table 10.5)? -/
def PassBody.ctl (b : PassBody) : Bool :=
  match b with
  | .decide _ | .flipped | .release | .query | .answer _ => true
  | _ => false

/-- The payload bytes of each packet that a body takes. -/
def PassBody.lens (b : PassBody) (p : PassPkt) : List Nat :=
  match b with
  | .push _ _ => [10 + p.payload.length]
  | .ready _ stats =>
    let n := (stats.flatMap statBytes).length
    (List.range (max 1 ((n + 4094) / 4095))).map (fun i => 1 + min 4095 (n - 4095 * i))
  | .decide _ | .answer _ => [1]
  | .handover _ _ _ _ => [11 + p.payload.length]
  | .topk _ _ _ _ => [5 + p.payload.length]
  | _ => [p.payload.length]

/-- A packet reaches this device. -/
def passCmd (b : PassBody) (p : PassPkt) (s : State) : Out :=
  commit s (fun s => (((s.forAll (b.lens p) (fun s n => s.arrivePass b.ctl p n)).countIn p.layer).meetPass b p).pumpHuddle)

/-- R253, MASK. -/
def execMask (p : PassPkt) (s : State) : Out := passCmd .mask p s
/-- R261, PUSH. -/
def execPush (p : PassPkt) (addr epoch : Nat) (s : State) : Out := passCmd (.push addr epoch) p s
/-- R257, READY: the lead or a co-owner receives it. -/
def execReady (p : PassPkt) (ok : Bool) (stats : List PartStats) (s : State) : Out := passCmd (.ready ok stats) p s
/-- R257, R259, R260, DECIDE. -/
def execDecide (p : PassPkt) (commit_ : Bool) (s : State) : Out := passCmd (.decide commit_) p s
/-- R257, FLIPPED. -/
def execFlipped (p : PassPkt) (s : State) : Out := passCmd .flipped p s
/-- R258, RELEASE. -/
def execRelease (p : PassPkt) (s : State) : Out := passCmd .release p s
/-- R259, QUERY. -/
def execQuery (p : PassPkt) (s : State) : Out := passCmd .query p s
/-- R259, ANSWER. -/
def execAnswer (p : PassPkt) (dec : Option Bool) (s : State) : Out := passCmd (.answer dec) p s
/-- R263, HANDOVER. -/
def execHandover (p : PassPkt) (part field off : Nat) (last : Bool) (s : State) : Out := passCmd (.handover part field off last) p s
/-- R264, TOPK. -/
def execTopk (p : PassPkt) (rows k count root : Nat) (s : State) : Out := passCmd (.topk rows k count root) p s

/-! ## The huddle's own events -/

/-- R256, DEVICE_READY: OK once its parts, masks and snapshots are done; FAIL once it has declared the step failed. -/
def execDeviceReady (s : State) : Out :=
  commit s (fun s =>
    match s.pass.layout with
    | none => s
    | some l =>
      if s.pass.ready.any (fun r => r.1 == s.openStep) then s
      else if s.pass.failed ∨ s.whistled then (s.sendReady l false).pumpHuddle
      else if s.partsDone s.openStep ∧ !s.snapWaits then (s.sendReady l true).pumpHuddle
      else s)

/-- R257: 2700:04 ms after the lead's own READY without a complete set. -/
def execHuddleTimeout (s : State) : Out :=
  commit s (fun s =>
    match s.pass.layout with
    | some l =>
      if l.lead = s.ownDev ∧ s.pass.ready.any (fun r => r.1 == s.openStep) ∧ (s.decisionOf s.openStep).isNone then
        (s.leadDecides l s.openStep false causeTimeout
          ((l.devices.find? (fun d => !s.pass.readys.any (fun r => r.1 == s.openStep && r.2.1 == d))).getD 0xFFFF)).pumpHuddle
      else s
    | none => s)

/-- R281: the statistics of a split layer fetched from the lead. -/
def execSplitStatsFetch (layer : Nat) (stats : List PartStats) (s : State) : Out :=
  commit s (fun s =>
    match s.pass.layout with
    | some l =>
      if !s.pass.commitWait then s
      else
        let mine := stats.filter (fun p => p.layer == layer)
        let s1 : State := { s with pass := { s.pass with readys := s.pass.readys ++ [(s.openStep, 0xFFFF, true, mine)] } }
        (s1.tryFlip l s1.openStep).pumpHuddle
    | none => s)

/-- R259: no decision 2700:04 ms after this device's READY. -/
def execQueryStart (s : State) : Out :=
  commit s (fun s =>
    match s.pass.layout with
    | some l =>
      if l.lead ≠ s.ownDev ∧ s.pass.ready.any (fun r => r.1 == s.openStep) ∧ (s.decisionOf s.openStep).isNone ∧ s.pass.query.isNone then
        let q : Query := { step := s.openStep }
        (s.setQuery q).sendQueries l q
      else s
    | none => s)

/-- R259: QUERY repeated every 1 ms. -/
def execQueryRepeat (s : State) : Out := commit s (querying (fun s l q => s.sendQueries l q))

/-- R259: the lead has not answered within 1 ms. -/
def execLeadSilence (s : State) : Out :=
  commit s (fun s => (querying (fun s l q =>
    if q.answers.any (fun a => a.1 == l.lead) then s
    else
      let q1 := { q with leadSilent := true }
      (s.setQuery q1).evalQuery l q1) s).pumpHuddle)

/-- R259: 2700:04 ms after the first QUERY: the silent devices are fenced, and the answers decide. -/
def execQueryTimeout (s : State) : Out :=
  commit s (fun s => (querying (fun s l q =>
    let silent := (s.others l).filter (fun d => !q.answers.any (fun a => a.1 == d))
    (s.forAll silent (fun s d => s.fenceLeague d l.league q.step)).queryDecides l q.step (q.answers.any (fun a => a.2 == some true)) false) s).pumpHuddle)

/-- R263: packets of an unarmed epoch held for 2700:07 ms. -/
def execUnknownEpochHoldExpire (epoch : Nat) (s : State) : Out :=
  commit s (fun s =>
    let gone := s.pass.unknown.filter (fun e => e.2.epoch == epoch)
    if gone.isEmpty then s
    else
      let s1 : State := { s with pass := { s.pass with failed := true, unknown := s.pass.unknown.filter (fun e => e.2.epoch != epoch) } }
      s1.forAll gone (fun s e => (s.discardPass e.2.layer).event 0x2708 (s.srcPass e.2.layer) [(2, epoch), (4, e.2.step), (2, e.2.dev)]))

/-! ## Arming (R243, R244, R273) -/

/-- 2710:01 and 2710:02 are rejected while an armed layout is not yet current. -/
def State.wrLayout (key : Nat) (s : State) (v : Nat) : Wr := if s.pass.armed.isSome then (s, dState) else s.wrPlain key v

/-- The update table in force at a step. -/
def State.tableAt (s : State) (step : Nat) : Option UTable :=
  match s.upd.armed with
  | some (t, n) => if n ≤ step then some t else s.upd.table
  | none => s.upd.table

/-- FLIPPED for a flip that the start-up completed (R288). -/
def State.sendOwed (s : State) (l : Layout) : State :=
  match s.pass.owedFlip with
  | none => s
  | some step =>
    let s1 := { s with pass := { s.pass with owedFlip := none } }
    if l.lead = s.ownDev then s1 else s1.sendHuddle l 6 l.lead step []

/-- The first layout becomes current at once (R244). -/
def State.firstLayout (s : State) (l : Layout) (step : Nat) : State :=
  (((({ s with pass := { s.pass with layout := some l, lastHuddle := step - 1, fstep := step - 1 } }).setObj oLayCur l.epoch).setObj
    oLayEpoch l.epoch).event 0x2707 srcSched [(2, 0), (2, l.epoch), (4, step)]).sendOwed l

/-- Does the squad table hold this device's own ID (R243)? A device without an ID is in none. -/
def State.inSquads (s : State) (l : Layout) : Bool := s.obj oDevId != 0xFFFF && l.devices.elem s.ownDev

/-- A write to 2710:03. -/
def State.wrLayEpoch (peer : PeerRead) (s : State) (v : Nat) : Wr :=
  let step := s.obj oLayStep
  let cur := s.obj oLayCur
  if v = cur then ((({ s with pass := { s.pass with armed := none } }).setObj oLayEpoch v), dOk)
  else
    match s.pass.layout with
    | none =>
      (match s.parseLayout (s.obj oLayAddr) peer, s.upd.table with
        | some l, some t =>
          if l.epoch ≠ v ∨ !s.inSquads l ∨ step = 0 ∨
              !(l.owned s.ownDev).all (fun p => (t.entry? l.epoch p.1.layer).any (fun u => s.partOk u p.1 p.2)) then (s, dState)
          else (s.firstLayout l step, dOk)
        | _, _ => (s, dState))
    | some _ =>
      if v ≠ (cur + 1) % 2 ^ 16 ∨ v = 0 then (s, dRange)
      else
        match s.parseLayout (s.obj oLayAddr) peer with
        | none => (s, dState)
        | some l =>
          if l.epoch ≠ v ∨ !s.inSquads l ∨ step ≤ s.pass.lastHuddle + 1 ∨
              (s.tableAt step).all (fun t => t.entries.all (fun e => e.epoch != v)) then (s, dState)
          else
            let un := s.pass.unknown.filter (fun e => e.2.epoch == v)
            let s1 : State := { s with pass := { s.pass with
              armed := some (l, step), unknown := s.pass.unknown.filter (fun e => e.2.epoch != v) } }
            ((s1.setObj oLayEpoch v).forAll un (fun s e => s.meetPass e.1 e.2), dOk)

def execLayoutAddressWrite (sess v : Nat) (s : State) : Out := writeNum sess oLayAddr v (fun s => s.wrLayout oLayAddr v) s
def execLayoutStepWrite (sess v : Nat) (s : State) : Out := writeNum sess oLayStep v (fun s => s.wrLayout oLayStep v) s
/-- R243, R244: `peer` is what a read of a block on another device gives. -/
def execLayoutEpochWrite (sess v : Nat) (peer : PeerRead) (s : State) : Out := writeNum sess oLayEpoch v (fun s => s.wrLayEpoch peer v) s

/-- 2720:02 is rejected while a table is armed. -/
def State.wrTabAddr (s : State) (v : Nat) : Wr := if s.upd.armed.isSome then (s, dState) else s.wrPlain oTabNext v

/-- A write to 2720:03. -/
def State.wrTabStep (peer : PeerRead) (s : State) (v : Nat) : Wr :=
  if v = 0xFFFFFFFF then (({ s with upd := { s.upd with armed := none } }).setObj oTabStep v, dOk)
  else
    match s.parseTable (s.obj oTabNext) peer with
    | none => (s, dState)
    | some t =>
      match s.pass.layout with
      | none => if v = 0 then (s, dState) else (s.setTable t v, dOk)
      | some l =>
        if v ≤ s.pass.lastHuddle + 1 ∨ !s.tableFits t l ∨ !s.pass.armed.all (fun a => s.tableFits t a.1) then (s, dState)
        else (({ s with upd := { s.upd with armed := some (t, v) } }).setObj oTabStep v, dOk)

def execUpdateTableAddressWrite (sess v : Nat) (s : State) : Out := writeNum sess oTabNext v (fun s => s.wrTabAddr v) s
/-- R244, R273: `peer` is what a read of a table on another device gives. -/
def execUpdateTableStepWrite (sess v : Nat) (peer : PeerRead) (s : State) : Out :=
  writeNum sess oTabStep v (fun s => s.wrTabStep peer v) s

end Sys2Proof.Machine
end

