-- ==== Sys2Proof/Machine/Streams.lean ====
section
/-! DEFINITION. The stream engines (R108–R115, Table 04.6). A transfer moves at once when its command arrives. -/

namespace Sys2Proof.Machine

/-! ## Descriptors -/

/-- Rows and bytes of a tile of lay 1 (Table 04.6). -/
def tileRows (shape : Nat) : Nat :=
  match shape with
  | 2 => 16
  | 3 => 64
  | _ => 32
def tileCols (shape : Nat) : Nat := if shape = 1 ∨ shape = 2 then 64 else 32

/-- Element bits, and K of lay 2 (R110). -/
def eszBits (esz : Nat) : Nat := 4 * 2 ^ esz
def eszK (esz : Nat) : Nat :=
  match esz with
  | 0 => 64
  | 1 => 32
  | _ => 16

/-- Rows and row bytes of a tile or block. -/
def StreamDesc.unitRows (d : StreamDesc) : Nat := if d.lay = 1 then tileRows d.shape else eszK d.esz
def StreamDesc.unitCols (d : StreamDesc) : Nat := if d.lay = 1 then tileCols d.shape else 4 * eszBits d.esz
/-- Scratchpad bytes of a tile, or of a transposed block. -/
def StreamDesc.unitBytes (d : StreamDesc) : Nat := d.unitRows * d.unitCols

/-- Nothing to move (R112). -/
def StreamDesc.none (d : StreamDesc) : Bool := d.n0 == 0 || d.n1 == 0 || d.n2 == 0

/-- The end of a strided range. -/
def stridedEnd (base c1 s1 c2 s2 n : Nat) : Nat := base + (c1 - 1) * s1 + (c2 - 1) * s2 + n

/-- The scratchpad offset beyond the last byte of the transfer, its source and its index list. -/
def StreamDesc.spEnd (d : StreamDesc) : Nat :=
  if d.none then 0
  else
    let dst :=
      if d.op = 2 then stridedEnd d.sp d.n1 d.ss1 1 0 d.n0
      else if d.lay = 0 then stridedEnd d.sp d.n1 d.ss1 d.n2 d.ss2 d.n0
      else stridedEnd d.sp (d.n1 / d.unitRows) d.ss1 (d.n0 / d.unitCols) d.ss2 d.unitBytes
    let src := if d.op = 3 then stridedEnd d.far.toNat d.n1 d.fs1 d.n2 d.fs2 d.n0 else 0
    let idx := if d.op = 2 then d.idx + 4 * d.n1 else 0
    max dst (max src idx)

/-- The descriptor at an offset, and whether its res fields are 0. -/
def State.streamDesc (s : State) (c t : Nat) (x : Thread) (off : Nat) : StreamDesc × Bool :=
  let b := s.readSp c x off 64
  let w := fieldAt b 0 4
  ({ thread := t, ctx := x.ctx, op := bitsOf w 31 28, lay := bitsOf w 27 26, esz := bitsOf w 25 24, nc := w.testBit 23
     dead := w.testBit 22, shape := bitsOf w 21 20, sp := fieldAt b 4 4, far := BitVec.ofNat 64 (fieldAt b 8 8), n0 := fieldAt b 16 4
     n1 := fieldAt b 20 4, n2 := fieldAt b 24 4, ss1 := fieldAt b 28 4, ss2 := fieldAt b 32 4, idx := fieldAt b 36 4
     fs1 := fieldAt b 40 8, fs2 := fieldAt b 48 8, spBase := x.spBase }, bitsOf w 19 0 == 0 && fieldAt b 56 8 == 0)

/-- R112 for a descriptor read. -/
def StreamDesc.ok (d : StreamDesc) (res : Bool) (window : Nat) : Bool :=
  res && decide (d.op ≤ 3) && d.lay != 3 && (d.op != 3 || decide (d.far.toNat < 2 ^ 32)) &&
    (d.lay == 0 || (d.n1 % d.unitRows == 0 && d.n0 % d.unitCols == 0 && d.n2 == 1 && d.op != 1 && d.op != 2)) &&
    !(d.nc && (d.op == 1 || d.op == 3)) && decide (d.spEnd ≤ window)

/-- An engine of a core. -/
def Core.eng (k : Core) (e : Nat) : StreamEng := Tab.get k.se {} e
def Core.setEng (k : Core) (e : Nat) (x : StreamEng) : Core := { k with se := Tab.set k.se {} e x }

/-- An engine named by an instruction: outside the thread's mask 0x0A (R108), then a transfer fault kept for the thread (R114). -/
def State.engAct (s : State) (c t : Nat) (x : Thread) (e : Nat) (k : State → Act) : Act :=
  if !x.seMask.testBit e then .fault 0x0A 0
  else if Tab.get x.stFault 0 e ≠ 0 then
    (match Tab.get x.stPoison none e with
      | some g => .poisoned (BitVec.ofNat 64 g)
      | none => .fault (Tab.get x.stFault 0 e) 0)
  else k (s.setThread c t x)

/-- R112, st.go. -/
def execStGo (c : CoreId) (t : ThreadId) (f : FmtI) (errs : List (Nat × Bool)) (s : State) : Out :=
  commit s (fun s => s.issueE c t f.pg f.pn (f.ok false true true 7) false [f.a.toNat] errs
    (fun s x =>
      let e := f.fn.toNat % 8
      s.engAct c t x e (fun s =>
        let off := (x.sreg f.a.toNat + f.sx).toNat
        if off % 64 ≠ 0 ∨ !x.inWindow off 64 then .fault 0x09 (BitVec.ofNat 64 off)
        else if (s.core c).spBad (x.phys off) 64 then .fault 0x08 (BitVec.ofNat 64 off)
        else
          let (d, res) := s.streamDesc c t x off
          if !d.ok res (x.spSize * 65536) then .fault 0x09 (BitVec.ofNat 64 off)
          else
            let q := (s.core c).eng e
            if 4 ≤ q.queue.length then .park s (.stGo e)
            else
              let d1 := if (s.core c).claim = some t.val then { d with behind := (s.core c).aq.length } else d
              .done (s.modCore c (fun k => k.setEng e { q with queue := q.queue ++ [d1] })))))

/-- What st.wait and st.poll return: done in bits [63:32], the flags in [7:0] (R113). -/
def StreamEng.word (q : StreamEng) : W64 := BitVec.ofNat 64 (q.done.toNat * 2 ^ 32 + q.flags.toNat)

/-- R113, st.wait. -/
def execStWait (c : CoreId) (t : ThreadId) (f : FmtI) (s : State) : Out :=
  commit s (fun s => s.issue c t f.pg f.pn (f.ok true true false 7) false [f.d.toNat, f.a.toNat]
    (fun s x =>
      let e := f.fn.toNat % 8
      s.engAct c t x e (fun s =>
        let q := (s.core c).eng e
        let target := (x.sreg f.a.toNat).toNat % 2 ^ 32
        if (q.done - BitVec.ofNat 32 target).toNat < 2 ^ 31 then
          .done ((s.modCore c (fun k => k.setEng e { q with flags := 0 })).putS c t f.d.toNat q.word)
        else .park s (.stWait e target))))

/-- R113, st.poll. -/
def execStPoll (c : CoreId) (t : ThreadId) (f : FmtI) (s : State) : Out :=
  commit s (fun s => s.issue c t f.pg f.pn (f.ok true false false 7) false [f.d.toNat]
    (fun s x =>
      let e := f.fn.toNat % 8
      s.engAct c t x e (fun s => .done (s.putS c t f.d.toNat ((s.core c).eng e).word))))

/-! ## Faults of a transfer -/

/-- Where a transfer meets poison of a class A page of this device, its thread's fault will be marked recoverable: the far address
(R172, R225). -/
def State.poisonAt (s : State) (code g : Nat) : Option Nat :=
  if code = 0x07 ∧ s.isLocal (BitVec.ofNat 64 g) ∧ (s.pageAt (g % 2 ^ 48)).any (fun p => p.cls == 2) then some g else none

/-- R114: the descriptor at the head is stopped, later ones of its thread on the engine are cancelled, and the thread faults, at once
where it is parked on the engine; `at_` is the far address of a fault marked recoverable. -/
def State.streamFault (s : State) (c e code : Nat) (at_ : Option Nat := none) : State :=
  let q := (s.core c).eng e
  match q.queue with
  | [] => s
  | d :: r =>
    let s1 := s.modCore c (fun k => k.setEng e { q with queue := r.filter (fun (y : StreamDesc) => y.thread != d.thread) })
    let x := s1.thread c d.thread
    if x.st = .park && (match x.why with | .stWait g _ => g == e | .stGo g => g == e | _ => false) then
      (s1.threadFault c d.thread code x.pc ((at_.map (BitVec.ofNat 64)).getD d.far) at_.isSome).resched c
    else if x.st = .free ∨ x.st = .fault then s1
    else s1.modThread c d.thread (fun x => { x with stFault := Tab.set x.stFault 0 e code, stPoison := Tab.set x.stPoison none e at_ })

/-- The scratchpad ranges that a descriptor writes, as physical offsets and lengths. -/
def StreamDesc.dests (d : StreamDesc) : List (Nat × Nat) :=
  let b := d.spBase * 65536
  if d.none ∨ d.op = 1 then []
  else if d.op = 2 then (List.range d.n1).map (fun i => (b + d.sp + i * d.ss1, d.n0))
  else if d.lay = 0 then
    (List.range d.n2).flatMap (fun p => (List.range d.n1).map (fun r => (b + d.sp + p * d.ss2 + r * d.ss1, d.n0)))
  else (List.range (d.n1 / d.unitRows)).flatMap (fun g => (List.range (d.n0 / d.unitCols)).map (fun t =>
    (b + d.sp + g * d.ss1 + t * d.ss2, d.unitBytes)))

/-- The scratchpad bytes of a stopped transfer are undefined (R114): free values. -/
def State.scramble (s : State) (c : Nat) (l : List (Nat × Nat)) : State :=
  { s.modCore c (fun k => l.foldl (fun (k : Core) r =>
      k.writeSp r.1 ((List.range r.2).map (fun i => Config.freeByte (s.fresh * 2 ^ 32 + r.1 + i)))) k) with fresh := s.fresh + 1 }

/-- A transfer of the head stopped by a fault. -/
def State.stopTransfer (s : State) (c e code : Nat) (d : StreamDesc) (at_ : Option Nat := none) : State :=
  (s.scramble c d.dests).streamFault c e code at_

/-! ## Reading and writing far ranges -/

/-- The parts of a range within 4 KiB lines. -/
def linePieces (g n : Nat) : List (Nat × Nat) :=
  if n = 0 then []
  else (List.range ((g + n - 1) / 4096 - g / 4096 + 1)).map (fun i =>
    let lo := max g (4096 * (g / 4096 + i))
    (lo, min (g + n) (4096 * (g / 4096 + i + 1)) - lo))

/-- A read of far bytes on its way: the wrong bytes that HBM reads find, the bytes so far, the peers' data left, the fault code or wait met,
where it was met if it is poison that may be recomputed, and the page that is away. -/
structure FarScan where
  s : State
  bad : List BadBytes := []
  data : List Byte := []
  peer : List Byte := []
  fault : Nat := 0
  poison : Option Nat := none
  wait : Bool := false
  away : Option Page := none

/-- A read of a sealed page looks up the near cache (R104): the 1 KiB lines of a piece, hits and misses counted; its bytes where every line
hits. -/
def State.nearPiece (s : State) (c ctx g n : Nat) : State × Option (List Byte) :=
  match s.sealedEpoch ctx (BitVec.ofNat 64 g) with
  | none => (s, none)
  | some e =>
    let ls := (List.range ((g + n - 1) / 1024 - g / 1024 + 1)).map (fun i => g / 1024 + i)
    let found := ls.map (fun l => (s.core c).near (l * 1024) e)
    let hits := found.filterMap id
    let s1 := s.modCore c (fun k => { k with nc := hits.foldl nearPut k.nc })
    let s2 := (s1.bump (oCore c 0x19) hits.length).bump (oCore c 0x1A) (ls.length - hits.length)
    (s2, if hits.length = ls.length then some (((hits.flatMap NcLine.data).drop (g % 1024)).take n) else none)

/-- The 1 KiB lines of a piece put into the near cache, for a descriptor with nc = 1 (R104). -/
def State.nearFillPiece (s : State) (c ctx g n : Nat) : State :=
  s.forAll (List.range ((g + n - 1) / 1024 - g / 1024 + 1)) (fun s i => s.nearFillLine c ctx (BitVec.ofNat 64 ((g / 1024 + i) * 1024)))

/-- The sectors that a range of a line covers whole. -/
def wholeBits (a n : Nat) : W16 := sectorBits a n &&& ~~~ partSectors a (List.replicate n ((0 : Byte), true))

/-- A line cached from a peer that a streamed read may be served from: its bytes, where its bank holds them under the page's epoch and no
fill of it is open (R132, R145, R146). -/
def State.remoteHit (s : State) (t : RemoteTrans) (g n : Nat) : Option Line :=
  let line := g % 2 ^ 62 / 4096
  let k := s.col (line % 96)
  (k.line? line true).filter (fun l => l.epoch == t.epoch && covers l.valid (sectorBits g n) &&
    !k.mshrs.any (fun m => m.remote && m.line == line))

/-- Peer bytes that a stream read: kept in the retained copy of a sealed page, and their whole sectors in the cache-remote bank that the
line's slot names (R132, R137, R145, R183). -/
def State.remoteKeep (s : State) (t : RemoteTrans) (g : Nat) (data : List Byte) : State :=
  let line := g % 2 ^ 62 / 4096
  let col := line % 96
  let bank := Tab.get (s.col col).steerR 0 (fold6 line)
  let s1 := if t.sealed then s.retain t g data else s
  if !t.sealed ∨ bank = 0 then s1
  else
    let x : Line := { bank := bank - 1, set := line / 64 % 32, line := line, remote := true, valid := wholeBits g data.length
                      epoch := t.epoch, data := Tab.writeBytes [] (g % 4096) data }
    s1.modCol col (fun k => { (k.countFill line true).install x with misses := k.misses + 1 })

/-- One piece of a peer's memory read: from a retained copy or a cached line of a sealed page, else by a request to its home, whose data
the command brings (R132, R145, R146, R183). -/
def FarScan.readPeer (x : FarScan) (s : State) (c ctx : Nat) (nc : Bool) (g n : Nat) (t : Option RemoteTrans) (deck : Option Bool) : FarScan :=
  let lg := s.leagueOf ctx
  let t := t.filter (fun t => t.sealed && t.league == lg)
  let line := g % 2 ^ 62 / 4096
  let s0 := s.remoteError (line % 96) line deck
  match t.bind (fun t => s0.copyRead t (g % 2 ^ 62) n), t.bind (fun t => s0.remoteHit t g n) with
  | some d, _ => { x with s := s0, data := x.data ++ d }
  | none, some l =>
    let s1 := s0.modCol (line % 96) (fun k => { k.touch l with hits := k.hits + 1 })
    { x with s := s1, data := x.data ++ Tab.readBytes l.data (g % 4096) n }
  | none, none =>
    if x.peer.length < n then { x with wait := true }
    else
      let ga := BitVec.ofNat 64 g
      let d := x.peer.take n
      let p : Pkt := { type := 0x10, dst := devOf ga, tag := s0.fabric.nextTag % 65536, attr := BitVec.ofNat 16 n, league := lg, addr := ga
                       ctx := ctx, fstep := s0.fstepOf lg }
      let s1 := (({ s0 with fabric := { s0.fabric with nextTag := (s0.fabric.nextTag + 1) % 65536 } } : State).sendPkt p).bump (oCore c 0x16) 1
      let s2 := match t with
        | some t =>
          let s3 := s1.remoteKeep t g d
          if nc then s3.nearFillPiece c ctx g n else s3
        | none => s1
      { x with s := s2, data := x.data ++ d, peer := x.peer.drop n }

/-- One piece within a line read: `deck` is the error that the deck's read of the piece finds (R141). -/
def FarScan.readPiece (x : FarScan) (c ctx : Nat) (nc : Bool) (g n : Nat) (deck : Option Bool) : FarScan :=
  if x.fault ≠ 0 ∨ x.wait then x
  else if 2 ^ 62 ≤ g then { x with fault := 0x05 }
  else
    let ga := BitVec.ofNat 64 g
    let own := x.s.isLocal ga
    let a := localOf ga
    let code := if own then x.s.useLocal ctx a false else if x.s.leagueOf ctx = 0 then 0x05 else 0
    if code ≠ 0 then { x with fault := code }
    else
      let near := x.s.nearPiece c ctx g n
      match near.2, x.s.pageAt a, x.s.remoteOf g with
      | some d, _, _ => { x with s := near.1, data := x.data ++ d }
      | none, some p, t =>
        if own then
          if p.away then { x with wait := true, away := some p }
          else if x.s.lineBusy p a then { x with wait := true }
          else
            let s1 := if near.1.deadLine a then near.1.deadRead ctx c a else near.1
            let s2 := ((((s1.noteAccess p a).touchPage p).hbmErrors p a n x.bad).colRead p a n true).deckError p a deck
            let r := s2.readAt a n
            let s3 := (if nc then s2.nearFillPiece c ctx g n else s2).bump (oCore c 0x16) 1
            if r.2 ≠ 0 then { x with s := s3, fault := r.2, poison := s3.poisonAt r.2 g } else { x with s := s3, data := x.data ++ r.1 }
        else x.readPeer near.1 c ctx nc g n t deck
      | none, none, t => if own then { x with fault := 0x05 } else x.readPeer near.1 c ctx nc g n t deck

/-- A range read. -/
def FarScan.read (x : FarScan) (c ctx : Nat) (nc : Bool) (g n : Nat) (deck : Option Bool) : FarScan :=
  (linePieces g n).foldl (fun x p => x.readPiece c ctx nc p.1 p.2 deck) x

/-- What stands in the way of a write of one piece: a fault code, or a wait. -/
def State.writePieceCode (s : State) (ctx g n : Nat) : Nat × Bool :=
  if 2 ^ 62 ≤ g then (0x05, false)
  else
    let ga := BitVec.ofNat 64 g
    if s.isLocal ga then
      let a := localOf ga
      match s.windowOf a with
      | some e =>
        if n ≠ 64 ∨ a % 64 ≠ 0 ∨ s.leagueOf ctx = 0 then (0x05, false) else (0, decide (256 ≤ (s.engine (s.serving e)).reqs.length))
      | none =>
        match s.pageAt a with
        | none => (0x05, false)
        | some p => let code := s.useLocal ctx a true; if code ≠ 0 then (code, false) else (0, p.away || s.writeHeld p.base a || s.lineBusy p a)
    else if s.leagueOf ctx = 0 then (0x05, false)
    else (0, false)

/-- The next packet tag's request given the slot of a stream's request (R102). -/
def State.slotted (s : State) (n slot : Nat) : State :=
  let outs := s.fabric.outs.take n ++ (s.fabric.outs.drop n).map (fun (o : Outstanding) => { o with slot := slot })
  { s with fabric := { s.fabric with outs := outs } }

/-- One piece written (R101, R129, R138): `deck` is the error that a merge with an old sector finds. Requests to a peer hold one slot until
they are acknowledged (R102). -/
def State.writePiece (s : State) (c e ctx g : Nat) (bs : List Byte) (deck : Option Bool) (bad : List BadBytes) : State :=
  let ga := BitVec.ofNat 64 g
  let s := s.bump (oCore c 0x16) 1
  if s.isLocal ga then
    let a := localOf ga
    match s.windowOf a, s.pageAt a with
    | some w, _ =>
      let v := s.serving w
      s.setEngine v { s.engine v with reqs := (s.engine v).reqs ++ [parseReq c ctx bs] }
    | none, some p =>
      let l := bs.map (fun b => (b, true))
      (if partSectors a l = 0 then s.noteAccess p a else ((s.noteAccess p a).partErrors p a l bad).deckError p a deck).homeStoreAs true a l
    | none, none => s
  else
    let n := s.fabric.outs.length
    let slot := (s.core c).nextFar + 1
    let s0 := s.modCore c (fun k => { k with nextFar := k.nextFar + 1 })
    let s1 :=
      if g % 256 = 0 ∧ bs.length % 256 = 0 then s0.askPeer c (idStream e) ctx ga none { type := 0x11, attr := 0, payload := bs }
      else
        s0.forAll (List.range ((g + bs.length + 255) / 256 - g / 256)) (fun s i =>
          let lo := max g (256 * (g / 256 + i))
          let hi := min (g + bs.length) (256 * (g / 256 + i + 1))
          s.askPeer c (idStream e) ctx (BitVec.ofNat 64 (lo / 256 * 256)) none
            (storePkt (sectorOf (lo % 256) (((bs.drop (lo - g)).take (hi - lo)).map (fun b => (b, true))))))
    s1.slotted n slot

/-! ## Transfers -/

/-- May a descriptor write scratchpad: no array-side instruction that its thread issued before it has yet to read scratchpad (R115)? -/
def Core.mayWrite (k : Core) (d : StreamDesc) : Bool :=
  (k.aq.take d.behind).all (fun o => match o with
    | .tkInit _ _ _ => true
    | .tkOut _ _ _ => true
    | _ => false)

/-- May an engine's request take a slot (R102, R103): the slot granted to it, or one that is free while no thread's request waits for it? -/
def State.streamTurn (s : State) (c e : Nat) (d : StreamDesc) : Bool :=
  d.op == 3 || d.none || ((s.core c).eng e).granted || ((s.threadWants c).isNone && s.slotFree c d.far)

/-- The head of an engine's queue, if its data has not moved yet, it has the operation asked for and it may move. -/
def State.streamHead (s : State) (c e op : Nat) : Option StreamDesc :=
  match ((s.core c).eng e).queue with
  | d :: _ => if d.op = op ∧ !d.moved ∧ (op = 1 ∨ (s.core c).mayWrite d) ∧ s.streamTurn c e d then some d else none
  | [] => none

/-- The head of an engine's queue changed. -/
def StreamEng.modHead (q : StreamEng) (f : StreamDesc → StreamDesc) : StreamEng :=
  { q with queue := match q.queue with
      | d :: r => f d :: r
      | [] => [] }

/-- The head's data has moved; its engine was the last requester served (R103). -/
def State.markMoved (s : State) (c e : Nat) : State :=
  s.modCore c (fun k => { k.setEng e { (k.eng e).modHead (fun d => { d with moved := true }) with granted := false } with lastReq := 1 + e })

/-- Pieces of the head's data have moved. -/
def State.markPos (s : State) (c e n : Nat) : State :=
  s.modCore c (fun k => { k.setEng e { (k.eng e).modHead (fun d => { d with pos := d.pos + n }) with granted := false } with lastReq := 1 + e })

/-- The rows of a source, as addresses and lengths, in the order in which they are read. -/
def StreamDesc.rows (d : StreamDesc) : List (Nat × Nat) :=
  if d.none then []
  else (List.range d.n2).flatMap (fun p => (List.range d.n1).map (fun r => (d.far.toNat + p * d.fs2 + r * d.fs1, d.n0)))

/-- A block of K rows of 32 elements transposed (R110). -/
def transposeBlock (bits : Nat) (rows : List (List Byte)) : List Byte :=
  packBytes bits ((List.range 32).flatMap (fun e => rows.map (fun r => unpackAt bits r e)))

/-- Where the bytes of the source rows go (R110): physical offsets and bytes. -/
def StreamDesc.place (d : StreamDesc) (rows : List (List Byte)) : List (Nat × List Byte) :=
  if d.lay = 0 then (d.dests.map Prod.fst).zip rows
  else
    let h := d.unitRows
    let w := d.unitCols
    let b := d.spBase * 65536
    (List.range (d.n1 / h)).flatMap (fun g => (List.range (d.n0 / w)).map (fun t =>
      let cut := ((rows.drop (h * g)).take h).map (fun r => (r.drop (w * t)).take w)
      (b + d.sp + g * d.ss1 + t * d.ss2, if d.lay = 1 then cut.flatten else transposeBlock (eszBits d.esz) cut)))

def Core.putAll (k : Core) (l : List (Nat × List Byte)) : Core := l.foldl (fun (k : Core) w => k.writeSp w.1 w.2) k

/-- Bytes cut into rows of n. -/
def cutRows (n : Nat) (bs : List Byte) (rows : Nat) : List (List Byte) := (List.range rows).map (fun i => (bs.drop (n * i)).take n)

/-- Lines that ranges cover in full. -/
def fullLines (l : List (Nat × Nat)) : List Nat :=
  let ps := l.flatMap (fun r => linePieces r.1 r.2)
  ((ps.map (fun p => p.1 / 4096)).dedup).filter (fun k =>
    decide (4096 ≤ ((ps.filter (fun p => p.1 / 4096 == k)).map Prod.snd).sum))

/-- The dead hint of a descriptor on the source lines that it read in full (Table 04.6, R148). -/
def State.streamDead (s : State) (d : StreamDesc) (l : List (Nat × Nat)) : State :=
  if !d.dead then s
  else s.forAll (fullLines l) (fun s k =>
    let ga := BitVec.ofNat 64 (k * 4096)
    if s.isLocal ga then s.deadOne d.ctx (localOf ga)
    else s.deadRemote k)

/-- A transfer that waits moves nothing yet; a page that is away is asked back (R188). -/
def State.awaits (s : State) (p : Option Page) : State :=
  match p with
  | some p => s.demandReturn p
  | none => s

/-- R110, R114: far data into scratchpad. -/
def execStreamRead (c : CoreId) (e : EngId) (i : StreamIn) (s : State) : Out :=
  commit s (fun s =>
    match s.streamHead c e 0 with
    | none => s
    | some d =>
      let x := d.rows.foldl (fun (x : FarScan) r => x.read c d.ctx d.nc r.1 r.2 i.deck) { s := s, bad := i.bad, peer := i.peer }
      if x.wait then s.awaits x.away
      else if x.fault ≠ 0 then x.s.stopTransfer c e x.fault d x.poison
      else
        let rows := cutRows d.n0 x.data d.rows.length
        ((x.s.modCore c (fun k => k.putAll (d.place rows))).streamDead d d.rows).markMoved c e)

/-- The pieces of a write, each within a line: far address, physical scratchpad address, bytes. -/
def StreamDesc.moves (d : StreamDesc) : List (Nat × Nat × Nat) :=
  if d.none then [] else (List.range d.n2).flatMap (fun p => (List.range d.n1).flatMap (fun r =>
    let g := d.far.toNat + p * d.fs2 + r * d.fs1
    (linePieces g d.n0).map (fun x => (x.1, d.spBase * 65536 + d.sp + p * d.ss2 + r * d.ss1 + (x.1 - g), x.2))))

/-- Pieces of a write moved in order, each as it finds its slot and its home open; one that faults stops the rest: the state, how many
moved, the fault. -/
def State.streamPieces (s : State) (c e : Nat) (d : StreamDesc) (deck : Option Bool) (bad : List BadBytes) :
    List (Nat × Nat × Nat) → Bool → Nat → State × Nat × Nat
  | [], _, n => (s, n, 0)
  | m :: r, granted, n =>
    let code := s.writePieceCode d.ctx m.1 m.2.2
    if code.1 ≠ 0 then (s, n, code.1)
    else if code.2 then
      (match s.pageAt (m.1 % 2 ^ 48) with
        | some p => ((if p.away then s.demandReturn p else s), n, 0)
        | none => (s, n, 0))
    else if !granted ∧ !s.slotFree c (BitVec.ofNat 64 m.1) then (s, n, 0)
    else (s.writePiece c e d.ctx m.1 ((s.core c).readSp m.2.1 m.2.2) deck bad).streamPieces c e d deck bad r false (n + 1)

/-- R110, R114: scratchpad data to far memory, piece by piece as slots allow; a later command goes on where this one stops. -/
def execStreamWrite (c : CoreId) (e : EngId) (i : SpIn) (s : State) : Out :=
  commit s (fun s =>
    match s.streamHead c e 1 with
    | none => s
    | some d =>
      let s := s.upset c i.errs
      let left := d.moves.drop d.pos
      match left.find? (fun m => (s.core c).spBad m.2.1 m.2.2) with
      | some m => (s.spError c ((s.core c).badWord m.2.1 m.2.2)).streamFault c e 0x08
      | none =>
        let g := ((s.core c).eng e).granted
        let x := (s.modCore c (fun k => k.setEng e { k.eng e with granted := false })).streamPieces c e d i.deck i.bad left g 0
        if x.2.2 ≠ 0 then x.1.streamFault c e x.2.2
        else if x.2.1 = left.length then x.1.markMoved c e
        else x.1.markPos c e x.2.1)

/-- The first index outside the table told: status bit 0, and event 0x2513 (R111). -/
def State.badIndex (s : State) (c e : Nat) (x : Option Nat) : State :=
  match x with
  | none => s
  | some i => (s.event 0x2513 (srcCore c) [(1, c), (1, e), (4, i)]).modCore c (fun k =>
      k.setEng e { k.eng e with flags := (k.eng e).flags ||| 1 })

/-- The rows of a gather in order: each index inside the table reads its row, up to the first that waits or faults; the indices so far
outside the table are kept. -/
def FarScan.gather (x : FarScan) (c : Nat) (d : StreamDesc) (deck : Option Bool) : List Nat → Option Nat → FarScan × Option Nat
  | [], b => (x, b)
  | i :: r, b =>
    if x.fault ≠ 0 ∨ x.wait then (x, b)
    else if i < d.n2 then (x.read c d.ctx d.nc (d.far.toNat + i * d.fs1) d.n0 deck).gather c d deck r b
    else ({ x with data := x.data ++ List.replicate d.n0 0 } : FarScan).gather c d deck r (b.orElse (fun _ => some i))

/-- R111: a gather; an index outside the table gives zeros, status bit 0 and, once, event 0x2513, also where a later row faults. -/
def execStreamGather (c : CoreId) (e : EngId) (peer : List Byte) (i : SpIn)
    (s : State) : Out :=
  commit s (fun s =>
    match s.streamHead c e 2 with
    | none => s
    | some d =>
      let s := s.upset c i.errs
      let b := d.spBase * 65536
      let n := if d.none then 0 else d.n1
      let k := s.core c
      if k.spBad (b + d.idx) (4 * n) then (s.spError c (k.badWord (b + d.idx) (4 * n))).stopTransfer c e 0x08 d
      else
        let xs := (List.range n).map (fun j => leNat (k.readSp (b + d.idx + 4 * j) 4))
        let (f, out) := ({ s := s, bad := i.bad, peer := peer } : FarScan).gather c d i.deck xs none
        if f.wait then s.awaits f.away
        else if f.fault ≠ 0 then (f.s.badIndex c e out).stopTransfer c e f.fault d f.poison
        else
          let rows := cutRows d.n0 f.data n
          let s1 := (f.s.modCore c (fun k => k.putAll ((d.dests.map Prod.fst).zip rows))).badIndex c e out
          let src := (xs.filter (fun x => decide (x < d.n2))).map (fun x => (d.far.toNat + x * d.fs1, d.n0))
          (s1.streamDead d src).markMoved c e)

/-- R110: scratchpad to scratchpad. -/
def execStreamCopy (c : CoreId) (e : EngId) (errs : List (Nat × Bool)) (s : State) : Out :=
  commit s (fun s =>
    match s.streamHead c e 3 with
    | none => s
    | some d =>
      let s := s.upset c errs
      let b := d.spBase * 65536
      let k := s.core c
      match d.rows.find? (fun r => k.spBad (b + r.1) r.2) with
      | some r => (s.spError c (k.badWord (b + r.1) r.2)).stopTransfer c e 0x08 d
      | none =>
        (s.modCore c (fun k => k.putAll (d.place (d.rows.map (fun r => k.readSp (b + r.1) r.2))))).markMoved c e)

/-- R113: the head's writes are visible, or acknowledged by every peer: the done count advances. -/
def execStreamDescriptorComplete (c : CoreId) (e : EngId) (s : State) : Out :=
  commit s (fun s =>
    let q := (s.core c).eng e
    match q.queue with
    | d :: r =>
      if (d.moved ∨ d.none) ∧ s.fabric.outs.all (fun o => o.core != c.val || o.id != idStream e) then
        s.modCore c (fun k => k.setEng e { q with queue := r, done := q.done + 1 })
      else s
    | [] => s)

/-- R114: a transfer fault that the engine meets: its code is 0x05 to 0x08. Poison is recoverable where the transfer's first far byte lies
in a class A page (DESIGN CHOICE, assumption 125). -/
def execStreamTransferFault (c : CoreId) (e : EngId) (code : Nat) (s : State) : Out :=
  commit s (fun s =>
    match ((s.core c).eng e).queue with
    | d :: _ => if 0x05 ≤ code ∧ code ≤ 0x08 then s.stopTransfer c e code d (s.poisonAt code d.far.toNat) else s
    | [] => s)

end Sys2Proof.Machine
end

