-- ==== Sys2Proof/Machine/Fabric.lean ====
section
/-! DEFINITION. The Pitch fabric: links, frames, credits, responses, forwarding, seals, fences, retraining (R293–R331). -/

namespace Sys2Proof.Machine

def lnDown : Nat := 1
def lnTraining : Nat := 2
def lnUp : Nat := 3
def lnOne : Nat := 4
def lnRetrain : Nat := 5
def lnFailed : Nat := 6

def State.lnState (s : State) (l : Nat) : Nat := s.obj (oLink l 1)
/-- A link's state; one that is disabled, down, in training or failed has no generation, lane or spare in use. -/
def State.setLn (s : State) (l st : Nat) : State :=
  let s1 := s.setObj (oLink l 1) st
  if st = lnUp ∨ st = lnOne ∨ st = lnRetrain then s1 else ((s1.setObj (oLink l 2) 0).setObj (oLink l 3) 0).setObj (oLink l 4) 0
def State.lnIsUp (s : State) (l : Nat) : Bool := s.lnState l == lnUp || s.lnState l == lnOne

/-! ## Answers from peers (R303, R316) -/

/-- The thread fault of a response status (Table 10.6). -/
def statusFault (st : Nat) : Nat :=
  match st with
  | 0 => 0
  | 2 => 0x06
  | 3 => 0x07
  | _ => 0x05

/-- The page's attributes of a response kept in the remote translation cache (R168), its data in a retained copy, and a copy under
another epoch dropped (R183). -/
def State.learn (s : State) (o : Outstanding) (p : Pkt) : State :=
  let big := p.attr.toNat.testBit 14
  let sz := if big then 2097152 else 65536
  let r : RemoteTrans := {
    page := o.addr.toNat / sz * sz, big := big, sealed := p.attr.toNat.testBit 15, wr := p.attr.toNat.testBit 13
    epoch := p.epoch, league := s.leagueOf o.ctx }
  let rest := s.keeper.remote.filter (fun x => decide (x.page + (if x.big then 2097152 else 65536) ≤ r.page) || decide (r.page + sz ≤ x.page))
  let s1 := { s with keeper := { s.keeper with remote := (r :: rest).take 16384 } }.dropRetained
    (fun x => x.page != r.page || (x.epoch == r.epoch && r.sealed))
  if r.sealed && p.type == 0x18 then s1.retain r o.addr.toNat p.payload else s1

/-- Is a request's answer of the step that this device has flipped now? A read of the step before may no longer be kept (R11, R258). -/
def State.timely (s : State) (o : Outstanding) : Bool := o.fstep == s.fstepOf (s.leagueOf o.ctx)

/-- A fetch from a peer ends (R107): its line is in the instruction cache, or its fault waits for the thread. -/
def State.fetchEnd (s : State) (o : Outstanding) (fault : Nat) : State :=
  let t := o.id - 2 ^ 36
  s.modCore o.core (fun k =>
    if fault ≠ 0 then { k with fetching := k.fetching.map (fun e => if e.1 = t then (t, fault) else e) }
    else
      let k1 := { k with fetching := k.fetching.filter (fun e => e.1 != t) }
      match s.fetchEpoch o.addr with
      | some e => k1.icPut { line := o.addr.toNat / 1024, epoch := e }
      | none => k1)

/-- INVs whose fills have all returned are answered (R147). -/
def State.answerInvs (s : State) : State :=
  let ready (e : Nat × Nat × Nat × Nat) : Bool := s.cols.all (fun c => c.2.mshrs.all (fun m =>
    !m.remote || decide ((m.line + 1) * 4096 ≤ e.2.1) || decide (e.2.1 + e.2.2.1 ≤ m.line * 4096)))
  let now := s.fabric.pendInva.filter ready
  ({ s with fabric := { s.fabric with pendInva := s.fabric.pendInva.filter (fun e => !ready e) } }).forAll now (fun s e =>
    s.sendPkt { type := 0x31, vc := 6, dst := e.1, addr := BitVec.ofNat 64 e.2.1, epoch := e.2.2.2 })

/-- A fill of a cache-remote line returns (R137, R145–R147): installed where allowed, its waiters served from the line and the data. One
asked for before a flip is neither kept nor served: its waiters ask again (R11). -/
def State.remoteFill (s : State) (col : Nat) (o : Outstanding) (data : List Byte) (sealed : Bool) (epoch fault : Nat) : State :=
  let g := o.addr.toNat % 2 ^ 62
  let line := g / 4096
  match (s.col col).mshrs.find? (fun m => m.line == line && m.remote) with
  | none => s
  | some m =>
    let bank := Tab.get (s.col col).steerR 0 (fold6 line)
    let x : Line := { bank := bank - 1, set := line / 64 % 32, line := line, remote := true, valid := sectorBits g data.length
                      epoch := epoch, data := Tab.writeBytes [] (g % 4096) data }
    let s1 := s.modCol col (fun k => k.countFill line true)
    let s2 := if fault = 0 ∧ m.install ∧ sealed ∧ bank ≠ 0 ∧ s.timely o then s1.modCol col (fun k => k.install x) else s1
    let have_ := match (s2.col col).line? line true with
      | some y => if y.epoch = epoch then { x with valid := x.valid ||| y.valid, data := x.data.foldl (fun (t : Tab Byte) (e : Nat × Byte) => Tab.set t 0 e.1 e.2) y.data } else x
      | none => x
    let covered (w : Nat × Nat) : Bool :=
      match (s2.core w.1).req w.2 with
      | some r => fault != 0 || (s.timely o && covers have_.valid (sectorBits r.addr.toNat r.span))
      | none => true
    let s3 := s2.forAll (m.waiters.filter covered) (fun s w =>
      match (s.core w.1).req w.2 with
      | some r => s.serve w.1 w.2 (if fault = 0 then Tab.readBytes have_.data (r.addr.toNat % 4096) r.span else []) fault
      | none => s)
    let left := m.waiters.filter (fun w => !covered w)
    let more := s3.fabric.outs.any (fun q => q.id == idFill col && q.addr.toNat % 2 ^ 62 / 4096 == line)
    if more ∧ !left.isEmpty then
      s3.modCol col (fun k => { k with mshrs := k.mshrs.map (fun y => if y.line = line ∧ y.remote then { y with waiters := left } else y) })
    else
      ((s3.closeMshr col line true).forAll left (fun s w =>
        match (s.core w.1).req w.2 with
        | some r => s.homeArrive w.1 w.2 { r with stage := .slotted } false none
        | none => s)).answerInvs

/-- A request of this device ends, with its data or a fault. -/
def State.endRequest (s0 : State) (o : Outstanding) (p : Pkt) (fault : Nat) : State :=
  let s := { s0 with fabric := { s0.fabric with outs := s0.fabric.outs.filter (fun x => x.tag != o.tag) } }
  if o.id < 2 ^ 32 then s.serve o.core o.id p.payload fault
  else if o.id = idKeep then
    match o.keep with
    | some (q, n) =>
      let st := if fault ≠ 0 then kPeer else fieldAt p.payload 8 2
      match s.shipOf (q, n) with
      | some x => s.shipAnswer x st (fieldAt p.payload 24 8)
      | none => if fault ≠ 0 then s.complete q n kPeer 0 else s.complete q n st (fieldAt p.payload 24 8)
    | none => s
  else if o.id = idShip then
    match o.keep.bind s.shipOf with
    | some x => if fault ≠ 0 then s.failSnap x else s
    | none => s
  else if o.id = idEngine then s
  else if 2 ^ 36 ≤ o.id then s.fetchEnd o fault
  else if 2 ^ 33 ≤ o.id then s.remoteFill (o.id - 2 ^ 33) o p.payload (p.attr.toNat.testBit 15) p.epoch fault
  else if fault ≠ 0 then
    s.streamFault o.core (o.id - 2 ^ 32) fault
  else s

/-- A response received: one without its request is discarded (R316). -/
def State.onResponse (s0 : State) (l : Nat) (p : Pkt) : State :=
  let s := s0.arrive l p
  match s.fabric.outs.find? (fun o => o.tag == p.tag && devOf o.addr == p.src) with
  | none => s
  | some o =>
    let s1 := if p.status = 0 ∧ o.id ≠ idKeep ∧ s.timely o then s.learn o p else s
    s1.endRequest o p (statusFault p.status)

/-- R303, RDR. -/
def execRdr (l : LinkId) (p : Pkt) (s : State) : Out := commit s (fun s => s.onResponse l p)
/-- R303, ACKW. -/
def execAckw (l : LinkId) (p : Pkt) (s : State) : Out := commit s (fun s => s.onResponse l p)
/-- R180, KEEPR: the completion record of the keeper command. -/
def execKeepr (l : LinkId) (p : Pkt) (s : State) : Out := commit s (fun s => s.onResponse l p)

/-- A request completes in error (R316): counted, event 0x2211, the fault 0x05. -/
def State.failRequest (s : State) (tag : Nat) : State :=
  match s.fabric.outs.find? (fun o => o.tag == tag) with
  | none => s
  | some o => ((s.bump (objKey 0x2440 8) 1).event 0x2211 srcRouter [(2, o.ctx), (8, o.addr.toNat)]).endRequest o {} 0x05

/-- R316: a request unanswered for 2440:05 ms. -/
def execRequestTimeout (tag : Nat) (s : State) : Out := commit s (fun s => s.failRequest tag)

/-- R180, R181, KEEP: an allocation for this device's context pctx, in the league carried; KEEPR carries its record. One that finds no frame
while an off-load is under way waits, as does each while frame books are rebuilt. -/
def execKeep (l : LinkId) (p : Pkt) (frames : List Nat) (s : State) : Out :=
  commit s (fun s0 =>
    let s := s0.arrive l p
    if s.obj oFabricOn = 0 then s
    else match s.tryKeep p frames with
    | some t => t
    | none => { s with keeper := { s.keeper with keepWaits := s.keeper.keepWaits ++ [p] } })

/-! ## Forwarding (R305, R310–R312) -/

/-- Listed packet types that are routed (Table 10.5). -/
def routedType (t : Nat) : Bool :=
  [0x10, 0x11, 0x12, 0x14, 0x18, 0x19, 0x1A, 0x20, 0x21, 0x30, 0x31, 0x32, 0x33, 0x40].elem t

/-- Types that a link of fabric-protocol generation 1 does not carry (R325). -/
def sealType (t : Nat) : Bool := [0x30, 0x31, 0x32, 0x33].elem t

/-- R305, R311, R312: a packet for another device passed on, or discarded; its flits stay held until it has left. -/
def execPacketForward (l : LinkId) (p : Pkt) (s : State) : Out :=
  commit s (fun s0 =>
    let s := s0.countRx l p
    let gone (cause : Nat) : State := (s.discardPkt cause p.dst p.src).freeFlits l p
    if s.obj oFabricOn = 0 then s.freeFlits l p
    else if !routedType p.type then gone 3
    else if p.dst = s.ownDev then s.freeFlits l p
    else if 3 ≤ p.hops then gone 0
    else if !(s.routeRow p.dst).testBit 31 then gone 2
    else
      let out := (s.pickLink p.dst (pktHash p)).getD ((routeLinks (s.routeRow p.dst)).headD 0)
      let keep := decide (s.obj (oLink l 8) < s.obj (oLink out 8))
      if !keep ∧ p.vc % 2 = 1 then gone 1
      else if sealType p.type ∧ (s.link out).fabric = 1 then gone 4
      else
        let q := { p with hops := p.hops + 1, vc := if keep then p.vc else p.vc + 1 }
        let s1 := s.holdFlits l p
        ({ s1 with fabric := { s1.fabric with transit := s1.fabric.transit ++ [{ link := l, out := out, came := p, sent := q }] } } : State).sendOn
          out q)

/-! ## Frames, acknowledgement and credits (R299–R301, R306, R307) -/

/-- A retrain begins (R327, R328). Causes: 1 uncorrectable frames, 2 a lane's lock, 3 a full replay buffer, 4 the credit audit, 5 asked
for. -/
def State.startRetrain (s : State) (l cause : Nat) : State :=
  if s.lnIsUp l then (s.setLn l lnRetrain).setLink l { s.link l with since := s.dev.ctlCyc, cause := cause, bad := [] } else s

/-- Control-complex cycles of 1 s. -/
def oneSecond : Nat := 1200000000

/-- An uncorrectable frame: counted, NAKed; over the threshold in 1 s the link retrains (R300, R301, R327). -/
def State.badFrame (s : State) (l : Nat) : State :=
  let x := s.link l
  let bad := s.dev.ctlCyc :: x.bad.filter (fun c => decide (s.dev.ctlCyc < c + oneSecond))
  let s1 := (s.bump (oLink l 0x0D) 1).setLink l { x with bad := bad }
  let s2 := s1.emit (.linkCtl l 2 [x.expect, 1])
  if s.obj (objKey 0x2440 6) < bad.length then
    (s2.event 0x2212 (srcLink l) [(1, l), (4, bad.length)]).startRetrain l 1
  else s2

/-- The CRC-8 of a frame: fseq's low and high byte, then the flits. -/
def frameCrc (fseq : Nat) (data : List Byte) : Nat := crc8 (leBytes 2 fseq ++ data)

/-- What a received frame comes to: the symbols corrected, and fseq as decoded; none for an uncorrectable one (R300). Up to 15 wrong symbols
are always the decoder's answer; beyond, what it makes of the code word decides. -/
def frameDecode (fseq : Nat) (crc : Byte) (data : List Byte) (errs : List (Nat × BitVec 10)) : Option (Nat × Nat) :=
  let wrong := ((errs.filter (fun e => e.2 != 0 && decide (e.1 < 544))).map Prod.fst).eraseDups
  if wrong.length ≤ 15 then (if frameCrc fseq data = crc.toNat then some (wrong.length, fseq % 4096) else none)
  else
    match fecDecode errs with
    | none => none
    | some fix =>
      let left := errs ++ fix
      let hdr := (fseq % 4096 * 256 + crc.toNat) ^^^ (leNatBits 0 left 2 % 2 ^ 20)
      let body := flitBytes left data
      if frameCrc (hdr / 256) body = hdr % 256 then some (fix.length, hdr / 256) else none

/-- R299–R301: a frame arrives as sent, with the symbols that are wrong: corrected, then accepted in sequence, or discarded. -/
def execFrameReceive (l : LinkId) (fseq : Nat) (crc : Byte) (data : List Byte) (errs : List (Nat × BitVec 10)) (s : State) : Out :=
  commit s (fun s =>
    if !s.lnIsUp l then s
    else
      match frameDecode fseq crc data errs with
      | none => s.badFrame l
      | some (fixed, seq) =>
        let x := s.link l
        let s1 := s.bump (oLink l 0x0C) fixed
        if seq ≠ x.expect then s1
        else
          let s2 := s1.setLink l { x with expect := (x.expect + 1) % 4096 }
          if (seq + 1) % 16 = 0 then s2.emit (.linkCtl l 2 [seq, 0]) else s2)

/-- The frames of a replay buffer up to and including one. -/
def ackUpTo (fseq : Nat) (l : List (Nat × Nat)) : List (Nat × Nat) :=
  if l.any (fun e => e.1 == fseq) then (l.dropWhile (fun e => e.1 != fseq)).drop 1 else l

/-- R301: an ACK frees frames; with NAK the sender replays from the named frame. -/
def execAck (l : LinkId) (fseq : Nat) (nak : Bool) (s : State) : Out :=
  commit s (fun s =>
    let x := s.link l
    if nak then
      let rest := x.replay.dropWhile (fun e => e.1 != fseq % 4096)
      let keep := if x.replay.any (fun e => e.1 == fseq % 4096) then rest else x.replay
      (s.setLink l { x with replay := keep }).emit (.linkCtl l 0x100 (keep.map Prod.fst))
    else (s.setLink l { x with replay := ackUpTo (fseq % 4096) x.replay }).drainLink l)

/-- R306: a CREDIT adds to the sender's counts, or replaces them. -/
def execCredit (l : LinkId) (counts : List Nat) (absolute : Bool) (s : State) : Out :=
  commit s (fun s =>
    let x := s.link l
    let cr := (List.range 10).foldl (fun t v =>
      Tab.set t 0 v (if absolute then counts.getD v 0 else min (Tab.get x.credits 0 v + counts.getD v 0) 65535)) x.credits
    (s.setLink l { x with credits := cr }).drainLink l)

/-- R306: freed flits reported within 50 ns. -/
def execCreditReturn (l : LinkId) (s : State) : Out := commit s (fun s => s.sendCredit l)

/-- The absolute free counts that this receiver sends. -/
def State.sendAbsolute (s : State) (l : Nat) : State :=
  let x := s.link l
  (s.setLink l { x with freed := [] }).emit (.linkCtl l 1 ((List.range 10).map (fun v => vcAlloc v - Tab.get x.held 0 v) ++ [1]))

/-- R307: absolute counts compared on an idle link. -/
def execCreditAudit (l : LinkId) (counts : List Nat) (s : State) : Out :=
  commit s (fun s =>
    let x := s.link l
    if !s.lnIsUp l ∨ !x.replay.isEmpty ∨ !x.queued.isEmpty then s
    else
      let bad := (List.range 10).filter (fun v => Tab.get x.credits 0 v != counts.getD v 0)
      let s1 := s.sendAbsolute l
      if bad.isEmpty then s1
      else
        (s1.forAll bad (fun s v => s.event 0x2214 (srcLink l) [(1, l), (1, v), (4, Tab.get x.credits 0 v), (4, counts.getD v 0)])).startRetrain
          l 4)

/-! ## Negotiation (R295–R298) -/

/-- This device's HELLO for a link. -/
def State.ownHello (s : State) (l : Nat) : Hello :=
  { passmc := s.activeSet.passmc, link := l, rank := s.obj (oLink l 8), devid := s.obj oDevId, maxgen := s.obj (oLink l 9), lanes := (s.link l).trained
    serial := (List.range 16).map Config.serialByte }

/-- The highest common generation of a link, 0 for none (R297). -/
def State.commonGen (s : State) (l : Nat) (h : Hello) : Nat :=
  let top := min (s.obj (oLink l 9)) h.maxgen
  if 2 ≤ top ∧ h.gens.testBit 2 then 2 else if 1 ≤ top ∧ h.gens.testBit 1 then 1 else 0

/-- May the octet's spare serve a link: no other link of the octet holds it (R295)? -/
def State.spareFree (s : State) (l : Nat) : Bool :=
  (List.range 8).all (fun i => let k := l / 8 * 8 + i; k == l || s.obj (oLink k 4) == 0)

/-- A forwarded packet that waits, waits for another link. -/
def State.moveTransit (s : State) (l k : Nat) (p : Pkt) : State :=
  match s.fabric.transit.find? (fun (t : Transit) => t.out == l && t.sent == p) with
  | none => s
  | some t => { s with fabric := { s.fabric with transit := s.fabric.transit.map (fun u => if u = t then { t with out := k } else u) } }

/-- Packets that wait on links that are down, sent again where another listed link of theirs has come up (R310). -/
def State.reroute (s : State) : State :=
  s.forAll ((List.range 64).filter (fun l => !s.lnIsUp l && s.lnState l != lnRetrain && !(s.link l).queued.isEmpty)) (fun s l =>
    let q := (s.link l).queued
    (s.setLink l { s.link l with queued := [] }).forAll q (fun s p =>
      match s.pickLink p.dst (pktHash p) with
      | some k => (s.moveTransit l k p).sendOn k p
      | none => s.setLink l { s.link l with queued := (s.link l).queued ++ [p] }))

/-- HELLO decided for a link whose lanes are trained (R297, R298): its records, lanes and state; false where no generation is common. -/
def State.decideHello (s : State) (l : Nat) (lanes : Nat) (spare : Bool) (h : Hello) : State × Bool :=
  let g := s.commonGen l h
  if g = 0 then ((s.event 0x2206 (srcLink l) [(1, l), (1, h.gens)]).setLn l lnDown, false)
  else
    let x := s.link l
    let n0 := min lanes h.lanes
    let sp := decide (n0 < 2) && spare && s.spareFree l
    let n := if sp then n0 + 1 else n0
    if n = 0 then (s.setLn l lnDown, false)
    else
      let own := s.obj oDevId
      let idBad := h.devid == own && own != 0xFFFF
      let rankBad := h.rank != s.obj (oLink l 8)
      let s1 := s.setLink l { x with fabric := min 2 h.fabric, excluded := idBad || rankBad, serial := h.serial }
      let s2 := [(5, h.devid), (6, h.link), (7, h.fabric * 65536 + h.passmc * 256 + h.determ), (2, g), (3, n), (4, if sp then 1 else 0)].foldl
        (fun s e => s.setObj (oLink l e.1) e.2) s1
      let s3 := s2.setLn l (if n = 1 then lnOne else lnUp)
      let s4 := s3.when sp (fun s => s.event 0x2204 (srcLink l) [(1, l), (1, x.lane)])
      let s5 := s4.when (n == 1) (fun s => s.event 0x2205 (srcLink l) [(1, l), (1, x.lane)])
      let s6 := s5.when idBad (fun s => s.event 0x2209 (srcLink l) [(2, own), (2, h.devid)])
      let s7 := s6.when (rankBad && !idBad) (fun s => s.event 0x2209 (srcLink l) [(1, s.obj (oLink l 8)), (1, h.rank)])
      let s8 := s7.when (h.determ != 2) (fun s => (s.event 0x2207 (srcLink l) [(1, l), (2, h.devid), (1, h.determ)]).regroup)
      (s8, true)

/-- The octet's spare has trained beside a link: it sends a HELLO of its own, of one lane (R295, R296). -/
def State.spareHello (s : State) (l : Nat) (spare : Bool) : State :=
  s.when spare (fun s => s.emit (.hello l { s.ownHello l with link := 0x40 + l / 8, lanes := 1 }))

/-- R296–R298: a partner's HELLO on a training link; `spare`: the octet's spare has trained and its HELLO names the same partner. -/
def execHello (l : LinkId) (spare : Bool) (h : Hello) (s : State) : Out :=
  commit s (fun s =>
    if s.lnState l ≠ lnTraining then s
    else
      let x := (s.spareHello l spare).decideHello l (s.link l).trained spare h
      if !x.2 then x.1
      else
        let s1 := x.1.event 0x2201 (srcLink l) [(1, l), (1, x.1.obj (oLink l 2)), (1, x.1.obj (oLink l 3)), (2, h.devid)]
        let k := s1.link l
        ((s1.setLink l { k with replay := [], nextSeq := 0, expect := 0, credits := [], held := k.held, freed := [] }).sendAbsolute
          l).reroute)

/-- R293, R300: frame lock: the code words of a training link decode on the lanes that trained; this device's HELLO goes out. -/
def execFrameLock (l : LinkId) (lanes : Nat) (s : State) : Out :=
  commit s (fun s =>
    if s.lnState l = lnTraining then
      let s1 := s.setLink l { s.link l with trained := min 2 lanes }
      s1.emit (.hello l (s1.ownHello l))
    else s)

/-! ## Retraining and failure (R327–R329) -/

/-- The requests in a link's replay buffer completed in error, and its held frames discarded (R316, R328, R329). -/
def State.loseFrames (s : State) (l : Nat) : State :=
  let x := s.link l
  let tags := ((x.replay.filter (fun e => e.2 != 0)).map (fun e => e.2 - 1)).eraseDups
  (s.setLink l { x with replay := [] }).forAll tags State.failRequest

/-- R327: a lane loses lock. -/
def execLaneLockLoss (l : LinkId) (lane : Nat) (s : State) : Out :=
  commit s (fun s => if s.lnIsUp l then (s.setLink l { s.link l with lane := lane }).startRetrain l 2 else s)

/-- R327: the replay buffer has stayed full for 10 µs. -/
def execReplayFullTimeout (l : LinkId) (s : State) : Out :=
  commit s (fun s => if 256 ≤ (s.link l).replay.length then s.startRetrain l 3 else s)

/-- R328: the lanes of a retraining link are trained: HELLO, absolute credits, and the held frames replayed. -/
def execRetrainLanesTrained (l : LinkId) (lanes : Nat) (spare : Bool) (h : Hello) (counts : List Nat) (s : State) : Out :=
  commit s (fun s =>
    if s.lnState l ≠ lnRetrain then s
    else
      let old := s.link l
      let s := s.setLink l { old with trained := min 2 lanes }
      let s0 := (s.emit (.hello l (s.ownHello l))).spareHello l spare
      let x := s0.decideHello l (min 2 lanes) spare h
      if !x.2 then x.1.setLn l lnRetrain
      else
        let s1 := (x.1.bump (oLink l 0x0E) 1).event 0x2203 (srcLink l) [(1, l), (1, old.cause), (4, (s.dev.ctlCyc - old.since) / 1200)]
        let changed := old.serial != h.serial
        let s2 := s1.when changed (fun s => (s.event 0x2208 (srcLink l) [(8, leNat (old.serial.take 8)), (8, leNat (h.serial.take 8))]).loseFrames l)
        let k := s2.link l
        let cr := (List.range 10).foldl (fun t v => Tab.set t 0 v (counts.getD v 0)) []
        let s3 := (s2.setLink l { k with credits := cr }).sendAbsolute l
        let s4 := if k.replay.isEmpty then s3 else s3.emit (.linkCtl l 0x100 (k.replay.map Prod.fst))
        (s4.drainLink l).reroute)

/-- R329: three retrains have failed, or 200 ms passed without success. -/
def execRetrainFailure (l : LinkId) (s : State) : Out :=
  commit s (fun s =>
    if s.lnState l ≠ lnRetrain then s
    else (((s.setLn l lnFailed).event 0x2202 (srcLink l) [(1, l), (1, (s.link l).cause)]).loseFrames l).reroute)

/-- A write of 1 to 2200+l:0B: a retrain, or a FAILED link trained again; rejected during a live activation (R403). -/
def State.wrRetrain (l : Nat) (s : State) (_v : Nat) : Wr :=
  if s.dev.act.isSome then (s, dState)
  else if s.lnIsUp l then (s.startRetrain l 5, dOk)
  else if s.lnState l = lnFailed then (s.setLn l lnTraining, dOk)
  else (s, dOk)

/-- 2200+l:0A: a link disabled goes down with its frames; an enabled one trains once the links have started. -/
def State.wrLinkEnable (l : Nat) (s : State) (v : Nat) : Wr :=
  let s1 := s.setObj (oLink l 0x0A) v
  if v = 0 then (((s1.setLn l 0).loseFrames l).reroute, dOk)
  else if s.lnState l = 0 ∨ s.lnState l = lnFailed then (s1.setLn l (if 0x60 ≤ s.dev.phase then lnTraining else lnDown), dOk)
  else (s1, dOk)

/-- 2200+l:08: rejected while the fabric is enabled. -/
def State.wrRank (l : Nat) (s : State) (v : Nat) : Wr := if s.obj oFabricOn = 1 then (s, dState) else s.wrPlain (oLink l 8) v

/-- 2440:01 (R308). -/
def State.wrDevId (s : State) (v : Nat) : Wr :=
  let partner := (List.range 64).any (fun l => s.obj (oLink l 5) == v && v != 0xFFFF)
  let kept := s.obj (objKey 0x2500 0x0C) != 0 && s.obj oDevId == 0xFFFF
  if s.obj oFabricOn = 1 ∨ partner then (s, dState)
  else if kept then (if v = s.keeper.keptDevId then s.wrPlain oDevId v else (s, dState))
  else if !s.sched.ctxs.isEmpty then (s, dState)
  else s.wrPlain oDevId v

/-- 2440:02 (R308). -/
def State.wrFabricOn (s : State) (v : Nat) : Wr :=
  if v = 1 ∧ s.obj oDevId = 0xFFFF then (s, dState) else s.wrPlain oFabricOn v

/-- 2440:0C (R326): the peer's league fences are cleared. -/
def State.wrClearFence (s : State) (v : Nat) : Wr :=
  ({ s with fabric := { s.fabric with fences := s.fabric.fences.filter (fun (f : Fence) => !(f.kind == 2 && f.dev == v)) } }.setObj
    (objKey 0x2440 0x0C) v, dOk)

def execDeviceIdWrite (sess v : Nat) (s : State) : Out := writeNum sess oDevId v (fun s => s.wrDevId v) s
def execFabricEnableWrite (sess v : Nat) (s : State) : Out := writeNum sess oFabricOn v (fun s => s.wrFabricOn v) s
def execLinkRankWrite (sess : Nat) (l : LinkId) (v : Nat) (s : State) : Out := writeNum sess (oLink l 8) v (fun s => s.wrRank l v) s
def execClearLeagueFenceWrite (sess v : Nat) (s : State) : Out :=
  writeNum sess (objKey 0x2440 0x0C) v (fun s => s.wrClearFence v) s
def execRetrainRequestWrite (sess : Nat) (l : LinkId) (v : Nat) (s : State) : Out :=
  writeNum sess (oLink l 0x0B) v (fun s => s.wrRetrain l v) s
def execLinkEnableWrite (sess : Nat) (l : LinkId) (v : Nat) (s : State) : Out :=
  writeNum sess (oLink l 0x0A) v (fun s => s.wrLinkEnable l v) s

/-! ## Seals (R319–R325, R478) -/

/-- R319, SEAL: once every request issued under the old leaves has completed (R169). -/
def execSeal (q : QueueId) (n : Nat) (s : State) : Out :=
  commit s (withDesc q n 0x34 (fun s d =>
    let c := s.keeperCheck d
    if c ≠ 0 then s.rejectDesc q n c
    else if d.f 8 8 = 0 then s.complete q n 0 0
    else if 4096 ≤ s.keeper.regions.length then s.rejectDesc q n kMeta
    else if (s.pagesIn (d.f 0 8) (d.f 0 8 + d.f 8 8)).any (fun p => !(s.openOn p).isEmpty) then s
    else
      let x := s.sealRange d.ctx (d.f 0 8) (d.f 8 8)
      x.1.complete q n 0 x.2))

/-- The freed pages of a region whose readers have answered are gone; the free commands that waited for it alone complete. -/
def State.freesDone (s : State) (r : Region) : State :=
  let s1 := s.forAll r.freeing (fun s b =>
    match s.pageAt b with
    | some p => s.removePage p
    | none => s)
  s1.forAll r.frees (fun s c =>
    if s.keeper.regions.any (fun x => x.base != r.base && x.frees.elem c) then s else s.complete c.1 c.2 0 0)

/-- A command's regions all answered, and every request issued under their leaves complete (R169): every page unsealed, the regions deleted,
the command complete (R321 step 5). -/
def State.finishUnseal (s : State) (cmd : Nat × Nat) : State :=
  let rs := s.keeper.regions.filter (fun r => r.unsealing && r.cmd == some cmd)
  if rs.isEmpty ∨ rs.any (fun r => !r.awaited.isEmpty || (s.pagesIn r.base (r.base + r.size)).any (fun p => !(s.openOn p).isEmpty)) then s
  else
    let s0 := s.forAll rs (fun s r =>
      (s.forAll (s.pagesIn r.base (r.base + r.size)) (fun s p =>
        if p.sealed ∧ !r.freeing.elem p.base then (s.setPage { p with sealed := false, wr := true, sepoch := r.invEpoch }).dropTlb (pageKey p.base)
        else s)).dropRegion r.base)
    let s1 := s0.forAll rs State.freesDone
    (s1.bump (objKey 0x2440 0x0A) 1).complete cmd.1 cmd.2 0 (rs.foldl (fun m r => max m r.invEpoch) 0)

/-- A region's freed pages gone once its readers have answered (R478); a command that waited for them completes. -/
def State.finishFree (s : State) (base : Nat) : State :=
  match s.keeper.regions.find? (fun r => r.base == base) with
  | none => s
  | some r =>
    if r.freeing.isEmpty ∨ !r.awaited.isEmpty then s
    else
      let r1 := { r with freeing := [], frees := [] }
      ((s.setRegion r1).freesDone r).tidyRegion r1

/-- A region's readers have all answered, or been fenced. -/
def State.regionAnswered (s : State) (base : Nat) : State :=
  match s.keeper.regions.find? (fun r => r.base == base) with
  | none => s
  | some r =>
    if !r.awaited.isEmpty then s
    else if r.unsealing then (match r.cmd with | some c => s.finishUnseal c | none => s)
    else s.finishFree base

/-- R321, UNSEAL: not while a page of the range holds a shadow. E′ is one above the highest epoch that a page of the region holds. -/
def execUnseal (q : QueueId) (n : Nat) (s : State) : Out :=
  commit s (withDesc q n 0x35 (fun s d =>
    let lo := d.f 0 8
    let size := d.f 8 8
    if s.keeper.regions.any (fun r => r.cmd == some (q.val, n)) then s.finishUnseal (q.val, n)
    else
      match (if size = 0 then some [] else s.wholeRegions d.ctx lo size) with
      | none => s.rejectDesc q n kAddr
      | some rs =>
        if size = 0 then s.complete q n 0 0
        else if (s.pagesIn lo (lo + size)).any (fun p => s.shadowed p.base) then s
        else
          let s1 := s.forAll rs (fun s r =>
            let ps := s.pagesIn r.base (r.base + r.size)
            let e := (ps.foldl (fun m p => max m p.sepoch) r.epoch + 1) % 2 ^ 16
            let rd := r.readers.filter s.sealsTo
            let g := (globalOf s.ownDev r.base).toNat
            let s1 := s.setRegion { r with unsealing := true, awaited := rd, invEpoch := e, cmd := some (q.val, n) }
            let s2 := s1.forAll ps (fun s p => s.setPage { p with sepoch := e })
            (s2.dropCopies g (g + r.size)).forAll rd (fun s k => s.sendInv k r e))
          s1.finishUnseal (q.val, n)))

/-- R147, R323: INV: this device's copies dropped; INVA once the open fills of the region have returned. -/
def execInv (l : LinkId) (p : Pkt) (s : State) : Out :=
  commit s (fun s0 =>
    let s := s0.arrive l p
    let lo := p.addr.toNat
    let size := fieldAt p.payload 0 8
    let s1 := s.dropCopies lo (lo + size)
    ({ s1 with fabric := { s1.fabric with pendInva := s1.fabric.pendInva ++ [(p.src, lo, size, fieldAt p.payload 8 2)] } }).answerInvs)

/-- R321, INVA. -/
def execInva (l : LinkId) (p : Pkt) (s : State) : Out :=
  commit s (fun s0 =>
    let s := s0.arrive l p
    let base := localOf p.addr
    match s.keeper.regions.find? (fun r => r.base == base) with
    | none => s
    | some r =>
      if r.invEpoch ≠ p.epoch ∨ !r.awaited.elem p.src then s
      else (s.setRegion { r with awaited := r.awaited.filter (fun d => d != p.src) }).regionAnswered base)

/-- FENCE to a device for a region. -/
def State.sendFence (s : State) (f : Fence) : State :=
  if f.kind = 1 ∧ s.sealsTo f.dev then s.sendPkt { type := 0x32, vc := 6, dst := f.dev, addr := globalOf s.ownDev f.key } else s

/-- R322, R478: the fence time ends: the readers that have not answered are fenced, unless the fence list is full; a region whose readers
have answered goes on once no request under its old leaves is open (R169). -/
def execFenceTimeExpire (base : Nat) (s : State) : Out :=
  commit s (fun s =>
    match s.keeper.regions.find? (fun r => r.base == base) with
    | none => s
    | some r =>
      if r.awaited.isEmpty then s.regionAnswered base
      else if 256 < s.fabric.fences.length + r.awaited.length then s
      else
        let fs := r.awaited.map (fun d => ({ dev := d, kind := 1, key := base } : Fence))
        let s1 := { s with fabric := { s.fabric with fences := s.fabric.fences ++ fs } }.setRegion { r with awaited := [] }
        let s2 := (s1.bump (objKey 0x2440 0x0B) fs.length).event 0x2220 srcKeeper [(8, base), (2, r.invEpoch), (4, fs.length)]
        (s2.forAll fs State.sendFence).regionAnswered base)

/-- R322: FENCE sent again every 1 ms. -/
def execFenceResend (s : State) : Out := commit s (fun s => s.forAll s.fabric.fences State.sendFence)

/-- R323, FENCE: the home's copies are dropped, FENCEA sent, event 0x2221. -/
def execFencePacket (l : LinkId) (p : Pkt) (s : State) : Out :=
  commit s (fun s0 =>
    let s := (s0.arrive l p).dropCopies (p.src * 2 ^ 48) ((p.src + 1) * 2 ^ 48)
    (s.sendPkt { type := 0x33, vc := 6, dst := p.src, addr := p.addr }).event 0x2221 srcRouter [(2, p.src), (8, p.addr.toNat)])

/-- R322, FENCEA: the entry goes. -/
def execFencea (l : LinkId) (p : Pkt) (s : State) : Out :=
  commit s (fun s0 =>
    let s := s0.arrive l p
    { s with fabric := { s.fabric with fences := s.fabric.fences.filter (fun (f : Fence) =>
        !(f.kind == 1 && f.dev == p.src && f.key == localOf p.addr)) } })

/-- R323: no usable link to a home for 2440:04 ms. -/
def execHomeUnreachable (dev : Nat) (s : State) : Out :=
  commit s (fun s =>
    if (s.pickLink dev 0).isSome ∧ s.routed dev then s
    else (s.dropCopies (dev * 2 ^ 48) ((dev + 1) * 2 ^ 48)).event 0x2222 srcRouter [(2, dev)])

end Sys2Proof.Machine
end

