-- ==== Sys2Proof/Machine/Host.lean ====
section
/-! DEFINITION. The host attachment: link and configuration space, host-side resets, BAR2 apertures and the host pool (R332–R346,
R465; Tables 11.1–11.10). -/

namespace Sys2Proof.Machine

/-! ## The board record and the straps (R461, R471) -/

/-- Strap SIGk as sampled; 0 before. -/
def State.strap (s : State) (k : Nat) : Bool :=
  match s.dev.straps with
  | some v => v.toNat.testBit k
  | none => false

/-- Is a board record valid (R471)? -/
def boardOk (b : List Byte) : Bool :=
  b.length == 256 && b.take 4 == [0x42, 0x58, 0x42, 0x52] && fieldAt b 4 2 == 1 && fieldAt b 6 2 == 0 && fieldAt b 252 4 == crc32c (b.take 252) &&
    !(fieldAt b 12 1).testBit 0 && (decide (fieldAt b 18 1 ≤ 15) || fieldAt b 18 1 == 0xFF) && decide (1 ≤ fieldAt b 19 1) &&
    decide (fieldAt b 19 1 ≤ 16) && ((b.drop 72).take 180).all (fun x => x == 0)

/-- The board record that the T96 uses, or none where it is absent or SIG3 says to ignore it. -/
def State.boardRec (s : State) : Option (List Byte) := if boardOk s.flash.board ∧ !s.strap 3 then some s.flash.board else none

/-! ## Access to host memory (R336) -/

/-- Host memory may be reached again: the records that waited are written in order, and returns and off-loads that waited start. -/
def State.hostResume (s : State) : State :=
  if !s.hostOpen then s
  else
    let l := s.sched.heldDone
    let s1 := { s with host := { s.host with blocked := false }, sched := { s.sched with heldDone := [] } }.forAll l
      (fun s e => s.writeRecord e.1 e.2.1 e.2.2.1 e.2.2.2)
    (s1.pumpReturns).pumpOffloads

/-! ## Host pool (R342–R344) -/

def State.region (s : State) (r : Nat) : HostRegion := Tab.get s.host.pool {} r
def State.setHostRegion (s : State) (r : Nat) (x : HostRegion) : State :=
  { s with host := { s.host with pool := Tab.set s.host.pool {} r x } }

/-- The slots field of hp_ctl. -/
def hpSlots (ctl : W64) : Nat := ctl.toNat % 2 ^ 24

/-- R342: lend written 1 to a free region. -/
def State.lend (s : State) (r : Nat) (ctl : W64) : State :=
  let x := s.region r
  if x.state ≠ 0 then s
  else (s.setHostRegion r { x with slots := hpSlots ctl, state := 1 }).modPool 3
    (fun p => { p with total := p.total + hpSlots ctl, free := p.free + hpSlots ctl })

/-- Is a page off-loaded into a region? -/
def Page.inRegion (p : Page) (r : Nat) : Bool := p.loc == 3 && p.place / 2 ^ 24 == r

/-- R343: lend written 0: a lent region is revoked: its pages return; a free region takes the slots field. -/
def State.revoke (s : State) (r : Nat) (ctl : W64) : State :=
  let x := s.region r
  if x.state = 0 then s.setHostRegion r { x with slots := hpSlots ctl }
  else if x.state ≠ 1 then s
  else if x.used.isEmpty then
    (s.setHostRegion r { x with state := 0 }).modPool 3 (fun p => { p with total := p.total - x.slots, free := p.free - x.slots })
  else
    let s1 := s.setHostRegion r { x with state := 2 }
    s1.forAll (s1.allPages.filter (fun p => p.inRegion r)) (fun s p => s.startReturn p)

/-- R342. -/
def execHostPoolLend (r : Fin 64) (ctl : W64) (s : State) : Out :=
  commit s (fun s => if ctl.toNat.testBit 31 ∧ s.barOpen then s.inOrder (0x200008 + r * 32) 8 ctl [] (fun s => s.lend r ctl) else s)

/-- R343. -/
def execHostPoolRevoke (r : Fin 64) (ctl : W64) (s : State) : Out :=
  commit s (fun s => if ctl.toNat.testBit 31 ∨ !s.barOpen then s else s.inOrder (0x200008 + r * 32) 8 ctl [] (fun s => s.revoke r ctl))

/-- A page off-loaded into a lost region: every later read of it faults (R344). -/
def State.losePage (s : State) (p : Page) : State :=
  { s with poison := (List.range (p.bytes / 64)).foldl (fun t i => Tab.set t false (p.base / 64 + i) true) s.poison }.setPage
    { p with lost := true, mig := false }

/-- R344: every region with used slots is lost, with the pages in it; the others are as after reset. -/
def State.loseRegions (s : State) : State :=
  let s1 := s.forAll (s.keeper.offs.map Offload.page) State.cancelOffload
  let s2 := s1.forAll s1.keeper.rets (fun s r =>
    match s.pageAt r.page with
    | some p => s.modPool (poolOf r.loc) (fun b => b.abort p.frames)
    | none => s)
  let s3 := { s2 with keeper := { s2.keeper with rets := [] } }
  let s4 := s3.forAll (s3.allPages.filter (fun p => p.away)) State.losePage
  s4.forAll s4.host.pool (fun s e =>
    let x := e.2
    let n := x.used.length
    if x.state = 3 then s
    else if n = 0 then
      (s.setHostRegion e.1 {}).modPool 3 (fun p => if x.state = 0 then p else { p with total := p.total - x.slots, free := p.free - x.slots })
    else
      ((s.setHostRegion e.1 { slots := n, state := 3, used := x.used }).modPool 3
        (fun p => { p with total := p.total - (x.slots - n), free := p.free - (x.slots - n) })).event 0x2444 srcHost [(1, e.1), (4, n)])

/-! ## Host-side resets (R345) -/

/-- Commands that the host gave and that no record will answer: what they started goes on without them. -/
def State.forgetCommands (s : State) : State :=
  let seq (q : Seq) : Seq := { q with cmds := [], batch := q.batch.map (fun b => { b with cmds := [] }) }
  let k := s.sched
  let gone (c : Nat × Nat) : Nat × Nat := (c.1 + 256, c.2)
  { s with
    sched := { k with
      queues := []
      heldDone := []
      slots := k.slots.map (fun e => (e.1, e.2.map seq))
      waiting := k.waiting.map seq
      snaps := k.snaps.map (fun x => { x with cmd := gone x.cmd }) }
    keeper := { s.keeper with regions := s.keeper.regions.map Region.forget, allocWaits := [] }
    fabric := { s.fabric with outs := s.fabric.outs.map (fun o => { o with keep := o.keep.map gone }) } }

/-- Default BAR2 size in GiB (Table 11.9). -/
def oBar2 : Nat := objKey 0x2300 0x0B

/-- R345: what every host-side reset does; kind 1 FLR, 2 hot reset, 3 link down. -/
def State.hostReset (s : State) (kind : Nat) : State :=
  let queues := (s.sched.queues.filter (fun e => e.2.state == 1)).length
  let slots := s.host.pool.foldl (fun n e => n + e.2.used.length) 0
  let s1 := s.loseRegions.forgetCommands.closeCapless
  let sticky := s1.host.cfg.filter (fun (e : Nat × Nat) => e.1 == 0x104 || e.1 == 0x110)
  let mb := { s1.mgmt.mbSession with level := 0, last := 0, kept := [] }
  let s2 := { s1 with
    host := { s1.host with busMaster := false, memSpace := false, d3 := false, cfg := sticky, aps := [], mb := {}, blocked := false, posted := [] }
    mgmt := { s1.mgmt with mbSession := mb } }
  ((s2.setObj oBar2 32).bump (objKey 0x2300 0x0D) 1).event 0x22F2 srcHost [(1, kind), (4, queues), (4, slots)]

/-- The link is down: 2300:01 to 2300:03 read 0; it trains again where `again`. -/
def State.hostDown (s : State) (again : Bool) : State :=
  let s1 := { s with host := { s.host with up := false, training := again } }
  ((s1.setObj (objKey 0x2300 1) 0).setObj (objKey 0x2300 2) 0).setObj (objKey 0x2300 3) 0

/-- The SPDM connection reset (R348). -/
def State.dropSpdm (s : State) : State := { s with access := { s.access with spdm := 0, spdmA := [], spdmB := [], spdmL := [] } }

/-- R345, R348: a function-level reset. -/
def execFlr (s : State) : Out := commit s (fun s => if s.host.up then (s.hostReset 1).dropSpdm else s)

/-- R345: a hot reset; the link trains again by itself. -/
def execHotReset (s : State) : Out := commit s (fun s => if s.host.up then (s.hostReset 2).hostDown true else s)

/-- R345: the link goes down; it trains again by itself. -/
def execHostLinkDown (s : State) : Out := commit s (fun s => if s.host.up then (s.hostReset 3).hostDown true else s)

/-- R465: PERST_N asserted: as a link-down event; ignored with SIG2 = 1 (Table 16.3). -/
def execPerstNAssert (s : State) : Out :=
  commit s (fun s =>
    if s.strap 2 ∨ s.host.perst then s
    else
      let s1 := (s.hostReset 3).hostDown false
      { s1 with host := { s1.host with perst := true, cfg := [] } })

/-- R465: PERST_N deasserted: the phases of Table 11.2 start. -/
def execPerstNDeassert (s : State) : Out :=
  commit s (fun s => if s.strap 2 ∨ !s.host.perst then s else { s with host := { s.host with perst := false, training := true } })

/-! ## The link (R332, R333) -/

def oLinkRate : Nat := objKey 0x2300 1
def oCap : Nat := objKey 0x2300 4

/-- R332, R333: the link has trained. A rate above the cap cannot be trained. FLIT mode is always used at 64 GT/s. Before HOST_LINK has
raised the rate nothing is a shortfall. -/
def execHostLinkTrained (rate width : Nat) (flit : Bool) (s : State) : Out :=
  commit s (fun s =>
    let cap := s.obj oCap
    if !s.host.training ∨ !([2, 5, 8, 16, 32, 64].elem rate) ∨ !([1, 2, 4, 8, 16].elem width) ∨ cap < rate then s
    else
      let s1 := { s with host := { s.host with up := true, training := false } }
      let s2 := ((s1.setObj oLinkRate rate).setObj (objKey 0x2300 2) width).setObj (objKey 0x2300 3) (if flit ∨ rate = 64 then 1 else 0)
      if 0x50 ≤ s.dev.phase ∧ (rate < cap ∨ width < 16) then (s2.bump (objKey 0x2300 9) 1).event 0x22F1 srcHost [(1, rate), (1, width), (1, cap)] else s2)

/-- R333: 2300:05 directs a retrain to the cap. -/
def State.wrRetrainHost (s : State) (_v : Nat) : Wr :=
  (if s.host.up then { s with host := { s.host with training := true } } else s, dOk)

/-- R333, a write to 2300:05. -/
def execRetrainToCapWrite (sess v : Nat) (s : State) : Out := writeNum sess (objKey 0x2300 5) v (fun s => s.wrRetrainHost v) s

/-- R346: an error of the link, counted, its bits set in the status of advanced error reporting; an uncorrectable one adds event 0x22F3. -/
def execHostLinkError (uncorrectable : Bool) (status : Nat) (s : State) : Out :=
  commit s (fun s =>
    let reg := if uncorrectable then 0x104 else 0x110
    let s1 := { s with host := { s.host with cfg := Tab.upd s.host.cfg 0 reg (fun v => v ||| status % 2 ^ 32) } }
    if uncorrectable then (s1.bump (objKey 0x2300 7) 1).event 0x22F3 srcHost [(4, status)] else s1.bump (objKey 0x2300 6) 1)

/-! ## Configuration space (R334–R336, Table 11.3). The register places are those of the PCI Express base specification; the
capabilities' offsets are the model's (assumption 40). -/

/-- BAR2's size as the Resizable BAR capability encodes it: log2 of MiB. -/
def State.barCode (s : State) : Nat := 10 + Nat.log2 (s.obj oBar2)

/-- A BAR's address as the host wrote it, as far as its size lets it. -/
def State.barAddr (s : State) (lo size : Nat) : Nat := (Tab.get s.host.cfg 0 lo + Tab.get s.host.cfg 0 (lo + 4) * 2 ^ 32) / size * size

/-- Extended capabilities: offset, id, next. -/
def extCaps : List (Nat × Nat) :=
  [(0x100, 0x0001), (0x148, 0x0003), (0x158, 0x0015), (0x170, 0x0025), (0x180, 0x0026), (0x1B0, 0x002A), (0x1E0, 0x0031), (0x200, 0x0027),
   (0x260, 0x002E), (0x280, 0x002F)]

/-- The header dword of an extended capability. -/
def extHeader (off : Nat) : Option Nat :=
  (extCaps.find? (fun e => e.1 == off)).map (fun e =>
    e.2 + 2 ^ 16 + ((extCaps.find? (fun n => decide (off < n.1))).map Prod.fst).getD 0 * 2 ^ 20)

/-- Byte i of the capability's device serial number (Table 11.3). -/
def dsnByte (i : Nat) : Byte := Config.serialByte i ^^^ Config.serialByte (i + 8)

/-- The dword at an offset of configuration space. -/
def State.cfgWord (s : State) (off : Nat) : Nat :=
  let b0 := s.barAddr 0x10 (2 ^ 26)
  let b2 := s.barAddr 0x18 (s.obj oBar2 * 2 ^ 30)
  match off with
  | 0x00 => 0x79601FD4
  | 0x04 => (if s.host.memSpace then 2 else 0) + (if s.host.busMaster then 4 else 0) + 0x00100000
  | 0x08 => 0x120000A1
  | 0x10 => b0 % 2 ^ 32 + 0x4
  | 0x14 => b0 / 2 ^ 32
  | 0x18 => b2 % 2 ^ 32 + 0xC
  | 0x1C => b2 / 2 ^ 32
  | 0x2C =>
    match s.boardRec with
    | some b => fieldAt b 8 2 + fieldAt b 10 2 * 2 ^ 16
    | none => 0x00011FD4
  | 0x34 => 0x40
  | 0x40 => 0x00035001
  | 0x44 => 0x8 + (if s.host.d3 then 3 else 0)
  | 0x50 => 0x00020010
  | 0x54 => 0x10000022
  | 0x5C => 0x00400106
  | 0x60 =>
    let r := s.obj oLinkRate
    ((([0, 2, 5, 8, 16, 32, 64].idxOf? r).getD 0) + s.obj (objKey 0x2300 2) * 16) * 2 ^ 16
  | 0x74 => 0x0003000F
  | 0x7C => 0x0000007E
  | 0x104 => Tab.get s.host.cfg 0 0x104
  | 0x110 => Tab.get s.host.cfg 0 0x110
  | 0x14C => leNat ((List.range 4).map dsnByte)
  | 0x150 => leNat ((List.range 4).map (fun i => dsnByte (i + 4)))
  | 0x15C => 0x00FFC000
  | 0x160 => 0x22 + s.barCode * 2 ^ 8
  | 0x284 => 0x0000000C
  | o => (extHeader o).getD 0

/-- A change of the BAR2 size clears en in every aperture (R340). -/
def State.sizeBar2 (s : State) (gib : Nat) : State :=
  if s.obj oBar2 = gib then s
  else { s.setObj oBar2 gib with host := { s.host with aps := s.host.aps.map (fun e => (e.1, { e.2 with ctl := e.2.ctl &&& ~~~(0x80000000 : W64) })) } }

/-- A dword of configuration space written. -/
def State.cfgWrite (s : State) (off v : Nat) : State :=
  match off with
  | 0x04 => { s with host := { s.host with memSpace := v.testBit 1, busMaster := v.testBit 2 } }.hostResume
  | 0x44 => if v % 4 = 0 ∨ v % 4 = 3 then { s with host := { s.host with d3 := v % 4 == 3 } }.hostResume else s
  | 0x58 => if v.testBit 15 then (s.hostReset 1).dropSpdm else s
  | 0x160 => let c := v / 2 ^ 8 % 64; if 10 ≤ c ∧ c ≤ 19 then s.sizeBar2 (2 ^ (c - 10)) else s
  | 0x104 => { s with host := { s.host with cfg := Tab.upd s.host.cfg 0 0x104 (fun x => x &&& (0xFFFFFFFF ^^^ v)) } }
  | 0x110 => { s with host := { s.host with cfg := Tab.upd s.host.cfg 0 0x110 (fun x => x &&& (0xFFFFFFFF ^^^ v)) } }
  | o => if [0x10, 0x14, 0x18, 0x1C].elem o then { s with host := { s.host with cfg := Tab.set s.host.cfg 0 o v } } else s

/-- Bytes of a dword replaced. -/
def mergeWord (old off size v : Nat) : Nat :=
  let n := 8 * (off % 4)
  let m := (2 ^ (8 * size) - 1) * 2 ^ n % 2 ^ 32
  (old &&& (0xFFFFFFFF ^^^ m)) ||| (v * 2 ^ n % 2 ^ 32 &&& m)

/-- R334, R335: a configuration request, answered once the link is up. -/
def execConfigRequest (offset size : Nat) (wr : Option W32) (s : State) : Out :=
  commit s (fun s =>
    if !s.host.up ∨ 4096 ≤ offset ∨ !([1, 2, 4].elem size) ∨ offset % size ≠ 0 then s
    else
      let at_ := offset / 4 * 4
      match wr with
      | none => s.emit (.completion 0 (leBytes size (s.cfgWord at_ / 2 ^ (8 * (offset % 4)))))
      | some v => (s.cfgWrite at_ (mergeWord (s.cfgWord at_) offset size v.toNat)).emit (.completion 0 []))

/-! ## Apertures and BAR2 (R340, R341) -/

def State.aperture (s : State) (a : Nat) : Aperture := Tab.get s.host.aps {} a
def State.setAperture (s : State) (a : Nat) (x : Aperture) : State := { s with host := { s.host with aps := Tab.set s.host.aps {} a x } }

/-- Bytes of an aperture. -/
def State.apBytes (s : State) : Nat := s.obj oBar2 * 2 ^ 27

def Aperture.en (x : Aperture) : Bool := x.ctl.toNat.testBit 31
def Aperture.ctx (x : Aperture) : Nat := x.ctl.toNat % 2 ^ 14

/-- R340: en written 1. -/
def State.openAperture (s : State) (a : Nat) (ctl : W64) : State :=
  let x := s.aperture a
  if x.en then s
  else
    let c := ctl.toNat % 2 ^ 14
    let ok := x.base.toNat % 2 ^ 48 % s.apBytes == 0 && (s.ctx? c).isSome
    s.setAperture a { x with ctl := BitVec.ofNat 64 (c + if ok then 2 ^ 31 else 2 ^ 30) }

/-- R340: en written 0. While en was 1 the ctx field keeps its value. -/
def State.closeAperture (s : State) (a : Nat) (ctl : W64) : State :=
  let x := s.aperture a
  let c := if x.en then x.ctx else ctl.toNat % 2 ^ 14
  s.setAperture a { x with ctl := BitVec.ofNat 64 (c + if x.ctl.toNat.testBit 30 then 2 ^ 30 else 0) }

/-- R340. -/
def execApertureEnable (a : Fin 8) (ctl : W64) (s : State) : Out :=
  commit s (fun s => if ctl.toNat.testBit 31 ∧ s.barOpen then s.inOrder (0x101008 + a * 16) 8 ctl [] (fun s => s.openAperture a ctl) else s)

/-- R340. -/
def execApertureDisable (a : Fin 8) (ctl : W64) (s : State) : Out :=
  commit s (fun s => if ctl.toNat.testBit 31 ∨ !s.barOpen then s else s.inOrder (0x101008 + a * 16) 8 ctl [] (fun s => s.closeAperture a ctl))

/-- A BAR2 access: its device-local address, and the cause of a refusal, 0 for none (R341). -/
def State.bar2 (s : State) (offset n : Nat) (wr : Bool) : Nat × Nat :=
  let b := s.apBytes
  let x := s.aperture (offset / b)
  let at_ := x.base.toNat % 2 ^ 48 + offset % b
  let bad := (linePieces at_ n).any (fun p => s.useLocal x.ctx p.1 wr != 0)
  (at_, if !s.running then 1 else if !x.en then 2 else if bad ∨ b < offset % b + n then 3 else 0)

/-- R341: a refused access. -/
def State.refuseBar2 (s : State) (offset cause : Nat) : State :=
  (s.bump (objKey 0x2300 0x0A) 1).event 0x22F5 srcHost [(1, offset / s.apBytes), (8, offset), (1, cause)]

/-- Is a page under a range off-loaded? Its return starts, and the access waits for it. -/
def State.awayIn (s : State) (a n : Nat) : List Page :=
  ((linePieces a n).filterMap (fun p => s.pageAt p.1)).filter Page.away

/-- The errors that a BAR2 access's reads find: of HBM sectors (R170) and of deck sectors, by address (R141). -/
def State.bar2Errors (s : State) (g : Page) (a n : Nat) (deck : List (Nat × Bool)) : State :=
  s.forAll (deck.filter (fun e => decide (a / 256 ≤ e.1 / 256) && decide (e.1 < a + n))) (fun s e => s.deckError g e.1 (some e.2))

/-- A BAR2 access served, or none while it waits: for a page's return, its copy, or an open MSHR of its line (R142, R188, R191). Completion
statuses are those of the base specification: 0 success, 1 unsupported request, 4 Completer Abort; 0x100 a success with the EP bit. A write
with the EP bit makes the sectors that it covers poisoned (R341). -/
def State.serveBar2 (s : State) (offset n : Nat) (data : Option (List Byte)) (ep : Bool) (deck : List (Nat × Bool)) (bad : List BadBytes) :
    Option State :=
  let wr := data.isSome
  let (a, cause) := s.bar2 offset n wr
  let ps := linePieces a n
  let meets (f : Page → Nat → Bool) : Bool := ps.any (fun p => (s.pageAt p.1).any (fun g => f g p.1))
  if cause ≠ 0 then some (if wr then s.refuseBar2 offset cause else (s.refuseBar2 offset cause).emit (.completion 4 []))
  else if meets (fun g x => g.away || s.lineBusy g x || (wr && s.writeHeld g.base x)) then none
  else
    match data with
    | none =>
      let ctx := (s.aperture (offset / s.apBytes)).ctx
      let s1 := s.forAll ps (fun s p =>
        let s1 := if s.deadLine p.1 then s.deadRead ctx 0xFF p.1 else s
        match s1.pageAt p.1 with
        | some g => ((((s1.noteAccess g p.1).touchPage g).hbmErrors g p.1 p.2 bad).colRead g p.1 p.2 false).bar2Errors g p.1 p.2 deck
        | none => s1)
      let x := s1.readAt a n
      some (s1.emit (if x.2 ≠ 0 then .completion 0x100 [] else .completion 0 x.1))
    | some bytes =>
      let s1 := s.forAll ps (fun s p =>
        let l := ((bytes.drop (p.1 - a)).take p.2).map (fun b => (b, true))
        let s := match s.pageAt p.1 with
          | some g =>
            let s1 := s.noteAccess g p.1
            if partSectors p.1 l = 0 then s1 else (s1.partErrors g p.1 l bad).bar2Errors g p.1 p.2 deck
          | none => s
        s.homeStoreAs true p.1 l)
      some (if ep then s1.forAll (List.range ((a + n - 1) / 64 - a / 64 + 1)) (fun s i => s.setPoison (a / 64 + i) true) else s1)

/-- A BAR2 access served in its turn, or held; the returns of the pages that it needs start (R188, R338). -/
def State.meetBar2 (s : State) (offset n : Nat) (data : Option (List Byte)) (ep : Bool) (deck : List (Nat × Bool)) (bad : List BadBytes) : State :=
  let held (s : State) : State := s.holdPosted (.bar2 offset n data ep)
  if s.host.posted.any Posted.writes then held s
  else
    match s.serveBar2 offset n data ep deck bad with
    | some t => t
    | none => held (s.forAll (s.awayIn (s.bar2 offset n data.isSome).1 n) State.demandReturn)

/-- R341: a BAR2 read. -/
def execBar2Read (offset : Nat) (x : BarRead) (s : State) : Out :=
  commit s (fun s =>
    if !s.barOpen ∨ s.obj oBar2 * 2 ^ 30 ≤ offset then s.emit (.completion 1 []) else s.meetBar2 offset x.n none false x.deck x.bad)

/-- R338, R341: a BAR2 write. -/
def execBar2Write (offset : Nat) (data : List Byte) (x : BarWrite) (s : State) : Out :=
  commit s (fun s =>
    if !s.barOpen ∨ s.obj oBar2 * 2 ^ 30 ≤ offset ∨ data.isEmpty then s else s.meetBar2 offset data.length (some data) x.ep x.deck x.bad)

end Sys2Proof.Machine
end

