-- ==== Sys2Proof/Machine/Firmware.lean ====
section
/-! DEFINITION. Firmware sets: manifests and their checks (R387, R388), staging (R392), activation at reset and live, abandonment
(R393, R394, R400), and core quarantine (R404, R405). -/

namespace Sys2Proof.Machine

/-! ## Manifests -/

/-- The fused stepping (1000:02). -/
def stepping : Nat := 0xA1

/-- The versions of a set in image-ID order. -/
def FwSet.versions (f : FwSet) : List Nat := (List.range 8).map f.version

/-- A list of versions is listed with the fused stepping (R388). -/
def FwSet.lists (f : FwSet) (vs : List Nat) : Bool := f.tuples.any (fun t => t.1 == stepping && t.2 == vs)

/-- R388. -/
def FwSet.tested (f : FwSet) : Bool := f.lists f.versions

/-- Steps 2 to 4 of R387, or 0: the signatures, the root keys, the security version. -/
def FwSet.checkKeys (f : FwSet) : Nat :=
  let d := Config.sha384 f.signed
  if !Config.edVerify f.edkey d f.edsig || !Config.mlVerify f.mlkey d f.mlsig then 2
  else if Config.sha384 f.edkey != Config.edRootHash || Config.sha384 f.mlkey != Config.mlRootHash then 3
  else if f.secver < Config.secFloor then 4
  else 0

/-- The first step of R387 that a slot's set fails, or 0; 1 where it does not hold the eight images. -/
def FwSet.check (f : FwSet) : Nat :=
  if f.images.map FwImage.id ≠ List.range 8 then 1
  else if f.checkKeys ≠ 0 then f.checkKeys
  else if f.images.any (fun i => Config.sha384 i.bytes != i.digest) then 5
  else 0

/-- An image entry of a manifest at an offset of a bundle (Table 13.5): its ID, version, digest, and its bytes where the bundle
carries them. -/
def parseImage (b : List Byte) (off : Nat) : Nat × Nat × List Byte × Option (List Byte) :=
  let at_ := fieldAt b (off + 8) 4
  let n := fieldAt b (off + 12) 4
  (fieldAt b off 1, fieldAt b (off + 4) 4, (b.drop (off + 16)).take 48, if at_ + n ≤ b.length then some ((b.drop at_).take n) else none)

/-- The set of a bundle over the running one (R392): its manifest, the images that it carries, and the rest from the running slot; with
the IDs that it carries. None where the manifest is malformed. -/
def parseBundle (b : List Byte) (old : FwSet) : Option (FwSet × List Nat) :=
  let f := fieldAt b
  let n := f 6 1
  let nt := f 16 2
  let tup := 32 + 64 * n
  let ed := tup + 36 * nt
  let es := ed + 1984
  let entries := (List.range n).map (fun i => parseImage b (32 + 64 * i))
  let ids := entries.map Prod.fst
  if f 4 2 ≠ 1 ∨ n = 0 ∨ 8 < n ∨ nt = 0 ∨ 1024 < nt ∨ f 0 4 ≠ es + 3373 ∨ b.length < es + 3373 ∨ !ids.all (fun i => decide (i < 8)) ∨
      ids.dedup.length ≠ n then none
  else
    let image (i : Nat) : FwImage :=
      match entries.find? (fun e => e.1 == i) with
      | some e => { id := i, version := e.2.1, digest := e.2.2.1, bytes := e.2.2.2.getD (old.image i).bytes }
      | none => old.image i
    let tuple (i : Nat) : Nat × List Nat := (f (tup + 36 * i) 1, (List.range 8).map (fun j => f (tup + 36 * i + 4 + 4 * j) 4))
    some ({
      signed := b.take es
      edkey := (b.drop ed).take 32
      mlkey := (b.drop (ed + 32)).take 1952
      edsig := (b.drop es).take 64
      mlsig := (b.drop (es + 64)).take 3309
      determ := f 7 1
      setver := f 8 4
      secver := f 12 4
      passmc := f 18 1
      fabric := f 19 1
      images := (List.range 8).map image
      tuples := (List.range nt).map tuple }, (entries.filter (fun e => e.2.2.2.isSome)).map Prod.fst)

/-! ## Update commands (2900:06) -/

def oUpdAddr : Nat := objKey 0x2900 4
def oUpdSize : Nat := objKey 0x2900 5
def oUpdCmd : Nat := objKey 0x2900 6

/-- Does a range lie wholly in allocated pages of one context? -/
def State.oneContext (s : State) (a n : Nat) : Bool :=
  match s.pageAt a with
  | some p => s.blocksAll a n (fun g => g.ctx == p.ctx)
  | none => n == 0

/-- The other slot emptied. -/
def State.emptySlot (s : State) : State := s.setFwSlot s.otherSlot {}

/-- R392: stage. Off-loaded pages of the bundle begin to return. -/
def State.stageBundle (s : State) : Wr :=
  let a := s.obj oUpdAddr
  let n := s.obj oUpdSize
  if ¬ (s.obj oUpdState = 0 ∨ s.obj oUpdState = 4) ∨ !s.running ∨ !s.oneContext a n then (s, dState)
  else if n = 0 then (s, dOk)
  else
    let s1 := { s with dev := { s.dev with staging := some (a, n) } }.setObj oUpdState 1
    (s1.forAll (s1.awayIn a n) State.startReturn, dOk)

/-- R393. -/
def State.activateAtReset (s : State) : Wr :=
  if s.obj oUpdState ≠ 2 then (s, dState)
  else
    let k := s.otherSlot
    let s1 := s.markSlot k 2
    (s1.setActive k, dOk)

/-- The versions of the intermediate sets of R395: roles C3, then C2, C1 and C0 new. -/
def intermediates (old new_ : FwSet) : List (List Nat) :=
  [[3], [3, 2], [3, 2, 1], [3, 2, 1, 0]].map (fun h => (List.range 8).map (fun i => if h.elem i then new_.version i else old.version i))

/-- R394, R395: a live activation begins with C3. -/
def State.activateLive (s : State) : Wr :=
  let f := (s.fwSlot s.otherSlot).set
  if s.obj oUpdState ≠ 2 ∨ s.devState ≠ stReady ∨ !s.dev.changes.isEmpty ∨
      (List.range 64).any (fun l => s.obj (oLink l 1) == 5) ∨ s.bench.isNone ∨ f.determ ≠ s.dev.running.determ ∨ s.dev.safe ∨
      !(intermediates s.dev.running f).all f.lists then (s, dState)
  else (((s.setObj oUpdState 3).setAct {}).beginService chgLive, dOk)

/-- R400: abandon, by the update state. -/
def State.abandonUpdate (s : State) : State :=
  match s.obj oUpdState with
  | 1 => { s.emptySlot with dev := { s.dev with staging := none } }.setObj oUpdState 0
  | 2 => (s.emptySlot.setActive s.dev.slot).setObj oUpdState 0
  | 3 => s.abandonAct 1
  | _ => s.setObj oUpdState 0

/-- A write of 2900:06. -/
def State.wrUpdate (s : State) (v : Nat) : Wr :=
  match v with
  | 1 => s.stageBundle
  | 2 => s.activateLive
  | 3 => s.activateAtReset
  | _ => (s.abandonUpdate, dOk)

/-- R392, 2900:06 = 1. -/
def execStage (sess : Nat) (s : State) : Out := writeNum sess oUpdCmd 1 (fun s => s.wrUpdate 1) s
/-- R393, 2900:06 = 3. -/
def execActivateAtReset (sess : Nat) (s : State) : Out := writeNum sess oUpdCmd 3 (fun s => s.wrUpdate 3) s
/-- R394, 2900:06 = 2. -/
def execActivateLive (sess : Nat) (s : State) : Out := writeNum sess oUpdCmd 2 (fun s => s.wrUpdate 2) s
/-- R400, 2900:06 = 4. -/
def execAbandon (sess : Nat) (s : State) : Out := writeNum sess oUpdCmd 4 (fun s => s.wrUpdate 4) s

/-- Event 0x2903: an untested set in a slot. -/
def State.untested (s : State) (k : Nat) (f : FwSet) : State :=
  s.event 0x2903 (srcRole 0) ([(1, k), (1, stepping)] ++ f.versions.map (fun v => (4, v)))

/-- Staging ends in a failure at a step (R392). -/
def State.stageFailed (s : State) (step : Nat) : State :=
  (({ s.emptySlot with dev := { s.dev with staging := none } }.setObj oUpdState 4).event 0x2909 (srcRole 0) [(1, step)])

/-- R392, steps 1 to 6: the bundle is verified, completed from the running slot, written and read back. -/
def State.finishStaging (s : State) (a n : Nat) (flashOk : Bool) : State :=
  if poisonedIn s.poison a n then s.stageFailed 1
  else
    match parseBundle (s.readMem a n) s.dev.running with
    | none => s.stageFailed 1
    | some (f, carried) =>
      if f.checkKeys ≠ 0 ∨ f.images.any (fun i => carried.elem i.id && Config.sha384 i.bytes != i.digest) then s.stageFailed 1
      else if !f.tested then (s.untested s.otherSlot f).stageFailed 3
      else if !flashOk then s.stageFailed 4
      else if f.check ≠ 0 then s.stageFailed 5
      else
        let k := s.otherSlot
        let s1 := { s with dev := { s.dev with staging := none } }.setFwSlot k { state := 1, set := f }
        (s1.setObj oUpdState 2).event 0x2901 (srcRole 0) [(1, k), (4, f.setver)]

/-- R392: staging's work is done, in a flash that took it or did not; the bundle's off-loaded pages must be back. -/
def execStagingDone (flashOk : Bool) (s : State) : Out :=
  commit s (fun s =>
    match s.dev.staging with
    | none => s
    | some (a, n) =>
      if (s.awayIn a n).isEmpty then s.finishStaging a n flashOk else s.forAll (s.awayIn a n) State.startReturn)

/-! ## Core quarantine (R404, R405) -/

/-- The number of a core's quarantine among the changes. -/
def chgCore (c : Nat) : Nat := 0x4000 + c

/-- Cores of a core's cluster that stay in service without it. -/
def State.othersUp (s : State) (c : Nat) : Nat :=
  ((List.range 12).filter (fun i => clusterOf c * 12 + i != c && s.coreUp (clusterOf c * 12 + i))).length

/-- A sequence stopped because its core leaves (R226, R404): an update sequence's chunk will be updated again. -/
def State.stopSeq (s : State) (slot : Nat) : State :=
  match s.slot slot with
  | none => s
  | some x =>
    let s1 := (s.freeThreads x.live).endSeq slot 0x0403 0
    if x.kind = 3 then
      { s1 with upd := { s1.upd with bufs := s1.upd.bufs.map (fun (e : Nat × List BufChunk) =>
        (e.1, e.2.map (fun b => if b.running ∧ b.slot = slot then { b with running := false } else b))) } }
    else s1

/-- R404, steps 3 to 5. -/
def State.quarantine (s : State) (c : Nat) : State :=
  let slots := (s.sched.slots.filter (fun e => e.2.any (fun (q : Seq) => q.live.any (fun p => p.1 == c)))).map Prod.fst
  let s1 := s.forAll slots State.stopSeq
  let s2 := s1.modCore c (fun k => { k with sp := [], spPoison := [], nc := [], ic := [], tlb := [] })
  let s3 := { s2 with dev := { s2.dev with quar := s2.dev.quar.filter (fun x => x != c) } }
  ((s3.setObj (oCore c 1) 1).event 0x2530 (srcCore c) [(1, c), (4, slots.length)]).endService (chgCore c)

/-- Has a core no thread left? -/
def Core.noThreads (k : Core) : Bool := k.threads.all (fun e => e.2.st == .free)

/-- R404, R405: a write of 3000+c:02. -/
def State.wrQuarantine (c : Nat) (s : State) (v : Nat) : Wr :=
  let st := s.obj (oCore c 1)
  if v = 1 then
    if st = 2 ∨ s.othersUp c < 2 ∨ s.dev.act.isSome then (s, dState)
    else if st = 1 ∨ s.dev.quar.elem c then (s, dOk)
    else
      let s1 := { s with dev := { s.dev with quar := s.dev.quar ++ [c] } }.setObj (oCore c 2) 1
      let s2 := s1.beginService (chgCore c)
      (if (s2.core c).noThreads then s2.quarantine c else s2, dOk)
  else if st = 1 then
    ({ s with dev := { s.dev with testing := if s.dev.testing.elem c then s.dev.testing else s.dev.testing ++ [c] } }, dOk)
  else if st = 2 ∨ s.dev.quar.elem c then (s, dState)
  else (s, dOk)

/-- R404, a write of 1. -/
def execQuarantineRequest (sess : Nat) (c : CoreId) (s : State) : Out := writeNum sess (oCore c 2) 1 (fun s => s.wrQuarantine c 1) s

/-- R404: the wait ends: the core's threads have ended, or 1 s has passed. -/
def execQuarantineWaitExpire (c : CoreId) (s : State) : Out :=
  commit s (fun s => if s.dev.quar.elem c.val then s.quarantine c else s)

/-- R405, a write of 0. -/
def execQuarantineRelease (sess : Nat) (c : CoreId) (s : State) : Out := writeNum sess (oCore c 2) 0 (fun s => s.wrQuarantine c 0) s

/-- R405: the self-test ends: the core is in service again, or failed with the first unit that did. -/
def execCoreSelfTestDone (c : CoreId) (failed : Option Nat) (s : State) : Out :=
  commit s (fun s =>
    if !s.dev.testing.elem c.val then s
    else
      let s1 := { s with dev := { s.dev with testing := s.dev.testing.filter (fun x => x != c.val) } }
      match failed with
      | none => ((s1.setObj (oCore c 1) 0).setObj (oCore c 2) 0).event 0x2531 (srcCore c) [(1, c)]
      | some u => (s1.setObj (oCore c 1) 2).event 0x2532 (srcCore c) [(1, c), (1, u)])

end Sys2Proof.Machine
end

