-- ==== Sys2Proof/Machine/Power.lean ====
section
/-! DEFINITION. Power and its ceiling (R409–R422), sensors, the estimator and throttling (R423–R433), the whistle and the orderly stop
(R434–R436, R466). Temperatures are in 2⁻²⁰ °C, powers in µW, the allowance in nJ. -/

namespace Sys2Proof.Machine

def State.setPower (s : State) (p : Power) : State := { s with power := p }

/-- A fixed-point temperature as an F32 code. -/
def tempF32 (t : Int) : Nat := (toF32 ((Num.ofInt t).scale (-20))).toNat

/-- An F32 setting in 2⁻²⁰ °C, rounded down; every value in range of Table 14.9 is exact. -/
def fixOf (v : Nat) : Int :=
  match f32 (BitVec.ofNat 32 v) with
  | .fin n m e => if 0 ≤ e + 20 then signedInt n (m * 2 ^ (e + 20).toNat) else signedInt n m / 2 ^ (-(e + 20)).toNat
  | _ => 0

/-- A temperature in whole degrees. -/
def degrees (n : Int) : Int := n * 2 ^ 20

/-! ## Voltage (R412, R413, R417, Table 14.4) -/

/-- The largest VCORE requested at a highest cluster frequency, in mV. -/
def vcoreBound (f : Nat) : Nat :=
  if 1600 < f then 850 else if 1400 < f then 800 else if 1200 < f then 750 else if 1000 < f then 700 else if 800 < f then 650 else 600

/-- The VCORE requested for a highest cluster frequency. -/
def State.vcoreFor (s : State) (f : Nat) : Nat := if s.dev.safe then 800 else max 600 (min (Config.vcoreCurve f) (vcoreBound f))

/-- The highest frequency whose bound does not exceed a voltage, and no less than 600 MHz. -/
def capFor (mv : Nat) : Nat := ([1800, 1600, 1400, 1200, 1000, 800].find? (fun f => decide (vcoreBound f ≤ mv))).getD 600

/-- The last confirmed voltage of an AVSBus rail; at first the boot voltage and the nominal one (Table 14.1, Table 14.2). -/
def State.confirmed (s : State) (rail : Nat) : Nat := Tab.get s.power.avsMv (if rail = 0 then 800 else 750) rail

/-- The frequency of a cluster (R422), under the cap of R413. -/
def State.clusterTarget (s : State) (k : Nat) : Nat :=
  let f := min s.power.fpw (min (Tab.get s.power.fth 1800 k) 1800)
  let f1 := if s.dev.safe then min f 900 else f
  [0, 1].foldl (fun f r => if Tab.get s.power.avsLost false r then min f (capFor (s.confirmed r)) else f) f1

def State.clockOf (s : State) (k : Nat) : Nat := Tab.get s.power.clock 1800 k

/-- The highest of a value over the clusters. -/
def topCluster (f : Nat → Nat) : Nat := (List.range 8).foldl (fun m k => max m (f k)) 0

/-- A failed AVSBus transaction; after three in a row event 0x2002 and the cap (R413). -/
def State.avsFail (s : State) (rail : Nat) : State :=
  let n := Tab.get s.power.avsFails 0 rail + 1
  let s1 := s.setPower { s.power with avsFails := Tab.set s.power.avsFails 0 rail n }
  if n = 3 then
    (s1.setPower { s1.power with avsLost := Tab.set s1.power.avsLost false rail true }).event 0x2002 srcPower [(1, rail), (2, s.confirmed rail)]
  else s1

/-- A successful transaction, with the voltage read back. -/
def State.avsRead (s : State) (rail mv : Nat) : State :=
  let p := s.power
  s.setPower { p with
    avsFails := Tab.set p.avsFails 0 rail 0
    avsLost := Tab.set p.avsLost false rail false
    avsMv := Tab.set p.avsMv (if rail = 0 then 800 else 750) rail mv
    raising := if rail = 0 ∧ p.request ≤ mv + 10 ∧ mv ≤ p.request + 10 then false else p.raising }

/-- The VCORE request follows the frequencies in use and those decided: up at once, down once they are lower (R412, R417). -/
def State.requestVcore (s : State) : State :=
  let v := max (s.vcoreFor (topCluster s.clusterTarget)) (s.vcoreFor (topCluster s.clockOf))
  if v = s.power.request then s
  else s.setPower { s.power with request := v, raising := decide (s.power.request < v) }

/-- R412: a raise is not confirmed within 1 ms. -/
def execAvsbusRaiseTimeout (rail : Fin 2) (s : State) : Out :=
  commit s (fun s => if rail = 0 ∧ s.power.raising then s.avsFail 0 else s)

/-! ## The power loop (R418–R420) -/

def oLs : Nat := objKey 0x2000 2
def oLp : Nat := objKey 0x2000 3
def oPeak : Nat := objKey 0x2000 4

/-- The effective sustained limit, in W. -/
def State.sustained (s : State) : Nat := if s.dev.safe then min (s.obj oLs) 1000 else s.obj oLs

/-- A_max in nJ. -/
def State.allowMax (s : State) : Int := ((s.obj oLp : Int) - s.sustained) * s.obj oPeak * 1000000

/-- Do the control loops run? C3 must, and no trip. -/
def State.loopsRun (s : State) : Bool := decide (0x30 ≤ s.dev.phase) && !s.power.tripped

/-- The package power of the rails' rows. -/
def State.packagePower (s : State) : Nat := s.power.rails.foldl (fun n e => n + e.2.1 * e.2.2) 0

/-- The next power ceiling (R419): P, L_s, L_p in µW, the allowance after its update, n and current_over; the allowance goes with it. -/
def powerStep (f : Nat) (p ls lp a : Int) (n peak : Nat) (amps : Bool) : Nat × Int :=
  let isOver := decide (lp < p) || decide (a < 0) || decide (peak ≤ n) || amps
  let a1 := if isOver then max a 0 else a
  let g : Int :=
    if isOver then
      let target := if a1 = 0 ∨ peak ≤ n then ls else lp
      (f : Int) - max 100 (-(-((f : Int) * (p - target)) / (50 * p)) * 50)
    else if 100 * p ≤ 97 * ls then (f : Int) + 50
    else f
  ((min (max g 600) 1800).toNat, a1)

/-- The voltage of a rail's row: measured, or the nominal one of a rail that the board fixes (R409, Table 14.1); that of the HBM rails is
JEDEC's, and the reading gives it. -/
def railMv (r mv : Nat) : Nat :=
  match r with
  | 3 => 750
  | 4 => 1200
  | 5 => 1200
  | 6 => 1800
  | _ => mv

/-- R411, R418, R419: the readings of this iteration by rail code, (mV, mA), and the AVSBus transactions that failed. -/
def State.powerLoop (s : State) (rails : List (Nat × Nat)) (avsFail : List Nat) : State :=
  let failed (r : Nat) : Bool := avsFail.elem r
  let s1 := s.forAll (avsFail.filter (fun r => decide (r < 2))) State.avsFail
  let s2 := s1.forAll ((List.range 2).filter (fun r => !failed r && decide (r < rails.length))) (fun s r =>
    s.avsRead r (rails.getD r (0, 0)).1)
  let rows := (List.range (min 7 rails.length)).foldl (fun t r =>
    if r < 2 ∧ failed r ∧ !Tab.get s2.power.avsLost false r then t
    else Tab.set t (0, 0) r (railMv r (rails.getD r (0, 0)).1, (rails.getD r (0, 0)).2)) s2.power.rails
  let s3 := s2.setPower { s2.power with rails := rows }
  let p := s3.packagePower
  let amps := if failed 0 then 0 else (rails.getD 0 (0, 0)).2
  let ls : Int := s3.sustained * 1000000
  let a := min s3.allowMax (s3.power.allow.getD s3.allowMax + (ls - p))
  let n := if ls < p then s3.power.overRun + 1 else 0
  let m := if 2000000 < amps then s3.power.amps + 1 else 0
  let st := powerStep s3.power.fpw p ls (s3.obj oLp * 1000000) a n (s3.obj oPeak) (decide (2600000 < amps) || decide (5 ≤ m))
  let e := s3.power.frac + p
  let capped := (List.range 8).any (fun k => decide (st.1 < Tab.get s3.power.fth 1800 k))
  let s4 := s3.setPower { s3.power with
    allow := some st.2, frac := e % 1000000, overRun := n, amps := m, fpw := st.1, capping := capped }
  let s5 := (((s4.setObj (objKey 0x2000 1) (p / 1000000)).setObj (objKey 0x2000 5) (Tab.get rows (0, 0) 0).1).setObj (objKey 0x2000 6)
    ((Tab.get rows (0, 0) 0).2 / 1000)).bump (objKey 0x2000 9) (e / 1000000)
  let s6 := s5.when capped (fun s => s.bump (objKey 0x2000 8) 1)
  let s7 := s6.when (capped && !s.power.capping) (fun s => s.event 0x2001 srcPower
    [(4, (toF32 (Num.div (Num.ofInt p) (Num.ofInt 1000000))).toNat), (4, st.2.toNat / 1000000), (2, st.1)])
  s7.requestVcore

/-- R419. -/
def execPowerLoopIteration (rails : List (Nat × Nat)) (avsFail : List Nat) (s : State) : Out :=
  commit s (fun s => if s.loopsRun then s.powerLoop rails avsFail else s)

/-- R416, R422: a cluster takes the frequency decided; a higher one waits for its voltage (R412). -/
def execClusterClockChange (k : ClusterId) (s : State) : Out :=
  commit s (fun s =>
    let f := s.clusterTarget k
    if !s.loopsRun ∨ s.devState = stStopped ∨ s.clockOf k < f ∧ (s.power.raising ∨ s.power.request < s.vcoreFor f) then s
    else s.setPower { s.power with clock := Tab.set s.power.clock 1800 k f })

/-! ## The fast current limiter (R414, R421) -/

/-- The limiter engages. -/
def State.engage (s : State) (amps : Nat) : State :=
  if s.power.limiter then s
  else (s.setPower { s.power with limiter := true }).event 0x2004 srcPower [(4, (toF32 (Num.ofInt amps)).toNat)]

/-- R414: VR_ALERT_N falls. -/
def execVrAlertAssert (mv amps : Nat) (s : State) : Out :=
  commit s (fun s =>
    if s.power.vrAlert then s
    else ((s.setPower { s.power with vrAlert := true }).event 0x2003 srcPower [(2, mv), (4, (toF32 (Num.ofInt amps)).toNat)]).engage
      s.power.estimate)

/-- R421: the estimate of a microsecond, in A. -/
def execCurrentLimiterSample (amps : Nat) (s : State) : Out :=
  commit s (fun s =>
    let s1 := s.setPower { s.power with estimate := amps }
    if 2600 < amps then s1.engage amps else s1)

/-- R421: 50 µs have passed since the estimate fell below 2,400 A and VR_ALERT_N went high. -/
def execCurrentLimiterRelease (s : State) : Out :=
  commit s (fun s => if s.power.limiter ∧ s.power.estimate < 2400 then s.setPower { s.power with limiter := false, vrAlert := false } else s)

/-! ## Sensors (R423, R424, R433) -/

/-- A sensor's number: die × 256 + number of Table 14.5. -/
def isSensor (k : Nat) : Bool := decide (k ≤ 208) || (decide (256 ≤ k) && decide (k < 1280) && decide (k % 256 < 104))
def diode : Nat := 208

/-- A sensor's calibrated reading (R423). -/
def State.reading (s : State) (k : Nat) : Int := Tab.get s.power.readings 0 k + Tab.get s.power.offsets 0 k
def State.isBroken (s : State) (k : Nat) : Bool := Tab.get s.power.sensorState 0 k == 1
/-- A sensor that has been read and is neither broken nor suspect. -/
def State.trusted (s : State) (k : Nat) : Bool := Tab.get s.power.sensorState 0 k == 0 && Tab.get s.power.same 0 k != 0

/-- R424: a sensor is broken: 1 out of range, 2 unchanged, 3 no count. -/
def State.breakSensor (s : State) (k reason : Nat) : State :=
  let p := s.power
  (s.setPower { p with sensorState := Tab.set p.sensorState 0 k 1, suspects := p.suspects ++ [(k / 256, k % 256, 1)] }).event 0x2103 srcPower
    [(1, k / 256), (1, k % 256), (1, reason)]

/-- A raw reading taken, with the checks of R424. -/
def State.sample (s : State) (k : Nat) (raw : Option Int) : State :=
  if !isSensor k ∨ s.isBroken k then s
  else
    match raw with
    | none => s.breakSensor k 3
    | some r =>
      let p := s.power
      let n := if Tab.get p.same 0 k ≠ 0 ∧ Tab.get p.readings 0 k = r then Tab.get p.same 0 k + 1 else 1
      let s1 := s.setPower { p with readings := Tab.set p.readings 0 k r, same := Tab.set p.same 0 k n }
      let t := s1.reading k
      if t < degrees (-20) ∨ degrees 150 < t then s1.breakSensor k 1
      else if 3 ≤ n ∧ k ≠ diode then s1.breakSensor k 2
      else s1

/-- R433: the hard trip. -/
def State.trip (s : State) (k : Nat) : State :=
  ((s.setPower { s.power with tripped := true, request := 600, raising := false }).emit (.pin "THERMTRIP_N" false)).event 0x2107 srcPower
    [(1, k % 256), (4, tempF32 (s.reading k))]

/-- R433: a sample against the hard trip limit; the second in a row at the limit trips. -/
def State.checkTrip (s : State) (k : Nat) : State :=
  let armed := if k = diode then s.power.diodeArmed else s.power.tripArmed && decide (k < 256)
  if !armed ∨ s.power.tripped then s
  else if s.reading k < degrees 118 then s.setPower { s.power with tripOnce := Tab.set s.power.tripOnce false k false }
  else if Tab.get s.power.tripOnce false k then s.trip k
  else s.setPower { s.power with tripOnce := Tab.set s.power.tripOnce false k true }

/-- R424, R433: a sensor's sample. -/
def execSensorSample (sensor : Nat) (reading : Option Int) (s : State) : Out :=
  commit s (fun s =>
    if s.isBroken sensor ∨ !isSensor sensor then s
    else
      let s1 := s.sample sensor reading
      if reading.isSome then s1.checkTrip sensor else s1)

/-! ## The estimator (R426–R428) -/

/-- A tier-column's sensor, and the key of its value used. -/
def tierSensor (t c : Nat) : Nat := (t + 1) * 256 + c
def usedKey (t c : Nat) : Nat := t * 96 + c

/-- V(c, t) as the previous iteration left it. -/
def State.valueUsed (s : State) (t c : Nat) : Int := Tab.get s.power.used 0 (usedKey t c)

/-- E(c, t) of R426; the power in mW by the same key. -/
def State.estimate (s : State) (power : List (Nat × Int)) (t c : Nat) : Int :=
  (s.valueUsed (t - 1) c + s.valueUsed (t + 1) c) / 2 + Config.gain t * Tab.get power 0 (usedKey t c)

/-- Suspect sensors of a tier's columns. -/
def State.suspectsOf (s : State) (t : Nat) : Nat :=
  ((List.range 96).filter (fun c => Tab.get s.power.sensorState 0 (tierSensor t c) == 2)).length

/-- R427 for one sensor of T1 or T2. -/
def State.dwellOne (s : State) (power : List (Nat × Int)) (t c : Nat) : State :=
  let k := tierSensor t c
  if !s.trusted k then s
  else
    let e := s.estimate power t c
    let p := s.power
    let n := if fixOf (s.obj (objKey 0x2100 8)) < e - s.reading k then Tab.get p.dwell 0 k + 1 else 0
    let s1 := s.setPower { p with dwell := Tab.set p.dwell 0 k n }
    if n - 1 ≤ s.obj (objKey 0x2100 9) then s1
    else
      (s1.setPower { s1.power with sensorState := Tab.set p.sensorState 0 k 2, suspects := p.suspects ++ [(t + 1, c, 2)] }).event 0x2104
        (srcTier t) [(1, t), (1, c), (4, tempF32 e), (4, tempF32 (s.reading k))]

/-- R427: with 8 suspects every sensor of the tier is. -/
def State.tierSuspect (s : State) (t : Nat) : State :=
  let n := s.suspectsOf t
  if n < 8 ∨ s.power.suspects.any (fun r => r == (t + 1, 0xFF, 3)) then s
  else
    let p := s.power
    let all := (List.range 104).foldl (fun st c => if s.isBroken (tierSensor t c) then st else Tab.set st 0 (tierSensor t c) 2) p.sensorState
    (s.setPower { p with sensorState := all, suspects := p.suspects ++ [(t + 1, 0xFF, 3)] }).event 0x2105 (srcTier t) [(1, t), (4, n)]

/-- R428: the value for a column of T0 or T3 without a trusted sensor: the higher of its nearest trusted neighbours on either side. -/
def State.neighbours (s : State) (t c : Nat) : Int :=
  let left := ((List.range c).reverse.find? (fun i => s.trusted (tierSensor t i))).map (fun i => s.reading (tierSensor t i))
  let right := ((List.range (95 - c)).find? (fun i => s.trusted (tierSensor t (c + 1 + i)))).map (fun i => s.reading (tierSensor t (c + 1 + i)))
  match left, right with
  | some a, some b => max a b
  | some a, none => a
  | none, some b => b
  | none, none => s.valueUsed t c

/-- The values used of this iteration (R428). -/
def State.newUsed (s : State) (power : List (Nat × Int)) : Tab Int :=
  (List.range 4).foldl (fun u t => (List.range 96).foldl (fun u c =>
    Tab.set u 0 (usedKey t c)
      (if s.trusted (tierSensor t c) then s.reading (tierSensor t c)
       else if t = 1 ∨ t = 2 then s.estimate power t c
       else s.neighbours t c)) u) s.power.used

/-- Compute-die ring oscillators that are broken or suspect. -/
def State.brokenOnDie (s : State) : Nat := ((List.range 208).filter (fun k => Tab.get s.power.sensorState 0 k != 0)).length

/-- Does the diode serve for the compute die (R425)? -/
def State.diodeServing (s : State) : Bool := !s.running || decide (104 < s.brokenOnDie)

/-- The trusted compute-die readings among some ring oscillators, or the diode's in their place. -/
def State.dieReadings (s : State) (ks : List Nat) : List (Nat × Int) :=
  if s.diodeServing then (if s.trusted diode then ks.map (fun k => (k, s.reading diode)) else [])
  else (ks.filter s.trusted).map (fun k => (k, s.reading k))

/-! ## Throttling (R430–R432) -/

/-- The values of a cluster as (die, column, value, its throttle limit): its cores' and the uncore's oscillators, the values used above
its cores. -/
def State.clusterValues (s : State) (k : Nat) : List (Nat × Nat × Int × Int) :=
  let lc := fixOf (s.obj (objKey 0x2100 3))
  let lt := fixOf (s.obj (objKey 0x2100 5))
  ((s.dieReadings ((List.range 24).map (fun i => 24 * k + i))).map (fun e => (0, e.1 / 2, e.2, lc))) ++
  ((s.dieReadings ((List.range 16).map (fun i => 192 + i))).map (fun e => (0, e.1, e.2, lc))) ++
  (List.range 4).flatMap (fun t => (List.range 12).map (fun i => (t + 1, 12 * k + i, s.valueUsed t (12 * k + i), lt)))

/-- R430 for one cluster. -/
def State.throttle (s : State) (k : Nat) : State :=
  let vs := s.clusterValues k
  let f := Tab.get s.power.fth 1800 k
  let set (s : State) (f : Nat) (hot : Bool) : State :=
    s.setPower { s.power with fth := Tab.set s.power.fth 1800 k f, hot := Tab.set s.power.hot false k hot }
  match vs.find? (fun v => decide (v.2.2.2 ≤ v.2.2.1)) with
  | some v =>
    (set s (max 600 (f - 100)) true).when (f == 1800) (fun s => s.event 0x2101 (srcCluster k) [(1, k), (1, v.1), (1, v.2.1), (4, tempF32 v.2.2.1)])
  | none =>
    if vs.all (fun v => decide (v.2.2.1 + degrees 2 ≤ v.2.2.2)) then
      let g := min 1800 (f + 50)
      (set s g false).when (g == 1800 && f != 1800) (fun s => s.event 0x2102 (srcCluster k) [(1, k)])
    else set s f false

/-- Is any cluster hot? -/
def State.anyHot (s : State) : Bool := (List.range 8).any (fun k => Tab.get s.power.hot false k)

/-- The highest of some readings, with where it is. -/
def hottest (l : List (Nat × Nat × Int)) : Option (Nat × Nat × Int) :=
  l.foldl (fun (m : Option (Nat × Nat × Int)) v => match m with
    | some w => if w.2.2 < v.2.2 then some v else m
    | none => some v) none

/-- R432: the thermal whistle, once for a stop. -/
def State.thermalStop (s : State) (v : Nat × Nat × Int) : State :=
  if s.devState = stFault ∨ s.devState = stStopped ∨ s.dev.stop.any (fun x => x.cause == 3) ∨ s.dev.pendingWhistle = 3 then s
  else
    let s1 := s.setPower { s.power with fth := (List.range 8).foldl (fun t k => Tab.set t 1800 k 600) s.power.fth }
    (s1.event 0x2106 srcPower [(1, v.1), (1, v.2.1), (4, tempF32 v.2.2)]).whistle 3

/-- R426–R432: one iteration: raw readings by sensor, and P(c, t) in mW by tier × 96 + column. -/
def State.thermalLoop (s : State) (readings : List (Nat × Option Int)) (power : List (Nat × Int)) : State :=
  let s1 := s.forAll readings (fun s e => s.sample e.1 e.2)
  let s2 := s1.forAll [1, 2] (fun s t => (s.forAll (List.range 96) (fun s c => s.dwellOne power t c)).tierSuspect t)
  let s3 := s2.setPower { s2.power with used := s2.newUsed power }
  let n := s3.brokenOnDie
  let serves := s3.running && decide (104 < n)
  let s4 := (s3.setPower { s3.power with diodeServes := serves }).when (serves && !s.power.diodeServes) (fun s =>
    s.event 0x2108 srcPower [(4, n)])
  let top := hottest ((s4.dieReadings (List.range 208)).map (fun e => (0, if e.1 < 192 then e.1 / 2 else e.1, e.2)))
  let s5 := match top with
    | some v => s4.setObj (objKey 0x2100 1) (tempF32 v.2.2)
    | none => s4
  let s6 := s5.forAll (List.range 8) State.throttle
  let s7 := s6.when (s6.anyHot != s.anyHot) (fun s => s.emit (.pin "SIG3" (!s6.anyHot)))
  let s8 := s7.when ((List.range 8).any (fun k => Tab.get s7.power.fth 1800 k != 1800)) (fun s => s.bump (objKey 0x2100 0x0C) 1)
  let used := hottest ((List.range 4).flatMap (fun t => (List.range 96).map (fun c => (t + 1, c, s8.valueUsed t c))))
  let die := top.filter (fun v => decide (fixOf (s8.obj (objKey 0x2100 4)) ≤ v.2.2))
  let tier := used.filter (fun v => decide (fixOf (s8.obj (objKey 0x2100 6)) ≤ v.2.2))
  let s9 := match die.or tier with
    | some v => s8.thermalStop v
    | none => s8
  s9.requestVcore

/-- R430. -/
def execThermalLoopIteration (readings : List (Nat × Option Int)) (power : List (Nat × Int)) (s : State) : Out :=
  commit s (fun s => if s.loopsRun then s.thermalLoop readings power else s)

/-! ## The whistle and the orderly stop -/

/-- R434: a whistle write is rejected in FAULT. -/
def State.wrWhistle (s : State) (_v : Nat) : Wr := if s.devState = stFault then (s, dState) else (s.whistle 1, dOk)

/-- R434: a write of 1 to 1001:02 or to its alias 5007:00. -/
def execWhistle (sess : Nat) (n40 : Bool) (v : Nat) (s : State) : Out :=
  writeNum sess (if n40 then objKey 0x5007 0 else objKey 0x1001 2) v (fun s => s.wrWhistle v) s

/-- R466: a sample of WHISTLE_N; the tenth low one in a row whistles. -/
def execWhistleNSample (level : Bool) (s : State) : Out :=
  commit s (fun s =>
    if !s.dev.resetN then s
    else if level then { s with dev := { s.dev with whistleLow := 0 } }
    else if 10 ≤ s.dev.whistleLow then s
    else
      let s1 := { s with dev := { s.dev with whistleLow := s.dev.whistleLow + 1 } }
      if s1.dev.whistleLow = 10 then s1.whistle 2 else s1)

/-- Step 4's end: every link's lanes to electrical idle. -/
def State.idleLinks (s : State) : State :=
  s.forAll (List.range 64) (fun s l => if s.obj (oLink l 1) = 0 then s else (((s.setObj (oLink l 1) 1).setObj (oLink l 2) 0).setObj (oLink l 3) 0).setObj (oLink l 4) 0)

/-- Step 5: STOPPED. -/
def State.stopped (s : State) (x : Stop) : State :=
  let s1 := { s.idleLinks with dev := { s.dev with stop := some { x with step := 5 } }, power := { s.power with request := 600, raising := false } }
  ((s1.setObj oPowerOff 1).setObj oState stStopped).event 0x2011 srcPower [(4, x.abandoned)]

/-- The step after one that ended. -/
def State.nextStop (s : State) (x : Stop) : State :=
  if 4 ≤ x.step then s.stopped x else { s with dev := { s.dev with stop := some { x with step := x.step + 1 } } }

/-- Has the step in progress done its work? -/
def State.stopDone (s : State) (step : Nat) : Bool :=
  match step with
  | 1 => s.sched.queues.all (fun e => e.2.state == 0)
  | 2 => !s.readyPending
  | 3 => s.book.toFlash.isEmpty
  | 4 => s.fabric.links.all (fun e => e.2.replay.isEmpty)
  | _ => false

/-- R435: a step of the stop finishes. -/
def execStopStepComplete (s : State) : Out :=
  commit s (fun s =>
    match s.dev.stop with
    | some x => if s.devState = stStopping ∧ s.stopDone x.step then s.nextStop x else s
    | none => s)

/-- The end of step 1's budget: what still runs is cancelled, every queue is off, and records that cannot be written are not. -/
def State.cutQueues (s : State) : State :=
  let s1 := s.forAll (s.sched.slots.map Prod.fst) (fun s n =>
    match s.slot n with
    | some q =>
      (match q.batch with
        | some b => ((s.freeThreads q.live).completeAll b.cmds 0x0403 0).endSeq n 0x0403 0
        | none => (s.freeThreads q.live).endSeq n 0x0403 0)
    | none => s)
  let s2 := s1.forAll s1.sched.waiting (fun s q => (s.completeAll q.cmds 0x0403 0).unbind q)
  { s2 with sched := { s2.sched with
    waiting := [], heldDone := [], queues := s2.sched.queues.map (fun (e : Nat × Queue) => (e.1, { e.2 with state := 0, descs := [] })) } }

/-- R435: a step's budget is over: the step is abandoned with event 0x2012, and the next runs. -/
def execStopStepBudgetExpire (s : State) : Out :=
  commit s (fun s =>
    match s.dev.stop with
    | some x =>
      if s.devState ≠ stStopping then s
      else
        let s1 := if x.step = 1 then s.cutQueues else s
        (s1.event 0x2012 srcPower [(1, x.step), (1, x.cause)]).nextStop { x with abandoned := x.abandoned + 1 }
    | none => s)

end Sys2Proof.Machine
end

