-- ==== Sys2Proof/Machine/Startup.lean ====
section
/-! DEFINITION. Reset, power-good and straps (R461–R464, R161, R203, R380), and the start-up phases (R379–R391, R155, R156, R162, R198–R203,
R237, R288, R423, R477). A phase's command is the phase being entered, and what it does. -/

namespace Sys2Proof.Machine

/-! ## Reset -/

/-- Was the deck in use, and HBM, since the last RESET? -/
def State.deckWasUp (s : State) : Bool := decide (0x30 ≤ s.dev.phase)
def State.hbmWasUp (s : State) : Bool := decide (0x40 ≤ s.dev.phase)

/-- Retention markers after a reset with the rails held (R380): of every tier in service, once the tiers were in use; earlier, those that
were still set. -/
def State.heldMarks (s : State) : Tab Bool :=
  if s.deckWasUp then (List.range 4).foldl (fun t k => Tab.set t false k (s.obj (oTier k 0x12) == 0)) [] else s.dev.tierMark

/-- The keeper's tables as HBM in self-refresh keeps them (R203). -/
def State.heldKeeper (s : State) : Keeper :=
  let k := s.keeper
  let up := s.hbmWasUp
  let noId := s.obj oDevId == 0xFFFF && s.obj (objKey 0x2500 0x0C) != 0
  { pages := k.pages.map (fun (e : Nat × Option Page) => (e.1, e.2.map (fun p => { p with mig := false })))
    host := k.host, hostCrc := k.hostCrc, pinned := k.pinned, demoted := k.demoted, lastEpoch := k.lastEpoch, dying := k.dying
    regions := k.regions.map Region.forget
    selfRefresh := true
    keptDevId := if up && !noId then s.obj oDevId else k.keptDevId
    keptStacks := if up then s.obj (objKey 0x2400 2) else k.keptStacks
    flipMarker := k.flipMarker, shadows := k.shadows, flipped := k.flipped }

/-- What only the flash, the pins and the trip keep (R20, R433, R464). -/
def State.coldReset (s : State) : State :=
  { fresh := s.fresh
    out := s.out
    flash := { s.flash with heldRetire := [], retireFailed := false }
    power := { diodeArmed := s.dev.pwrgd, tripped := s.power.tripped }
    host := { perst := s.host.perst }
    dev := { pwrgd := s.dev.pwrgd, resetN := s.dev.resetN } }

/-- The device enters RESET with its rails held (R463): what HBM and the tiers keep, they keep (R161, R203). -/
def State.heldReset (s0 : State) (torn : List Nat) : State :=
  let s := s0.loseRegions
  let c := s.coldReset
  let d := { c.dev with tierMark := s.heldMarks, torn := if s.deckWasUp then torn else s.dev.torn }
  if !s.hbmWasUp && !s.keeper.selfRefresh then { c with dev := d }
  else { c with
    dev := d
    keeper := s.heldKeeper
    mem := s.mem
    poison := s.poison
    shadow := s.shadow
    prev := s.prev
    shadowPoison := s.shadowPoison
    prevPoison := s.prevPoison
    cols := s.cols
    sched := { ctxs := s.sched.ctxs, tensors := s.sched.tensors }
    host := { c.host with pool := s.host.pool } }

/-- R463, R161: RESET_N falls; `x.torn` are the lines of abandoned bursts (twice the line number, plus 1 for a remote line). The SPI lands go
to high impedance; `x.cut`: a write of that record was under way and is abandoned (R464). -/
def execResetNAssert (x : ResetIn) (s : State) : Out :=
  commit s (fun s =>
    if !s.dev.resetN then s
    else
      let s1 := (s.cutWrites x.cut.boot x.cut.owner).heldReset x.torn
      { s1 with dev := { s1.dev with resetN := false } }.emit (.pin "SPI" false))

/-- R463: PWRGD falls: a reset that keeps nothing but the flash; THERMTRIP_N is released (R433). `cut`: it
comes during a write of that record (R386). -/
def execPowerGoodFall (cut : FlashCut) (s : State) : Out :=
  commit s (fun s =>
    if !s.dev.pwrgd then s
    else
      let s1 := (s.cutWrites cut.boot cut.owner).coldReset
      (({ s1 with dev := { s1.dev with pwrgd := false }, power := {} }.emit (.pin "SPI" false)).when s.power.tripped
        (fun s => s.emit (.pin "THERMTRIP_N" true))))

/-- R410, R433: PWRGD rises; the diode's trip comparator is armed. -/
def execPowerGoodRise (s : State) : Out :=
  commit s (fun s => { s with dev := { s.dev with pwrgd := true }, power := { s.power with diodeArmed := true } })

/-- R411, R461: RESET_N rises: the RESET phase requests the voltage of the starting frequency. -/
def execResetNRelease (s : State) : Out :=
  commit s (fun s =>
    if s.dev.resetN then s
    else { s with dev := { s.dev with resetN := true }, power := { s.power with request := s.vcoreFor 1800 } })

/-- R461: the straps are sampled, and held until RESET; SIG2 says whether the host link is used, which trains while PERST_N is high. -/
def execStrapSample (straps : BitVec 4) (s : State) : Out :=
  commit s (fun s =>
    if s.dev.pwrgd ∧ s.dev.resetN ∧ s.dev.straps.isNone then
      let unused := straps.toNat.testBit 2
      { s with
        dev := { s.dev with straps := some straps }
        host := { s.host with up := s.host.up && !unused, training := !unused && (s.host.training || (!s.host.up && !s.host.perst)) } }
    else s)

/-! ## Phases -/

/-- A phase entered after another has ended (R379); a whistle that waited is taken instead, but for one that came in RESET (R406). -/
def State.enterPhase (s : State) (prev next : Nat) (f : State → State) : State :=
  if s.devState ≠ prev ∨ s.power.tripped then s
  else if s.dev.pendingWhistle ≠ 0 ∧ prev ≠ stReset then s.pendWhistle
  else f ({ s with dev := { s.dev with phase := next } }.setObj oState next)

/-! ### ROM -/

/-- Ring oscillators by key. -/
def ringOscillators : List Nat := List.range 208 ++ [1, 2, 3, 4].flatMap (fun d => (List.range 104).map (fun i => d * 256 + i))

/-- R423: offsets so that every oscillator reads the diode's value; the fused ones when the diode fails. -/
def State.calibrate (s : State) (diode : Option Int) (raw : List (Nat × Int)) : State :=
  match diode with
  | some v =>
    let off (k : Nat) : Int := match raw.find? (fun e => e.1 == k) with
      | some e => v - e.2
      | none => Config.factoryOffset k
    s.setPower { s.power with
      offsets := ringOscillators.foldl (fun t k => Tab.set t 0 k (off k)) []
      used := (List.range 384).foldl (fun t k => Tab.set t 0 k v) [] }
  | none =>
    (s.setPower { s.power with offsets := ringOscillators.foldl (fun t k => Tab.set t 0 k (Config.factoryOffset k)) [] }).event 0x1006 srcRom
      [(4, 0)]

/-- R352: the address and PLCA settings of the board record, or those without one (the low five bytes of the serial number). -/
def State.loadBoard (s : State) : State :=
  match s.boardRec with
  | some b => (({ s with mgmt := { s.mgmt with mac := (b.drop 12).take 6 } }).setObj (objKey 0x1100 4) (fieldAt b 18 1)).setObj (objKey 0x1100 5)
      (fieldAt b 19 1)
  | none => (({ s with mgmt := { s.mgmt with mac := 0x02 :: serial.take 5 } }).setObj (objKey 0x1100 4) 0xFF).setObj (objKey 0x1100 5) 8

/-- What the flash gives the ROM: the boot record (R386), its boot count advanced, the owner record, the last sequence number, the lockout (R442), removals from the retirement list
(R197), the board record. -/
def State.readFlash (s : State) : State :=
  let f := ({ s.flash with owner := s.flash.ownerRec.2 } : Flash).loadBoot
  let s1 := { s with flash := ({ f with
    boot := f.boot + 1, retire := f.retire.filter (fun e => !f.removed.elem e.seq), removed := [] } : Flash).saveBoot }
  let s2 := s1.setObj oLastSeq (f.ring.foldl (fun m e => max m e.seq) 0)
  (if 5 ≤ f.owner.failures then s2.setLockout (lockoutFor f.owner.failures) else s2).loadBoard

/-- R379, R423, R442, R462: ROM is entered, once the straps are sampled: the flash is read, the oscillators are calibrated, SIG3 becomes an
output. -/
def execRom (diode : Option Int) (raw : List (Nat × Int)) (s : State) : Out :=
  commit s (fun s =>
    if s.dev.straps.isNone then s
    else s.enterPhase stReset stRom (fun s => ((s.readFlash).calibrate diode raw).emit (.pin "SIG3" true)))

/-! ### IMAGE_CHECK -/

/-- A slot tried by R389: whether it runs, and whether under the safe profile. -/
def State.trySlot (s : State) (k : Nat) : State × Option Bool :=
  let x := s.fwSlot k
  let c := x.set.check
  if x.state ≠ 2 ∧ x.state ≠ 3 then (s, none)
  else if c ≠ 0 then ((s.markSlot k 4).event 0x2902 srcRom [(1, k), (1, c)], none)
  else if !x.set.tuples.any (fun t => t.1 == stepping) then (s, some true)
  else if !x.set.tested then ((s.markSlot k 4).event 0x2903 srcRom ([(1, k), (1, stepping)] ++ x.set.versions.map (fun v => (4, v))), none)
  else (s, some false)

/-- A slot runs: its set is loaded into control memory and every pass engine; another slot than the active one is a fallback. -/
def State.runSlot (s : State) (k : Nat) (safe : Bool) : State :=
  let f := (s.fwSlot k).set
  let s1 := { s with dev := { s.dev with slot := k, running := f, safe := safe } }
  let s2 := s1.forAll (List.range 8) (fun s e => s.setEngine e { s.engine e with version := f.version 4 })
  let s3 := if k = s.flash.active then s2
    else ({ s2 with flash := ({ s2.flash with active := k, fallbacks := s2.flash.fallbacks + 1 } : Flash).saveBoot }).event 0x2904 srcRom [(1, s.flash.active), (1, k)]
  if safe then s3.event 0x1004 srcRom [(1, stepping), (1, k)] else s3

/-- R389: the active slot, then the other one; with none FAULT, and no control core runs (R384). -/
def State.chooseSlot (s : State) : State :=
  let a := s.flash.active
  let r := s.trySlot a
  match r.2 with
  | some b => r.1.runSlot a b
  | none =>
    let q := r.1.trySlot (1 - a)
    match q.2 with
    | some b => q.1.runSlot (1 - a) b
    | none => { q.1 with dev := { q.1.dev with noSlot := true } }.enterFault 0x2902

/-- R389: IMAGE_CHECK is entered; the oscillators' trip comparators are armed with the end of ROM (R433). -/
def execImageCheck (s : State) : Out :=
  commit s (fun s => s.enterPhase stRom 0x20 (fun s => (s.setPower { s.power with tripArmed := true }).chooseSlot))

/-! ### The management port (R353, R354) -/

/-- fe80::/64 with the modified EUI-64 of a MAC address (R353). -/
def linkLocal (mac : List Byte) : List Byte :=
  [0xFE, 0x80, 0, 0, 0, 0, 0, 0, mac.getD 0 0 ^^^ 2, mac.getD 1 0, mac.getD 2 0, 0xFF, 0xFE, mac.getD 3 0, mac.getD 4 0, mac.getD 5 0]

/-- The sum of 16-bit big-endian words in ones' complement. -/
def onesSum : List Byte → Nat → Nat
  | a :: b :: r, n => let v := n + a.toNat * 256 + b.toNat; onesSum r (v % 65536 + v / 65536)
  | [a], n => let v := n + a.toNat * 256; v % 65536 + v / 65536
  | [], n => n

/-- `n` bytes of a value, big-endian. -/
def beBytes (n v : Nat) : List Byte := (leBytes n v).reverse

/-- An ICMPv6 message with its checksum (RFC 4443) between two addresses. -/
def icmpFrom (src : List Byte) (dst type code : Nat) (rest : List Byte) : List Byte :=
  let pre := src ++ beBytes 16 dst ++ beBytes 4 (4 + rest.length) ++ [0, 0, 0, 58]
  let head := leBytes 1 type ++ leBytes 1 code
  let sum := onesSum (pre ++ head ++ [0, 0] ++ rest) 0
  head ++ beBytes 2 (65535 - sum) ++ rest

/-- An ICMPv6 message from this device. -/
def State.icmp (s : State) (dst type code : Nat) (rest : List Byte) : List Byte := icmpFrom (linkLocal s.mgmt.mac) dst type code rest

/-- Duplicate address detection begins (R353, RFC 4862): a Neighbor Solicitation for the own address, from no address to its
solicited-node address. -/
def State.solicit (s : State) : State :=
  let own := linkLocal s.mgmt.mac
  let node := 0xFF02 * 2 ^ 112 + 0x1FF * 2 ^ 24 + leNat (own.reverse.take 3)
  s.emit (.message 0 node (icmpFrom (List.replicate 16 0) node 135 0 ([0, 0, 0, 0] ++ own)))

/-! ### TIER_TEST -/

/-- Tiers in service. -/
def State.tiersUp (s : State) : List Nat := (List.range 4).filter (fun t => s.obj (oTier t 0x12) == 0)

/-- Every byte of a page poisoned. -/
def State.poisonPage (s : State) (p : Page) : State :=
  { s with poison := (List.range (p.bytes / 64)).foldl (fun t i => Tab.set t false (p.base / 64 + i) true) s.poison }

/-- R381: a cold start writes every line of the deck to zero: a page whose frame lay there reads zero, and HBM has what it had of a sector
whose only copy was a dirty one: a free value. -/
def State.zeroDeck (s : State) : State :=
  let s1 := s.forAll (s.allPages.filter (fun p => p.loc == 1 || p.loc == 2)) (fun s p => { s with
    mem := dropRange s.mem p.base (p.base + p.bytes), poison := dropRange s.poison (p.base / 64) ((p.base + p.bytes) / 64) })
  let dirty := s1.cols.flatMap (fun (e : Nat × Column) => (e.2.lines.filter (fun (l : Line) => !l.remote)).flatMap (fun l =>
    ((List.range 16).filter (fun i => l.dirty.toNat.testBit i)).map (fun i => l.line * 4096 + i * 256)))
  let n := s1.fresh
  { s1.forAll dirty (fun s a => { s with
      mem := Tab.writeBytes s.mem a ((List.range 256).map (fun i => BitVec.ofNat 8 (Config.freeFn 0x381 [n, a + i]))) }) with fresh := n + 1 }

/-- A page that lost its deck frame: its data is poisoned, and it is backed by HBM again. -/
def State.leaveDeck (s : State) (p : Page) : State :=
  let place := (s.pickFrame 0 p.frames p.hint none).getD p.place
  let k := s.keeper
  let pinned := p.pin == 2
  ({ s with keeper := { k with
    pinned := k.pinned.filter (fun b => b != p.base), demoted := if pinned then k.demoted ++ [p.base] else k.demoted } }.poisonPage p).setPage
    { p with loc := 0, place := place, pin := if pinned then 3 else p.pin }

/-- Columns at start-up (R477): banks that hold kept frames keep their role, every other working bank caches local lines. -/
def State.freshColumns (s : State) : State :=
  let s1 := { s with cols := [] }
  let s2 := s1.forAll (s1.allPages.filter (fun p => p.loc == 1 || p.loc == 2)) (fun s p =>
    s.modCol (p.place / 2 ^ 23) (fun k => k.setRole (bitsOf p.place 22 21) (bitsOf p.place 20 16) (roleOfLoc p.loc)))
  { s2 with cols := s2.cols.map (fun (e : Nat × Column) => (e.1, (e.2.banksOf 2 ++ e.2.banksOf 3).foldl Column.leave e.2)) }

/-- A bank out of service at start-up: its spare takes its role and frames where it is free (R155, R198); its entries go to the next cache-local
bank, and a spare that takes that role is then given its share (R477). Answers whether the spare replaced it. -/
def State.dropBank (s : State) (c t b : Nat) : State × Bool :=
  let k := s.col c
  let old := k.role t b
  let x := t * 17 + b
  let frames := s.allPages.filter (fun p => inBank p c t b)
  if old = 5 then (s, false)
  else if b ≠ 16 ∧ k.role t 16 = 4 then
    let k1 := (k.setRole t b 5).leave x
    let k2 := k1.setRole t 16 old
    let k3 := if old = 0 then k2.spreadL (t * 17 + 16) else k2
    ((s.setCol c k3).forAll frames (fun s p =>
      ((s.setPage { p with place := deckPlace c t 16 0 + p.place % 2 ^ 16 }).dropTlb (pageKey p.base)).poisonPage p), true)
  else
    let s1 := (s.setCol c ((k.setRole t b 5).leave x)).forAll frames State.leaveDeck
    (if old = 4 then s1 else s1.loseBank, false)

/-- R155 for one failing bank: event 0x2410. -/
def State.failBank (s : State) (x : Nat × Nat × Nat) : State :=
  let r := s.dropBank x.1 x.2.1 x.2.2
  r.1.event 0x2410 (srcTier x.2.1) [(1, x.1), (1, x.2.1), (1, x.2.2), (1, if r.2 then 1 else 0)]

/-- R156: a tier out of service: cause 1 its logic, 2 its banks. -/
def State.dropTier (s : State) (t cause lost : Nat) : State :=
  let s1 := s.forAll (List.range 96) (fun s c => s.modCol c (fun k =>
    (List.range 17).foldl (fun k b => (k.setRole t b 5).leave (t * 17 + b)) k))
  let s2 := s1.forAll (s1.allPages.filter (fun p => (p.loc == 1 || p.loc == 2) && bitsOf p.place 22 21 == t)) State.leaveDeck
  ((s2.setObj (oTier t 0x12) 1).setObj oCapacity (s2.obj oCapacity - (3072 - 2 * lost))).event 0x2412 (srcTier t) [(1, t), (1, cause), (4, lost)]

/-- R155, R156, R198: map-out: failing spares first, then the failing banks; tiers; then the bank entries of the retirement list. -/
def State.mapOut (s : State) (badBanks : List (Nat × Nat × Nat)) (badTiers : List Nat) : State :=
  let bad := badBanks.filter (fun x => decide (x.1 < 96) && decide (x.2.1 < 4) && decide (x.2.2 < 17))
  let s1 := (s.forAll (bad.filter (fun x => x.2.2 == 16)) State.failBank).forAll (bad.filter (fun x => x.2.2 != 16)) State.failBank
  let s2 := s1.forAll (List.range 4) (fun s t =>
    let lost := ((bad.filter (fun x => x.2.1 == t && x.2.2 != 16)).filter (fun x => (s1.col x.1).role t 16 == 5 ||
      (bad.find? (fun y => y.1 == x.1 && y.2.1 == t && y.2.2 != 16)).any (fun y => y.2.2 != x.2.2))).length
    if badTiers.elem t then s.dropTier t 1 lost else if 48 < lost then s.dropTier t 2 lost else s)
  s2.forAll (s2.flash.retire.filter (fun e => e.kind == 2)) (fun s e => (s.dropBank (e.loc / 2 ^ 16 % 128) (e.loc / 2 ^ 8 % 4) (e.loc % 32)).1)

/-- R162: torn lines, with the columns as they were before the reset: a clean cached one is invalidated; a dirty one, or one of a deck frame, is poisoned. -/
def State.readTorn (s : State) (old : Tab Column) : State :=
  let dirty (l : Nat) : Bool := old.any (fun (e : Nat × Column) => e.2.lines.any (fun (x : Line) => !x.remote && x.line == l && x.dirty != 0))
  let poisons (x : Nat) : Bool := x % 2 == 0 && (dirty (x / 2) || (s.pageAt (x / 2 * 4096)).any (fun p => p.loc == 1 || p.loc == 2))
  let bad := s.dev.torn.filter poisons
  let n := s.dev.torn.length - bad.length
  if s.dev.torn.isEmpty then s
  else
    let s1 := s.forAll bad (fun s x => s.forAll (List.range 64) (fun s i => s.setPoison (x / 2 * 64 + i) true))
    (s1.setObj (objKey 0x2410 0x0C) s.dev.torn.length).event 0x2423 srcKeeper [(4, n), (4, bad.length)]

/-- Cores in service in a cluster. -/
def State.coresUp (s : State) (e : Nat) : Nat := ((List.range 12).filter (fun i => s.obj (oCore (12 * e + i) 1) == 0)).length

/-- R383. -/
def State.checkTiers (s : State) : State :=
  let e := ((List.range 8).find? (fun e => decide (s.coresUp e < 2))).getD 0
  if s.tiersUp.length < 2 ∨ s.coresUp e < 2 then
    (s.event 0x1011 (srcRole 0) [(4, s.tiersUp.length), (1, e), (4, s.coresUp e)]).enterFault 0x1011
  else s

/-- Is the start-up warm (R380)? -/
def State.isWarm (s : State) (badTiers : List Nat) : Bool :=
  s.keeper.selfRefresh && (List.range 4).all (fun t => badTiers.elem t || Tab.get s.dev.tierMark false t)

/-- R380–R383. `badCores` are the cores that fail with the first unit that did, `badBanks` (column, tier, bank). A warm start's cached lines
are written back before the columns are set up again. -/
def State.tierTest (s : State) (badCores : List (Nat × Nat)) (badBanks : List (Nat × Nat × Nat)) (badTiers : List Nat) : State :=
  let warm := s.isWarm badTiers
  let marks := (List.range 4).filter (fun t => Tab.get s.dev.tierMark false t)
  let s1 := { s with dev := { s.dev with warm := warm } }
  let s2 := if warm then s1.event 0x1005 (srcRole 0) [(4, marks.length), (4, (((List.range 8).filter (fun k => s.keeper.keptStacks.testBit k)).length))]
    else if s.keeper.selfRefresh then s1.zeroDeck else s1
  let s3 := s2.forAll (badCores.filter (fun x => decide (x.1 < 96))) (fun s x =>
    (s.setObj (oCore x.1 1) 2).event 0x1010 (srcCore x.1) [(1, x.1), (1, x.2)])
  let s4 := (s3.freshColumns).mapOut badBanks badTiers
  let s5 := if warm then s4.readTorn s3.cols else s4
  ({ s5 with dev := { s5.dev with tierMark := [], torn := [] } }).checkTiers

/-- R382; the control cores serve dictionary frames from here on, so the port takes up its address (R353). -/
def execTierTest (badCores : List (Nat × Nat)) (badBanks : List (Nat × Nat × Nat)) (badTiers : List Nat) (s : State) : Out :=
  commit s (fun s => s.enterPhase 0x20 0x30 (fun s => (s.tierTest badCores badBanks badTiers).solicit))

/-! ### MEM_TRAIN -/

/-- The frames that a row of the retirement list takes (R195, R199). -/
def State.framesOfRow (s : State) (loc : Nat) : List Nat :=
  let k := loc / 2 ^ 37 % 8
  let row := bitsOf loc 26 11
  let bank := bitsOf loc 30 27 ^^^ row / 64 % 16
  let pc := bitsOf loc 36 31 ^^^ row % 64
  match (List.range s.stacks.length).find? (fun i => s.stacks.getD i 0 == k) with
  | none => []
  | some i => ((List.range 4).map (fun cg => ((row * 4096 + cg * 1024 + bank * 64 + pc) * s.stacks.length + i) / 256)).eraseDups

/-- The pools' books as the page tables give them. -/
def State.rebuildPools (s : State) : State :=
  let banks (role : Nat) : Nat := s.cols.foldl (fun n (e : Nat × Column) => n + (e.2.banksOf role).length) 0
  let book (total i : Nat) : Pool := let a := s.mapped i; { total := total, free := total - a, allocated := a }
  { s with keeper := { s.keeper with
    resident := book (32 * banks 2) 0
    stash := book (32 * banks 3) 1
    hbm := book (s.hbmLimit - s.keeper.badFrames.length) 2 } }

/-- Every page discarded (R203): with them contexts, tensor tables, regions and shadows. -/
def State.discardHbm (s : State) : State :=
  { s with
    keeper := {}
    mem := [], poison := [], shadow := [], prev := [], shadowPoison := [], prevPoison := []
    sched := {}
    host := { s.host with pool := [] }
    cols := s.cols.map (fun (e : Nat × Column) => (e.1, { e.2 with
      roles := e.2.roles.map (fun (r : Nat × Nat) => if r.2 = 2 ∨ r.2 = 3 then (r.1, 0) else r) |>.filter
        (fun r => r.2 != (if r.1 % 17 = 16 then 4 else 0)) })) }

/-- R237: contexts kept, pages of life 2 and 3 freed, and those whose free waited. -/
def State.keepContexts (s : State) : State :=
  let n := s.sched.ctxs.length
  let s1 := { s with keeper := { s.keeper with selfRefresh := false, kept := true } }
  let s2 := s1.forAll (s1.allPages.filter (fun p => decide (2 ≤ p.life) || s1.keeper.dying.elem p.base)) State.removePage
  let s2 := { s2 with keeper := { s2.keeper with dying := [] } }
  (((s2.setObj (objKey 0x2500 5) n).setObj (objKey 0x2500 0x0C) n).event 0x2526 srcSched [(4, n), (4, 0)]).countPinned

/-- R288: a flip whose marker is present is completed; otherwise every shadow frame is freed. -/
def State.settleFlip (s : State) : State :=
  match s.keeper.flipMarker with
  | some step =>
    let n := s.keeper.shadows.length
    let s1 := s.flipAll step
    { s1 with keeper := { s1.keeper with flipMarker := none }, pass := { s1.pass with owedFlip := some step, fstep := step } }.event 0x2724 srcSched
      [(4, step), (4, n)]
  | none => s.dropShadows

/-- Discarding at start-up: event 0x2452 where the stacks differ, and 0x2526 for the contexts lost. -/
def State.loseHbm (s : State) (before now : Nat) : State :=
  let n := s.sched.ctxs.length
  (s.discardHbm.event 0x2452 srcKeeper [(1, before), (1, now)]).event 0x2526 srcSched [(4, 0), (4, n)]

/-- R198, R201–R203, R237, R288. `badStacks` are the stacks that fail with the phase they failed, `lanes` the repairs (stack, channel,
lane). -/
def State.memTrain (s : State) (badStacks : List (Nat × Nat)) (lanes : List (Nat × Nat × Nat)) : State :=
  let bad := badStacks.filter (fun x => decide (x.1 < 8))
  let up := (List.range 8).filter (fun k => bad.all (fun x => x.1 != k))
  let now := up.foldl (fun m k => m + 2 ^ k) 0
  let s1 := s.forAll (lanes.filter (fun x => decide (x.1 < 8))) (fun s x =>
    { s with keeper := { s.keeper with lanes := Tab.upd s.keeper.lanes 0 x.1 (· + 1) } }.event 0x2450 (srcStack x.1) [(1, x.1), (1, x.2.1), (1, x.2.2)])
  let ln := s1.keeper.lanes
  let s2 := s1.forAll bad (fun s x => s.event 0x2451 (srcStack x.1) [(1, x.1), (1, x.2)])
  let s3 := (s2.setObj (objKey 0x2400 2) now).setObj (objKey 0x2400 1) (49152 * up.length)
  if up.length < 4 then s3.enterFault 0x2451
  else
    let s4 := if !s3.keeper.selfRefresh then s3
      else if s3.keeper.keptStacks = now then s3.keepContexts.settleFlip
      else s3.loseHbm s3.keeper.keptStacks now
    let s5 := { s4 with keeper := { s4.keeper with lanes := ln } }
    let rows := (s5.flash.retire.filter (fun e => e.kind == 1)).map RetireEntry.loc
    let frames := (rows.flatMap s5.framesOfRow).eraseDups.filter (fun f => decide (f < s5.hbmLimit))
    (({ s5 with keeper := { s5.keeper with badFrames := frames } }).rebuildPools).replan

/-- R200. -/
def execMemTrain (badStacks : List (Nat × Nat)) (lanes : List (Nat × Nat × Nat)) (s : State) : Out :=
  commit s (fun s => s.enterPhase 0x30 0x40 (fun s => s.memTrain badStacks lanes))

/-! ### HOST_LINK, PITCH_LINK, READY -/

/-- R333, R465: HOST_LINK is entered: the host link trains where PERST_N allows it and the straps use it. -/
def execHostLink (s : State) : Out :=
  commit s (fun s => s.enterPhase 0x40 0x50 (fun s =>
    { s with host := { s.host with training := s.host.training || (s.host.up && !s.strap 2 && s.obj oLinkRate != s.obj oCap) } }))

/-- R297: PITCH_LINK is entered: every enabled link trains. -/
def execPitchLink (s : State) : Out :=
  commit s (fun s => s.enterPhase 0x50 0x60 (fun s =>
    s.forAll (List.range 64) (fun s l => if s.obj (oLink l 0x0A) = 1 then s.setLn l lnTraining else s)))

/-- READY is entered: event 0x1001, and a trial slot becomes good (R391). -/
def State.enterReady (s : State) : State :=
  s.enterPhase 0x60 stReady (fun s =>
    let k := s.dev.slot
    (if (s.fwSlot k).state = 2 then s.markSlot k 3 else s).event 0x1001 (srcRole 0) [(4, s.flash.boot), (1, k), (1, if s.dev.warm then 1 else 0)])

/-- R379: 2 s of PITCH_LINK have passed; links go on training. -/
def execPitchLinkTimeout (s : State) : Out := commit s State.enterReady

/-- R379: no enabled link is in training any more. -/
def execReadyEntry (s : State) : Out :=
  commit s (fun s => if (List.range 64).any (fun l => s.lnState l == lnTraining) then s else s.enterReady)

/-- Is the start-up under way from ROM on? -/
def State.startingUp (s : State) : Bool := decide (0x10 ≤ s.devState) && decide (s.devState ≤ 0x60)

/-- R379, Table 13.3: READY is not reached 60 s after ROM: FAULT. -/
def execStartupWatchdog (s : State) : Out :=
  commit s (fun s =>
    if s.startingUp then (s.event 0x1002 (if s.devState ≤ 0x20 then srcRom else srcRole 0) [(1, s.devState), (4, 60000)]).enterFault 0x1002 else s)

/-- Table 13.3: a phase over its maximum: event 0x1002. -/
def execPhaseOverMax (ms : Nat) (s : State) : Out :=
  commit s (fun s =>
    if s.startingUp then s.event 0x1002 (if s.devState ≤ 0x20 then srcRom else srcRole 0) [(1, s.devState), (4, ms)] else s)

end Sys2Proof.Machine
end

