-- ==== Sys2Proof/Machine/Objects.lean ====
section
/-! DEFINITION. What a read of the dictionary returns: values, computed objects, aliases and the rows of every table (R353, R359, R376,
R377, R429, R474, Table 12.9, Table 12.11). -/

namespace Sys2Proof.Machine

/-- `n` bytes, padded with zeros or cut. -/
def padBytes (n : Nat) (l : List Byte) : List Byte := (l ++ List.replicate (n - l.length) 0).take n

/-! ## Values -/

/-- The generations of 2440:03, laid out as 2200+l:07: fabric protocol, pass microcode, determinism. -/
def State.ownGens (s : State) : Nat := s.dev.running.fabric * 2 ^ 16 + s.dev.running.passmc * 2 ^ 8 + s.dev.running.determ

/-- 1100:0F: down while disabled or unaddressed, then by 1100:04. -/
def State.portState (s : State) : Nat :=
  if s.obj (objKey 0x1100 0x0F) = 3 then 3
  else if s.obj (objKey 0x1100 9) = 0 ∨ !s.mgmt.dadDone then 0
  else if s.obj (objKey 0x1100 4) = 0xFF then 1 else 2

/-- The N40 state of a device state (Table 12.9). -/
def n40State (st : Nat) : Nat := if st ≤ 0x60 then 0 else if st ≤ 0x80 then 1 else if st = 0x90 then 2 else if st = 0xA0 then 3 else 4

/-- Twice an F32, rounded to the nearest integer with ties to even and clipped (5002:00). -/
def n40Temp (v : Nat) : Nat :=
  match (f32 (BitVec.ofNat 32 v)).scale 1 with
  | .fin false m e =>
    if 0 ≤ e then min (m * 2 ^ e.toNat) 65535
    else
      let d := 2 ^ (-e).toNat
      let q := m / d
      let r := 2 * (m % d)
      min (if r > d ∨ (r = d ∧ q % 2 = 1) then q + 1 else q) 65535
  | _ => 0

/-- The N40 state of a link (5005:00). -/
def n40Link (st : Nat) : Nat := if st = 3 then 1 else if st = 4 ∨ st = 5 then 2 else 0

/-- Numbers that are not kept as plain objects. -/
def State.number (s : State) (sess key : Nat) : Nat :=
  if key = objKey 0x1010 3 then s.dev.ctlCyc
  else if key = objKey 0x1010 4 then s.flash.boot
  else if key = objKey 0x1100 0x0F then s.portState
  else if key = objKey 0x1200 1 then s.level sess
  else if key = objKey 0x1200 4 then min s.flash.owner.failures 65535
  else if key = objKey 0x1200 5 then s.lockoutLeft
  else if key = objKey 0x2402 1 then s.retireAll.length
  else if key = objKey 0x2402 2 then (s.retireAll.filter (fun e => !e.confirmed)).length
  else if key = objKey 0x2440 3 then s.ownGens
  else if key = objKey 0x2710 5 then (s.pass.ledger.filter (fun (p : PassPkt) => p.epoch != s.obj oLayCur)).length
  else if key = objKey 0x2800 2 then s.book.entries.length
  else if key = objKey 0x2800 9 then s.flash.ring.length
  else if key = objKey 0x2900 1 then s.dev.slot
  else if key = objKey 0x2900 0x0A then s.flash.fallbacks
  else if 0x3000 ≤ key / 256 ∧ key / 256 < 0x3060 ∧ key % 256 = 2 then
    (if s.obj (key - 1) = 0 then 0 else 1)
  else if key = objKey 0x5001 0 then n40State s.devState
  else if key = objKey 0x5002 0 then n40Temp (s.obj (objKey 0x2100 1))
  else if key = objKey 0x5003 0 then min (s.obj (objKey 0x2000 1)) 65535
  else if key = objKey 0x5004 0 then s.obj oLs
  else if key = objKey 0x5006 0 then s.obj oLastSeq
  else s.obj key

/-- The value of an object other than a table. A text is its ASCII bytes; 1200:03 reads one zero byte. -/
def State.value (s : State) (sess : Nat) (r : ObjRow) (key : Nat) : List Byte :=
  if r.ty = 8 then (if key = objKey 0x1000 6 then ascii "Padobel" else if key = objKey 0x1000 7 then ascii "Baxizel T96" else ascii "BXT96-A1")
  else if r.ty ≠ 9 then leBytes r.size (s.number sess key)
  else if key = objKey 0x1000 3 then serial
  else if key = objKey 0x1000 8 then (s.boardRec).getD (List.replicate 256 0)
  else if key = objKey 0x1100 1 then padBytes 6 s.mgmt.mac
  else if key = objKey 0x1100 2 then linkLocal s.mgmt.mac
  else if key = objKey 0x1200 3 then [0]
  else if key = objKey 0x1200 7 then (s.access.challenge.map Challenge.bytes).getD (List.replicate 56 0)
  else if key = objKey 0x2600 5 then leBytes 32 (s.obj key)
  else padBytes 16 (s.link (key / 256 - 0x2200)).serial

/-! ## Tables -/

/-- Open sessions, as (number, kind, session): the slots, then the mailbox. -/
def State.openSessions (s : State) : List (Nat × Nat × Session) :=
  (s.mgmt.sessions.filterMap (fun (e : Nat × Session) =>
    if e.2.isOpen then some (sessionNo e.1 e.2, (match e.2.path with | .port _ _ => 1 | _ => 2), e.2) else none)) ++
    [(mailboxSession, 3, s.mgmt.mbSession)]

/-- The stagger map's mask of a column (R429): mapped-out banks read 0, and a spare in a bank's place has that bank's bit. -/
def State.stagger (s : State) (t c : Nat) : Nat :=
  let k := s.col c
  let spare := !([4, 5].elem (k.role t 16))
  (List.range 16).foldl (fun m b =>
    let ok := posAllowed t c b
    let out := k.role t b == 5
    let replaced := spare && ((List.range 16).find? (fun x => k.role t x == 5)) == some b
    if ok && (!out || replaced) then m + 2 ^ b else m) 0

/-- A retirement entry (Table 06.9). -/
def RetireEntry.bytes (e : RetireEntry) : List Byte :=
  leBytes 4 e.seq ++ leBytes 1 e.kind ++ leBytes 1 ((if e.confirmed then 1 else 0) + (if e.moved then 2 else 0) + (if e.poisoned then 4 else 0)) ++
    leBytes 1 e.cause ++ leBytes 1 0 ++ leBytes 8 e.loc ++ leBytes 4 e.boot ++ leBytes 4 e.errors ++ leBytes 8 0

/-- A counter as n bytes: it stays at its largest value (R163, R206, R266). -/
def satBytes (n v : Nat) : List Byte := leBytes n (min v (2 ^ (8 * n) - 1))

/-- Statistics counters as a row. -/
def statRow (l : List SlotStats) : List Byte :=
  let sum (f : SlotStats → Nat) : List Byte := leBytes 8 (min ((l.map f).sum) (2 ^ 64 - 1))
  sum SlotStats.drained ++ sum SlotStats.clipped ++ sum SlotStats.nanIn ++ sum SlotStats.nanZeroed

/-- A row of four books. -/
def poolRow (p : Pool) : List Byte := leBytes 8 p.total ++ leBytes 8 p.free ++ leBytes 8 p.allocated ++ leBytes 8 p.inflight

/-- The threads and sequences of a context (2502:00). -/
def State.ctxRow (s : State) (x : Nat) (c : Ctx) : List Byte :=
  let seqs := (s.sched.slots.filter (fun e => e.2.any (fun (q : Seq) => q.ctx == x))).length
  leBytes 2 x ++ leBytes 1 c.prio ++ leBytes 1 0 ++ leBytes 4 c.league ++ leBytes 2 (s.ctxThreads x) ++ leBytes 2 seqs

def verdictRow (v : LayerVerdict) : List Byte :=
  leBytes 4 v.layer ++ leBytes 1 v.part ++ leBytes 1 0 ++ leBytes 1 v.verdict ++ leBytes 1 0 ++ leBytes 4 v.step ++ leBytes 4 v.rmsW.toNat ++
    leBytes 4 v.rmsD.toNat ++ leBytes 4 v.gnorm.toNat ++ leBytes 8 v.nonfinite

/-- The image that a control core's role runs. -/
def State.coreVersion (s : State) (k : Nat) : Nat :=
  let r := s.roleOf k
  if r < 4 then s.verOf r (s.dev.act.any (fun a => a.handed.elem r)) else 0

/-- The highest of some temperatures, or 0. -/
def topTemp (l : List Int) : Int :=
  match l with
  | [] => 0
  | x :: r => r.foldl max x

/-- A tier's row of 2100:02. -/
def State.tierTemp (s : State) (t : Nat) : List Byte :=
  leBytes 4 (tempF32 (topTemp (((List.range 104).filter (fun c => s.trusted (tierSensor t c))).map (fun c => s.reading (tierSensor t c))))) ++
    leBytes 4 (tempF32 (topTemp ((List.range 96).map (s.valueUsed t))))

/-- Open reductions of an engine (2711:00). -/
def State.openReds (s : State) (e : Nat) : Nat :=
  (s.pass.reds.filter (fun (r : Reduction) => !r.decided && s.serving (r.layer % 8) == e)).length

/-- The rows of a table of 1000 to 23FF, by key. -/
def State.rowsLow (s : State) (key : Nat) : List (List Byte) :=
  if key = objKey 0x1100 0x0E then
    s.openSessions.map (fun e => leBytes 4 e.1 ++ leBytes 1 e.2.1 ++ leBytes 1 e.2.2.level ++ leBytes 2 0 ++
      leBytes 4 ((s.dev.ctlCyc - e.2.2.heard) / 1200000) ++ leBytes 4 e.2.2.last)
  else if key = objKey 0x1200 8 then (List.range 64).map s.responseRow
  else if key = objKey 0x2000 7 then (List.range 8).map (fun k => leBytes 2 (s.clockOf k) ++ leBytes 2 0)
  else if key = objKey 0x2000 0x0A then
    (List.range 7).map (fun r => let x := Tab.get s.power.rails (0, 0) r; leBytes 1 r ++ leBytes 1 0 ++ leBytes 2 x.1 ++ leBytes 4 x.2)
  else if key = objKey 0x2100 2 then (List.range 4).map s.tierTemp
  else if key = objKey 0x2100 0x0A then s.power.suspects.map (fun r => leBytes 1 r.1 ++ leBytes 1 r.2.1 ++ leBytes 1 r.2.2 ++ leBytes 1 0)
  else if key = objKey 0x2100 0x0B then
    (List.range 96).map (fun c => (List.range 4).flatMap (fun t => leBytes 4 (tempF32 (s.valueUsed t c))))
  else if key = objKey 0x2100 0x0D then (List.range 4).map (fun t => (List.range 96).flatMap (fun c => leBytes 2 (s.stagger t c)))
  else if key = objKey 0x2300 0x0C then
    (List.range 64).map (fun r => let x := s.region r; leBytes 1 x.state ++ leBytes 3 0 ++ leBytes 4 x.slots ++ leBytes 4 x.used.length ++ leBytes 4 0)
  else
    (List.range 10).map (fun v => let l := s.link (key / 256 - 0x2200)
      leBytes 2 (vcAlloc v) ++ leBytes 2 (Tab.get l.credits 0 v) ++ leBytes 2 (Tab.get l.held 0 v) ++ leBytes 2 0)

/-- The rows of a table of 2400 to 25FF. -/
def State.rowsMid (s : State) (key : Nat) : List (List Byte) :=
  if key = objKey 0x2401 0 then (List.range 4).map (fun i => poolRow (s.pool i))
  else if key = objKey 0x2402 0 then s.retireAll.map RetireEntry.bytes
  else if key = objKey 0x2411 0 then
    (List.range 96).map (fun c => let k := s.col c
      leBytes 1 (s.depthOf c) ++ leBytes 1 k.mshrs.length ++ leBytes 2 0 ++ satBytes 8 k.hits ++ satBytes 8 k.misses ++ satBytes 8 k.merges ++
        satBytes 8 k.fills ++ satBytes 8 k.refetches ++ satBytes 8 k.fullCycles)
  else if key = objKey 0x2430 0 then
    (List.range 8).map (fun k => leBytes 1 (if s.stacks.elem k then 1 else 0) ++ satBytes 1 (Tab.get s.keeper.lanes 0 k) ++ leBytes 2 0 ++
      satBytes 8 (Tab.get s.keeper.stackCorrected 0 k) ++ satBytes 8 (Tab.get s.keeper.stackUncorrectable 0 k))
  else if key = objKey 0x2441 0 then (List.range 16384).map (fun d => leBytes 4 (s.routeRow d))
  else if key = objKey 0x2442 0 then
    s.fabric.fences.map (fun f => leBytes 2 f.dev ++ leBytes 1 f.kind ++ leBytes 1 0 ++ leBytes 4 f.league ++ leBytes 8 f.key)
  else if key = objKey 0x2501 0 then
    (List.range 256).map (fun q => let x := s.queue q
      leBytes 1 x.state ++ leBytes 1 x.ver ++ leBytes 2 x.halt ++ leBytes 4 x.p ++ leBytes 4 x.c ++ leBytes 8 x.d)
  else if key = objKey 0x2502 0 then s.sched.ctxs.filterMap (fun e => e.2.map (s.ctxRow e.1))
  else (s.sched.snaps.filter (fun (x : Snap) => x.ready)).map (fun x =>
    leBytes 2 x.ctx ++ leBytes 1 x.id ++ leBytes 1 0 ++ leBytes 4 x.bound ++ leBytes 8 x.dst ++ leBytes 4 (x.size / 1048576))

/-- The rows of a table from 2600 on. -/
def State.rowsHigh (s : State) (key : Nat) : List (List Byte) :=
  let idx := key / 256
  let sub := key % 256
  if idx = 0x2601 then (List.range 256).map (fun k => statRow (s.cores.map (fun (e : Nat × Core) => Tab.get e.2.stats {} k)))
  else if idx = 0x2711 then
    (List.range 8).map (fun e => let x := s.engine e
      leBytes 2 x.free ++ leBytes 2 x.held ++ leBytes 4 (s.openReds e) ++ satBytes 8 x.packetsIn ++ satBytes 8 x.packetsOut ++ satBytes 8 x.discarded)
  else if idx = 0x2721 then s.upd.verdicts.map verdictRow
  else if idx = 0x2800 then (if sub = 1 then s.book.entries else s.flash.ring).map Entry.bytes
  else if idx = 0x2900 ∧ sub = 2 then
    [0, 1].map (fun k => ((s.fwSlot k).set.versions).flatMap (leBytes 4) ++ leBytes 1 (s.fwSlot k).state ++ leBytes 3 0)
  else if idx = 0x2900 ∧ sub = 3 then s.dev.running.tuples.map (fun t => leBytes 1 t.1 ++ leBytes 3 0 ++ t.2.flatMap (leBytes 4))
  else if idx = 0x2900 ∧ sub = 8 then
    (List.range 5).map (fun k => leBytes 1 (s.roleOf k) ++ leBytes 3 0 ++ leBytes 4 (s.coreVersion k) ++ leBytes 4 (Tab.get s.dev.beats 0 k))
  else if idx = 0x2900 then (List.range 8).map (fun e => leBytes 4 (s.engine e).version ++ leBytes 1 (s.engine e).micro ++ leBytes 3 0)
  else if idx < 0x3100 ∧ sub = 0x20 then (List.range 256).map (fun k => statRow [Tab.get (s.core (idx - 0x3000)).stats {} k])
  else if idx < 0x3100 then
    (s.core (idx - 0x3000)).faults.map (fun f =>
      leBytes 1 f.thread ++ leBytes 1 f.code ++ leBytes 2 0 ++ leBytes 8 f.pc.toNat ++ leBytes 8 f.addr.toNat ++ leBytes 8 f.cyc)
  else if idx < 0x3200 then
    let t := idx - 0x3100
    (List.range 96).map (fun c => (List.range 17).flatMap (fun b =>
      if sub = 0x10 then leBytes 1 ((s.col c).role t b)
      else satBytes 4 (Tab.get (if sub = 0x13 then (s.col c).corrected else (s.col c).lastAccesses) 0 (t * 17 + b))))
  else (List.range 64).map (fun l => leBytes 1 (n40Link (s.lnState l)))

/-- The rows of a table. -/
def State.rows (s : State) (key : Nat) : List (List Byte) :=
  if key < objKey 0x2400 0 then s.rowsLow key else if key < objKey 0x2600 0 then s.rowsMid key else s.rowsHigh key

/-- Does a read of the object wait for its unit (R474)? Objects that ROM and IMAGE_CHECK fill never do; a core out of service keeps only its
state and request readable (Table 12.7). -/
def State.readBusy (s : State) (idx sub : Nat) : Bool :=
  let early := idx < 0x1011 || idx == 0x1200 || (idx == 0x2440 && sub == 3) || (idx == 0x2900 && [1, 2, 3, 8].elem sub)
  !early && (!s.started idx || (0x3000 ≤ idx && idx < 0x3100 && 0x10 ≤ sub && s.obj (oCore (idx - 0x3000) 1) == 1))

end Sys2Proof.Machine
end

