-- ==== Sys2Proof/Machine/Frame.lean ====
section
/-! DEFINITION. Dictionary frames: operations, sessions, refusals and responses, relays, the N40 profile, the mailbox and the management
port (R347, R351–R376, R378; Tables 12.1–12.9). -/

namespace Sys2Proof

/-! ## Bytes -/

/-- Bytes padded with zeros to a multiple of 4 (R357). -/
def pad4 (l : List Byte) : List Byte := l ++ List.replicate ((4 - l.length % 4) % 4) 0

/-- The header of profile 3 (Table 12.1). -/
def FrameHdr.bytes (h : FrameHdr) : List Byte :=
  leBytes 1 h.proto ++ leBytes 1 h.kind ++ leBytes 1 h.ctl ++ leBytes 1 h.nops ++ leBytes 4 h.session ++ leBytes 4 h.seq ++ leBytes 2 h.len ++
    leBytes 2 h.rmax ++ leBytes 2 h.route ++ leBytes 2 h.res

/-- An operation with its data (Table 12.2). -/
def DictOp.bytes (o : DictOp) : List Byte :=
  leBytes 1 o.op ++ leBytes 1 o.status ++ leBytes 1 o.sub ++ leBytes 1 o.res ++ leBytes 2 o.idx ++ leBytes 2 o.data.length ++ pad4 o.data

/-- An N40 operation with its data; `sub` is unused. -/
def DictOp.n40Bytes (o : DictOp) : List Byte :=
  leBytes 1 o.op ++ leBytes 1 o.status ++ leBytes 1 o.idx ++ leBytes 1 0 ++ leBytes 2 o.data.length ++ leBytes 2 0 ++ pad4 o.data

/-- A res field of the operation (R8). DESIGN CHOICE: a request whose status byte is not 0 (Table 12.2) is answered with D_RES as well;
the spec states no answer to it. -/
def DictOp.badRes (o : DictOp) : Bool := o.res != 0 || o.status != 0

/-- The first address of a row of the master index above one, as index × 256 + sub. -/
def ObjRow.after (r : ObjRow) (idx sub : Nat) : Option Nat :=
  let i := if idx < r.idx then r.idx else if sub < r.sub then idx else idx + 1
  if i < r.idx + r.n then some (objKey i r.sub) else none

namespace Machine

/-- A header read from the bytes received. -/
def parseHdr (path : Path) (b : List Byte) : FrameHdr :=
  { path := path, rx := b.length, proto := fieldAt b 0 1, kind := fieldAt b 1 1, ctl := fieldAt b 2 1, nops := fieldAt b 3 1
    session := fieldAt b 4 4, seq := fieldAt b 8 4, len := fieldAt b 12 2, rmax := fieldAt b 14 2, route := fieldAt b 16 2, res := fieldAt b 18 2 }

/-- Operations read from the bytes after the header: none where they do not exactly fill them. -/
def parseOps : Nat → List Byte → Option (List DictOp)
  | 0, b => if b.isEmpty then some [] else none
  | n + 1, b =>
    let k := fieldAt b 6 2
    let w := 8 + (k + 3) / 4 * 4
    if b.length < w then none
    else (parseOps n (b.drop w)).map (fun r =>
      { op := fieldAt b 0 1, status := fieldAt b 1 1, sub := fieldAt b 2 1, res := fieldAt b 3 1, idx := fieldAt b 4 2, data := (b.drop 8).take k } :: r)

/-! ## Paths -/

/-- The largest frame of a path (R363). -/
def pathLimit (p : Path) : Nat :=
  match p with
  | .mailbox => 2032
  | .port _ _ => 1452
  | _ => 2016

/-- The path of event 0x1221: 1 port, 2 relay, 3 mailbox, as the kinds of 1100:0E. -/
def pathKind (p : Path) : Nat :=
  match p with
  | .mailbox => 3
  | .port _ _ => 1
  | _ => 2

/-- The UDP port of the management port. -/
def State.udpPort (s : State) : Nat := s.obj (objKey 0x1100 3)

/-- Do the control cores serve dictionary frames (R347)? From 0x30 on, and not where no slot could run. -/
def State.dictServes (s : State) : Bool := decide (0x30 ≤ s.dev.phase) && !s.dev.noSlot

/-- Is a datagram accepted at the port (R353, R355)? -/
def State.portOpen (s : State) : Bool :=
  decide (0x30 ≤ s.devState) && s.obj (objKey 0x1100 9) == 1 && s.mgmt.dadDone && s.dictServes

/-- The destination of a packet to a direct partner, which is not routed (R372). -/
def unrouted : Nat := 0xFFFF

/-- A relayed frame or response as an MGT packet (Table 10.5). -/
def mgtPkt (dst : Nat) (b : List Byte) : Pkt := { type := 0x40, vc := 8, dst := dst, payload := b }

/-- A packet to a direct partner, sent on its link whatever the routing. -/
def State.sendPartner (s : State) (l : Nat) (b : List Byte) : State := s.sendOn l { mgtPkt unrouted b with src := s.ownDev }

/-- A response sent back by the path of its request; `udp` is the port that it leaves from (R347, R355, R374). -/
def State.deliver (s : State) (path : Path) (udp : Nat) (b : List Byte) : State :=
  match path with
  | .mailbox =>
    if s.host.mb.go then
      ({ s with host := { s.host with mb := { s.host.mb with go := false, done := true, rspLen := b.length, rsp := Tab.writeBytes [] 0 b } } }).emit
        (.frame .mailbox 0 b)
    else s
  | .port _ _ => s.emit (.frame path udp b)
  | .relayDev d => s.sendPkt (mgtPkt d b)
  | .relayLink l => s.sendPartner l b

/-! ## Refusals (R361, R378) -/

def fOk : Nat := 0
def fProto : Nat := 1
def fLen : Nat := 2
def fSession : Nat := 3
def fSeq : Nat := 4
def fFull : Nat := 5
def fRoute : Nat := 6
def fTimeout : Nat := 7
def fState : Nat := 8

/-- A refused frame: counted, with event 0x1221. -/
def State.countRefusal (s : State) (path : Path) (st sess : Nat) : State :=
  (s.bump (objKey 0x1100 0x0D) 1).event 0x1221 srcMgmt [(1, pathKind path), (2, st), (4, sess)]

/-- A refusal of a frame of profile 3: the header alone. -/
def refusal (h : FrameHdr) (st seq : Nat) : List Byte := { h with kind := 2, ctl := st, nops := 0, seq := seq, len := 20 }.bytes

def State.refuseFrame (s : State) (h : FrameHdr) (st seq : Nat) : State :=
  (s.countRefusal h.path st h.session).deliver h.path s.udpPort (refusal h st seq)

/-! ## Settings of the port (R356, R371) -/

/-- A change of 1100:03 to 1100:09; a changed PLCA setting restarts PLCA after the response. -/
def State.wrPort (key : Nat) (s : State) (v : Nat) : Wr :=
  let id := if key = objKey 0x1100 4 then v else s.obj (objKey 0x1100 4)
  let n := if key = objKey 0x1100 5 then v else s.obj (objKey 0x1100 5)
  if (key = objKey 0x1100 4 ∨ key = objKey 0x1100 5) ∧ id ≤ 15 ∧ n ≤ id then (s, dState)
  else
    let plca := decide (objKey 0x1100 4 ≤ key) && decide (key ≤ objKey 0x1100 8) && s.obj key != v
    ({ s.setObj key v with mgmt := { s.mgmt with restart := s.mgmt.restart || plca } }, dOk)

/-- After a response: PLCA restarts where one of its settings changed. -/
def State.afterResponse (s : State) : State :=
  if s.mgmt.restart then
    { s with mgmt := { s.mgmt with restart := false } }.emit (.plca ((List.range 5).map (fun i => s.obj (objKey 0x1100 (4 + i)))))
  else s

/-- A write command of a setting of the port. -/
def writePort (sess sub v : Nat) (s : State) : Out :=
  commit s (fun s => (writeSubject sess (objKey 0x1100 sub) (numBytes (objKey 0x1100 sub) v) (fun s => s.wrPort (objKey 0x1100 sub) v) s).afterResponse)

def execUdpPortWrite (sess v : Nat) (s : State) : Out := writePort sess 3 v s
def execPlcaNodeIdWrite (sess v : Nat) (s : State) : Out := writePort sess 4 v s
def execPlcaNodeCountWrite (sess v : Nat) (s : State) : Out := writePort sess 5 v s
def execPlcaTimerWrite (sess v : Nat) (s : State) : Out := writePort sess 6 v s
def execPlcaBurstCountWrite (sess v : Nat) (s : State) : Out := writePort sess 7 v s
def execPlcaBurstTimerWrite (sess v : Nat) (s : State) : Out := writePort sess 8 v s
def execPortEnableWrite (sess v : Nat) (s : State) : Out := writePort sess 9 v s

/-! ## Writes by subject (R362, R368) -/

/-- Does an F32 stay below another (both are finite and not negative)? -/
def f32Below (a b : Nat) : Bool := Num.lt (f32 (BitVec.ofNat 32 a)) (f32 (BitVec.ofNat 32 b))

/-- The power and thermal limits (R371). -/
def State.wrLimit (key : Nat) (s : State) (v : Nat) : Wr :=
  let now (k : Nat) : Nat := if key = k then v else s.obj k
  let hot (a b : Nat) : Bool := f32Below (now (objKey 0x2100 a)) (now (objKey 0x2100 b))
  if !hot 3 4 ∨ !hot 5 6 ∨ now (objKey 0x2000 3) < now (objKey 0x2000 2) then (s, dState) else s.wrPlain key v

/-- The native object of a writable N40 alias (Table 12.9). -/
def aliasOf (key : Nat) : Nat :=
  if key = objKey 0x5004 0 then objKey 0x2000 2 else if key = objKey 0x5007 0 then objKey 0x1001 2 else key

/-- A checked write to an object below 2440. -/
def State.writeLow (s : State) (sess key v : Nat) (data : List Byte) : Wr :=
  let idx := key / 256
  let sub := key % 256
  if key = objKey 0x1001 2 then s.wrWhistle v
  else if key = objKey 0x1010 1 then s.wrMark v
  else if idx = 0x1100 ∧ sub ≤ 9 then s.wrPort key v
  else if key = objKey 0x1200 2 then s.wrPassword sess data
  else if key = objKey 0x1200 3 then s.wrNewPassword sess data
  else if key = objKey 0x1200 6 then s.wrScope sess v
  else if key = objKey 0x1200 9 then s.wrResponse sess v
  else if key = objKey 0x1200 0x0B then s.wrLeave sess v
  else if idx = 0x2000 ∨ idx = 0x2100 then s.wrLimit key v
  else if 0x2200 ≤ idx ∧ idx < 0x2240 ∧ sub = 8 then s.wrRank (idx - 0x2200) v
  else if 0x2200 ≤ idx ∧ idx < 0x2240 ∧ sub = 0x0A then s.wrLinkEnable (idx - 0x2200) v
  else if 0x2200 ≤ idx ∧ idx < 0x2240 ∧ sub = 0x0B then s.wrRetrain (idx - 0x2200) v
  else if key = objKey 0x2300 5 then s.wrRetrainHost v
  else if key = objKey 0x2402 3 then s.wrConfirm v
  else if key = objKey 0x2402 4 then s.wrRemove v
  else if key = objKey 0x2410 2 ∨ key = objKey 0x2410 5 ∨ key = objKey 0x2410 6 then s.wrQuota key v
  else s.wrPlain key v

/-- A checked write to an object from 2440 on. -/
def State.writeHigh (s : State) (peer : PeerRead) (sess key v : Nat) : Wr :=
  let idx := key / 256
  let sub := key % 256
  if key = oDevId then s.wrDevId v
  else if key = oFabricOn then s.wrFabricOn v
  else if key = objKey 0x2440 0x0C then s.wrClearFence v
  else if key = oSlice then s.wrSlice v
  else if key = objKey 0x2600 4 then s.wrClearSlot v
  else if key = oLayAddr ∨ key = oLayStep then s.wrLayout key v
  else if key = oLayEpoch then s.wrLayEpoch peer v
  else if key = oTabNext then s.wrTabAddr v
  else if key = oTabStep then s.wrTabStep peer v
  else if key = objKey 0x2800 6 then s.wrClear sess v
  else if key = objKey 0x2800 8 then s.wrBurst v
  else if key = objKey 0x2900 6 then s.wrUpdate v
  else if idx = 0x2900 ∧ 0x0B ≤ sub then s.wrOpenPath sub v
  else if 0x3000 ≤ idx ∧ idx < 0x3060 then s.wrQuarantine (idx - 0x3000) v
  else if 0x3100 ≤ idx ∧ idx < 0x3104 then s.wrMapOut (idx - 0x3100) v
  else s.wrPlain key v

/-- A checked write: its subject's own checks and effect. An alias writes its native object. -/
def State.writeObj (s : State) (peer : PeerRead) (sess key : Nat) (data : List Byte) : Wr :=
  let k := aliasOf key
  if k < objKey 0x2440 0 then s.writeLow sess k (leNat data) data else s.writeHigh peer sess k (leNat data)

/-! ## Operations (R358–R363, Table 12.7 in code order) -/

/-- An operation's outcome: the state, the status, the response data. -/
abbrev OpOut := State × Nat × List Byte

/-- A read's data where it fits, else D_ROOM (R363). -/
def fits (room : Nat) (d : List Byte) : Nat × List Byte := if (pad4 d).length ≤ room then (dOk, d) else (dRoom, [])

/-- READ. -/
def State.opRead (s : State) (sess : Nat) (o : DictOp) (room : Nat) : Nat × List Byte :=
  match findRow o.idx o.sub with
  | none => (dNoobj, [])
  | some r =>
    if r.acc = 4 then (dAccess, [])
    else if r.ty = 10 ∨ o.data ≠ [] then (dType, [])
    else if o.badRes then (dRes, [])
    else if s.readBusy o.idx o.sub then (dBusy, [])
    else fits room (s.value sess r (objKey o.idx o.sub))

/-- WRITE: `c` is what the checks before the subject's own say. -/
def State.opWrite (s : State) (c : Nat) (peer : PeerRead) (sess : Nat) (o : DictOp) : OpOut :=
  if o.badRes ∧ (c = dOk ∨ dRes < c) then (s, dRes, [])
  else if c ≠ dOk then (s, c, [])
  else
    let r := s.writeObj peer sess (objKey o.idx o.sub) o.data
    if r.2 = dOk then (r.1, dOk, []) else (s, r.2, [])

/-- READ_ROWS: as many whole rows as fit. -/
def State.opReadRows (s : State) (o : DictOp) (room : Nat) : Nat × List Byte :=
  let first := fieldAt o.data 0 4
  let count := fieldAt o.data 4 2
  match findRow o.idx o.sub with
  | none => (dNoobj, [])
  | some r =>
    if r.acc = 4 then (dAccess, [])
    else if r.ty ≠ 10 ∨ o.data.length ≠ 8 then (dType, [])
    else if o.badRes ∨ fieldAt o.data 6 2 ≠ 0 then (dRes, [])
    else if count ≠ 0 ∧ (s.rows (objKey o.idx o.sub)).length < first + count then (dRows, [])
    else if count ≠ 0 ∧ s.readBusy o.idx o.sub then (dBusy, [])
    else
      let k := min count ((room / 4 * 4 - 8) / r.size)
      if room < 8 then (if count = 0 then dOk else dPart, [])
      else (if k < count then dPart else dOk,
        leBytes 4 first ++ leBytes 2 k ++ leBytes 2 r.size ++ (((s.rows (objKey o.idx o.sub)).drop first).take k).flatten)

/-- Rows of a byte string. -/
def cutTable (size : Nat) : Nat → List Byte → List (List Byte)
  | 0, _ => []
  | n + 1, b => b.take size :: cutTable size n (b.drop size)

/-- The rows of a writable table take their values. -/
def State.putRows (s : State) (key first : Nat) (rows : List (List Byte)) : State :=
  s.forAll ((List.range rows.length).zip rows) (fun s e =>
    if key = objKey 0x2441 0 then
      { s with fabric := { s.fabric with routes := Tab.set s.fabric.routes 0 (first + e.1) (BitVec.ofNat 32 (leNat e.2)) } }
    else
      { s with access := { s.access with response := Tab.set s.access.response (List.replicate 64 0) (first + e.1) e.2 } })

/-- WRITE_ROWS in a session: every row is checked before any changes (R358). -/
def State.opWriteRows (s : State) (sess : Nat) (o : DictOp) : State × Nat :=
  let key := objKey o.idx o.sub
  let first := fieldAt o.data 0 4
  let count := fieldAt o.data 4 2
  let size := fieldAt o.data 6 2
  let rows := cutTable size count (o.data.drop 8)
  if sess = 0 then (s, dSession)
  else
    match findRow o.idx o.sub with
    | none => (s, dNoobj)
    | some r =>
      let a := s.accessCode sess r key
      if a ≠ dOk then (s, a)
      else if r.ty ≠ 10 ∨ o.data.length < 8 ∨ size ≠ r.size ∨ o.data.length ≠ 8 + count * size then (s, dType)
      else if o.badRes ∨ (key = objKey 0x2441 0 ∧ rows.any (fun b => leNat b / 2 ^ 26 % 4 != 0)) then (s, dRes)
      else if count = 0 then (s, dOk)
      else if r.rows < first + count then (s, dRows)
      else if !s.started o.idx then (s, dBusy)
      else (s.putRows key first rows, dOk)

/-- DESCRIBE. -/
def State.opDescribe (s : State) (o : DictOp) (room : Nat) : Nat × List Byte :=
  match findRow o.idx o.sub with
  | none => (dNoobj, [])
  | some r =>
    if o.data ≠ [] then (dType, [])
    else if o.badRes then (dRes, [])
    else fits room (leBytes 1 r.ty ++ leBytes 1 r.acc ++ leBytes 2 0 ++ leBytes 2 r.size ++ leBytes 2 0 ++
      leBytes 4 (if r.ty = 10 then (s.rows (objKey o.idx o.sub)).length else 0))

/-- The next object in address order. -/
def nextObj (idx sub : Nat) : Option Nat :=
  ((indexBlocks.flatten).filterMap (fun r => r.after idx sub)).foldl (fun m k =>
    match m with
    | none => some k
    | some j => some (min j k)) none

/-- NEXT. -/
def opNext (o : DictOp) (room : Nat) : Nat × List Byte :=
  match nextObj o.idx o.sub with
  | none => (dNoobj, [])
  | some k =>
    if o.data ≠ [] then (dType, [])
    else if o.badRes then (dRes, [])
    else fits room (leBytes 2 (k / 256) ++ leBytes 1 (k % 256) ++ leBytes 1 0)

/-- The lowest free session slot. -/
def State.freeSession (s : State) : Option Nat := (List.range 32).find? (fun k => !(Tab.get s.mgmt.sessions {} k).isOpen)

/-- The number that an OPEN of a slot returns (R364): its opens are counted from 1 to 2²⁶ and wrap to 1. -/
def State.nextOpens (s : State) (slot : Nat) : Nat := (Tab.get s.mgmt.sessions {} slot).opens % 2 ^ 26 + 1

/-- A slot opened for a path. -/
def State.openSlot (s : State) (slot : Nat) (path : Path) : State :=
  let x : Session := { isOpen := true, opens := s.nextOpens slot, path := path, heard := s.dev.ctlCyc }
  { s with mgmt := { s.mgmt with sessions := Tab.set s.mgmt.sessions {} slot x } }

/-- OPEN. -/
def State.opOpen (s : State) (h : FrameHdr) (o : DictOp) : State × Nat :=
  if h.nops ≠ 1 ∨ h.path = .mailbox then (s, dOp)
  else if o.data ≠ [] then (s, dType)
  else if o.badRes ∨ o.idx ≠ 0 ∨ o.sub ≠ 0 then (s, dRes)
  else
    match s.freeSession with
    | some k => (s.openSlot k h.path, dOk)
    | none => (s, dOp)

/-- CLOSE and PING in a session: CLOSE takes effect after the response. -/
def opPlain (sess : Nat) (o : DictOp) : Nat :=
  if sess = 0 then dSession else if o.data ≠ [] then dType else if o.badRes then dRes else dOk

/-- One operation, with the bytes left for its data. -/
def State.doOp (s : State) (h : FrameHdr) (o : DictOp) (peer : PeerRead) (room : Nat) : OpOut :=
  match o.op with
  | 0x01 => (s, s.opRead h.session o room)
  | 0x02 => s.opWrite (s.writeCheck h.session (objKey o.idx o.sub) o.data) peer h.session o
  | 0x03 => (s, s.opReadRows o room)
  | 0x04 => let r := s.opWriteRows h.session o; (r.1, r.2, [])
  | 0x05 => (s, s.opDescribe o room)
  | 0x06 => (s, opNext o room)
  | 0x10 => let r := s.opOpen h o; (r.1, r.2, [])
  | 0x11 => (s, opPlain h.session o, [])
  | 0x12 => (s, opPlain h.session o, [])
  | _ => (s, dOp, [])

/-- The operations of a frame in order, with the response's operations (R357, R369). -/
def State.runOps (h : FrameHdr) : List DictOp → List PeerRead → Nat → Bool → State → State × List DictOp
  | [], _, _, _, s => (s, [])
  | o :: r, peers, room, skip, s =>
    let x := if skip then (s, dSkipped, []) else s.doOp h o (peers.headD {}) room
    let stop := skip || (h.ctl % 2 == 1 && x.2.1 != dOk && x.2.1 != dPart)
    let y := State.runOps h r peers.tail (room - (pad4 x.2.2).length) stop x.1
    (y.1, { o with status := x.2.1, res := 0, data := x.2.2 } :: y.2)

/-- The bytes left for data beside the headers (R363). -/
def roomOf (h : FrameHdr) : Nat :=
  let l := pathLimit h.path
  (if h.rmax = 0 then l else min h.rmax l) - 20 - 8 * h.nops

/-! ## Frames (R361, R364–R369) -/

/-- Is a session open and bound to the source (R361, R364)? -/
def State.boundTo (s : State) (n : Nat) (path : Path) : Bool :=
  match s.session n with
  | some x => if n = mailboxSession then path == .mailbox else x.path == path
  | none => false

/-- A frame heard in a session. -/
def State.hear (s : State) (n : Nat) : State :=
  match s.session n with
  | some x => s.setSession n { x with heard := s.dev.ctlCyc }
  | none => s

/-- A session's last served frame (R365). -/
def State.keep (s : State) (n seq : Nat) (b : List Byte) : State :=
  match s.session n with
  | some x => s.setSession n { x with last := seq, kept := b }
  | none => s

/-- A session closed: its slot keeps the count of its opens; the mailbox session stays. -/
def State.closeSession (s : State) (n : Nat) : State :=
  if n = mailboxSession then s else
    match s.session n with
    | some x => s.setSession n { opens := x.opens }
    | none => s

/-- The frame performed: its operations, its response, then what waits for the response (R356, R358). -/
def State.performFrame (s : State) (h : FrameHdr) (ops : List DictOp) (peers : List PeerRead) : State :=
  let udp := s.udpPort
  let slot := s.freeSession
  let x := State.runOps h ops peers (roomOf h) false s
  let opened := x.2.any (fun o => o.op == 0x10 && o.status == dOk)
  let closed := x.2.any (fun o => o.op == 0x11 && o.status == dOk)
  let sess := if opened then (slot.map (fun k => s.nextOpens k * 32 + k)).getD 0 else h.session
  let body := x.2.flatMap DictOp.bytes
  let b := { h with kind := 2, ctl := 0, session := sess, len := 20 + body.length, res := 0 }.bytes ++ body
  let s1 := (x.1.bump (objKey 0x1100 0x0C) 1).keep h.session h.seq b
  let s2 := (s1.deliver h.path udp b).afterResponse
  if closed then s2.closeSession h.session else s2

/-- Is a route usable (R372)? -/
def State.routeUsable (s : State) (h : FrameHdr) : Bool :=
  (match h.path with
    | .relayDev _ => false
    | .relayLink _ => false
    | _ => true) &&
  (if h.route < 0x4000 then s.routed h.route
   else decide (0x8000 ≤ h.route) && decide (h.route < 0x8040) && s.lnIsUp (h.route - 0x8000))

/-- The frame forwarded to its target (R373). -/
def State.relay (s : State) (h : FrameHdr) (ops : List DictOp) : State :=
  let cap := min 2016 (pathLimit h.path)
  let f := { h with route := 0xFFFF, rmax := if h.rmax = 0 then cap else min h.rmax cap }
  let b := f.bytes ++ ops.flatMap DictOp.bytes
  let x : Relay := { hdr := h }
  let s1 := { s with mgmt := { s.mgmt with relays := s.mgmt.relays ++ [x] } }
  if h.route < 0x4000 then s1.sendPkt (mgtPkt h.route b) else s1.sendPartner (h.route - 0x8000) b

/-- A frame of profile 3: the checks of Table 12.6 in order, then the relay or the operations; `ops` none where the operations do not
fill the frame. -/
def State.serveFrame (s : State) (h : FrameHdr) (ops : Option (List DictOp)) (peers : List PeerRead) : State :=
  let opens := (ops.getD []).any (fun o => o.op == 0x10)
  if !s.dictServes then s.refuseFrame h fState h.seq
  else if h.proto ≠ 3 ∨ h.kind ≠ 1 ∨ 2 ≤ h.ctl ∨ h.res ≠ 0 then s.refuseFrame h fProto h.seq
  else
    match ops with
    | none => s.refuseFrame h fLen h.seq
    | some l =>
      if h.len ≠ h.rx ∨ pathLimit h.path < h.len ∨ 64 < h.nops then s.refuseFrame h fLen h.seq
      else if h.route ≠ 0xFFFF then
        (if 2016 < h.len then s.refuseFrame h fLen h.seq
         else if !s.routeUsable h then s.refuseFrame h fRoute h.seq
         else s.relay h l)
      else if h.session = 0 then
        (if opens ∧ h.nops = 1 ∧ h.path ≠ .mailbox ∧ s.freeSession.isNone then s.refuseFrame h fFull h.seq else s.performFrame h l peers)
      else if !s.boundTo h.session h.path ∨ opens then s.refuseFrame h fSession h.seq
      else
        let s1 := s.hear h.session
        let x := (s.session h.session).getD {}
        if h.seq = (x.last + 1) % 2 ^ 32 then s1.performFrame h l peers
        else if h.seq = x.last ∧ x.kept ≠ [] then s1.deliver h.path s.udpPort x.kept
        else s1.refuseFrame h fSeq x.last

/-! ## The N40 profile (R375, R376) -/

/-- The N40 frame header. -/
def n40Hdr (nops seq len fstat : Nat) : List Byte := leBytes 1 1 ++ leBytes 1 nops ++ leBytes 2 seq ++ leBytes 2 len ++ leBytes 2 fstat

/-- N40 operations read from bytes: both res fields go into `res`. -/
def parseN40 : Nat → List Byte → Option (List DictOp)
  | 0, b => if b.isEmpty then some [] else none
  | n + 1, b =>
    let k := fieldAt b 4 2
    let w := 8 + (k + 3) / 4 * 4
    if b.length < w then none
    else (parseN40 n (b.drop w)).map (fun r =>
      { op := fieldAt b 0 1, status := fieldAt b 1 1, idx := fieldAt b 2 1, res := fieldAt b 3 1 + fieldAt b 6 2, data := (b.drop 8).take k } :: r)

/-- One N40 operation: object n is 5000 + n, sub 00; a write only to RW or WO. -/
def State.n40Op (s : State) (o : DictOp) (room : Nat) : OpOut :=
  let d := { o with idx := 0x5000 + o.idx, sub := 0 }
  let key := objKey d.idx 0
  match o.op with
  | 1 => (s, s.opRead 0 d room)
  | 2 =>
    (match findRow d.idx 0 with
      | some r => if r.acc = 3 ∨ r.acc = 4 then s.opWrite (s.valueCheck 0 key o.data) {} 0 d else (s, dAccess, [])
      | none => (s, dNoobj, []))
  | _ => (s, dOp, [])

/-- N40 operations in order. -/
def State.runN40 : List DictOp → Nat → State → State × List DictOp
  | [], _, s => (s, [])
  | o :: r, room, s =>
    let x := s.n40Op o room
    let y := State.runN40 r (room - (pad4 x.2.2).length) x.1
    (y.1, { o with status := x.2.1, res := 0, data := x.2.2 } :: y.2)

/-- A refusal of an N40 frame. -/
def State.refuseN40 (s : State) (path : Path) (seq st : Nat) : State :=
  (s.countRefusal path st 0).deliver path s.udpPort (n40Hdr 0 seq 8 st)

/-- A frame of profile 1: no session, no relay, `len` the length it states and `rx` the bytes received. -/
def State.serveN40 (s : State) (path : Path) (seq nops len rx : Nat) (ops : Option (List DictOp)) : State :=
  if !s.dictServes then s.refuseN40 path seq fState
  else
    match ops with
    | none => s.refuseN40 path seq fLen
    | some l =>
      if len ≠ rx ∨ pathLimit path < len ∨ 32 < nops then s.refuseN40 path seq fLen
      else
        let udp := s.udpPort
        let x := State.runN40 l (pathLimit path - 8 - 8 * nops) s
        let body := x.2.flatMap DictOp.n40Bytes
        ((x.1.bump (objKey 0x1100 0x0C) 1).deliver path udp (n40Hdr nops seq (8 + body.length) 0 ++ body)).afterResponse

/-! ## Frames as they come -/

/-- A frame from a path: one at the port is accepted or discarded (R355); one through the mailbox needs go and done to read 0, as a write
of go does (R347); `rx` its bytes. -/
def State.receive (s : State) (path : Path) (rx : Nat) (f : State → State) : State :=
  match path with
  | .port _ _ => if !s.portOpen ∨ rx < 20 then s.bump (objKey 0x1100 0x0D) 1 else f s
  | .mailbox =>
    if s.host.mb.go ∨ s.host.mb.done ∨ rx = 0 ∨ 2032 < rx then s.bump (objKey 0x2300 8) 1
    else f { s with host := { s.host with mb := { s.host.mb with go := true, reqLen := rx } } }
  | _ => f s

/-- A frame of profile 3 whose first operation a command names. -/
def frameOf (h : FrameHdr) (op : Nat) (o : OpArgs) (rest : List DictOp) (peers : List PeerRead) (s : State) : Out :=
  commit s (fun s =>
    let ops := { op := op, status := o.status, sub := o.sub, res := o.res, idx := o.idx, data := o.data } :: rest
    let fill := ops.length == h.nops && 20 + (ops.flatMap DictOp.bytes).length == h.len
    s.receive h.path h.rx (fun s => s.serveFrame h (if fill then some ops else none) peers))

/-- R359, R360, READ. -/
def execRead (h : FrameHdr) (o : OpArgs) (rest : List DictOp) (peers : List PeerRead) (s : State) : Out := frameOf h 0x01 o rest peers s
/-- R362, R368, WRITE; `peers` what reads of blocks on other devices give, by operation (R243). -/
def execWrite (h : FrameHdr) (o : OpArgs) (rest : List DictOp) (peers : List PeerRead) (s : State) : Out := frameOf h 0x02 o rest peers s
/-- R358, R363, READ_ROWS. -/
def execReadRows (h : FrameHdr) (o : OpArgs) (rest : List DictOp) (peers : List PeerRead) (s : State) : Out := frameOf h 0x03 o rest peers s
/-- R358, WRITE_ROWS. -/
def execWriteRows (h : FrameHdr) (o : OpArgs) (rest : List DictOp) (peers : List PeerRead) (s : State) : Out := frameOf h 0x04 o rest peers s
/-- Table 12.3, DESCRIBE. -/
def execDescribe (h : FrameHdr) (o : OpArgs) (rest : List DictOp) (peers : List PeerRead) (s : State) : Out := frameOf h 0x05 o rest peers s
/-- Table 12.3, NEXT. -/
def execNext (h : FrameHdr) (o : OpArgs) (rest : List DictOp) (peers : List PeerRead) (s : State) : Out := frameOf h 0x06 o rest peers s
/-- R364, OPEN. -/
def execOpen (h : FrameHdr) (o : OpArgs) (rest : List DictOp) (peers : List PeerRead) (s : State) : Out := frameOf h 0x10 o rest peers s
/-- R364, CLOSE. -/
def execClose (h : FrameHdr) (o : OpArgs) (rest : List DictOp) (peers : List PeerRead) (s : State) : Out := frameOf h 0x11 o rest peers s
/-- Table 12.3, PING. -/
def execPing (h : FrameHdr) (o : OpArgs) (rest : List DictOp) (peers : List PeerRead) (s : State) : Out := frameOf h 0x12 o rest peers s

/-- An N40 frame whose first operation a command names. -/
def n40Frame (path : Path) (seq op obj : Nat) (val : List Byte) (rest : List DictOp) (s : State) : Out :=
  commit s (fun s =>
    let ops := { op := op, idx := obj, data := val } :: rest
    let len := 8 + (ops.flatMap DictOp.n40Bytes).length
    match path with
    | .relayDev _ => s
    | .relayLink _ => s
    | _ => s.receive path len (fun s =>
        if s.dictServes then s.serveN40 path seq ops.length len len (some ops)
        else s.serveFrame (parseHdr path (n40Hdr ops.length seq len 0 ++ ops.flatMap DictOp.n40Bytes)) none []))

/-- R375, R376. -/
def execN40Read (path : Path) (seq obj : Nat) (rest : List DictOp) (s : State) : Out := n40Frame path seq 1 obj [] rest s
/-- R375, R376. -/
def execN40Write (path : Path) (seq obj : Nat) (val : List Byte) (rest : List DictOp) (s : State) : Out := n40Frame path seq 2 obj val rest s

/-- A frame as bytes; the mailbox hardware answers with a header of profile 3 (R347). -/
def State.serveBytes (s : State) (path : Path) (b : List Byte) (peers : List PeerRead) : State :=
  let h := parseHdr path b
  let n40 := h.proto == 1 && s.dictServes && (path == .mailbox || pathKind path == 1)
  if n40 then s.serveN40 path (fieldAt b 2 2) (fieldAt b 1 1) (fieldAt b 4 2) b.length (parseN40 (fieldAt b 1 1) (b.drop 8))
  else s.serveFrame h (parseOps h.nops (b.drop 20)) peers

/-! ## Relays (R373, R374) -/

/-- Is a relay the one whose response came back: from its target, for its session and sequence number? -/
def Relay.answeredBy (x : Relay) (l src : Nat) (r : FrameHdr) : Bool :=
  (if x.hdr.route < 0x4000 then src == x.hdr.route else src == unrouted && l + 0x8000 == x.hdr.route) &&
    (x.hdr.session == 0 || x.hdr.session == r.session) && (x.hdr.seq == r.seq || r.ctl == fSeq)

/-- The target's response returned with route restored. -/
def State.relayBack (s : State) (l src : Nat) (b : List Byte) : State :=
  let r := parseHdr .mailbox b
  match s.mgmt.relays.find? (fun x => x.answeredBy l src r) with
  | none => s
  | some x =>
    { s with mgmt := { s.mgmt with relays := s.mgmt.relays.erase x } }.deliver x.hdr.path s.udpPort
      (b.take 16 ++ leBytes 2 x.hdr.route ++ b.drop 18)

/-- R373, R374, MGT: a frame is served in a relay session, a response goes back. -/
def execMgt (l : LinkId) (p : Pkt) (peers : List PeerRead) (s : State) : Out :=
  commit s (fun s0 =>
    let s := s0.arrive l p
    let direct := p.dst == unrouted
    if !direct ∧ p.dst ≠ s.ownDev then s
    else if fieldAt p.payload 1 1 = 2 then s.relayBack l (if direct then unrouted else p.src) p.payload
    else s.serveBytes (if direct then .relayLink l else .relayDev p.src) p.payload peers)

/-- R373: no response within 1100:0B ms. -/
def execRelayTimeout (seq : Nat) (s : State) : Out :=
  commit s (fun s =>
    match s.mgmt.relays.find? (fun x => x.hdr.seq == seq) with
    | none => s
    | some x => { s with mgmt := { s.mgmt with relays := s.mgmt.relays.erase x } }.refuseFrame x.hdr fTimeout x.hdr.seq)

/-! ## Sessions and the port -/

/-- R364: a session closes after 1100:0A s with no frame. -/
def execSessionIdleTimeout (slot : Fin 32) (s : State) : Out :=
  commit s (fun s =>
    let x := Tab.get s.mgmt.sessions {} slot
    if !x.isOpen then s
    else
      let n := sessionNo slot x
      (s.closeSession n).event 0x1222 srcMgmt [(4, n), (1, pathKind x.path), (1, x.level)])

/-- R355: a datagram discarded without a response. -/
def execUdpDatagramDiscard (_cause : Nat) (s : State) : Out := commit s (fun s => s.bump (objKey 0x1100 0x0D) 1)

/-- R353: duplicate address detection has ended. -/
def execAddressDetection (duplicate : Bool) (s : State) : Out :=
  commit s (fun s =>
    if !s.dictServes ∨ s.mgmt.dadDone then s
    else if duplicate then
      (s.setObj (objKey 0x1100 0x0F) 3).event 0x1220 srcMgmt ((padBytes 6 s.mgmt.mac).map (fun b => (1, b.toNat)))
    else { s with mgmt := { s.mgmt with dadDone := true } })

/-- fe80::/64 all-nodes, where a solicitation comes from no address. -/
def allNodes : Nat := 0xFF02 * 2 ^ 112 + 1

/-- R354: a Neighbor Solicitation for the own address is answered with an advertisement (RFC 4861). -/
def execNeighborDiscovery (src : Nat) (data : List Byte) (s : State) : Out :=
  commit s (fun s =>
    let own := linkLocal s.mgmt.mac
    if !s.mgmt.dadDone ∨ s.obj (objKey 0x1100 9) = 0 ∨ fieldAt data 0 1 ≠ 135 ∨ (data.drop 8).take 16 ≠ own then s
    else
      let dst := if src = 0 then allNodes else src
      s.emit (.message 0 dst (s.icmp dst 136 0 ([if src = 0 then 0x20 else 0x60, 0, 0, 0] ++ own ++ [2, 1] ++ padBytes 6 s.mgmt.mac))))

/-- R354: an Echo Request is answered with an Echo Reply of the same identifier, number and data. -/
def execEchoRequest (src : Nat) (data : List Byte) (s : State) : Out :=
  commit s (fun s =>
    if !s.mgmt.dadDone ∨ s.obj (objKey 0x1100 9) = 0 ∨ fieldAt data 0 1 ≠ 128 then s
    else s.emit (.message 1 src (s.icmp src 129 0 (data.drop 4))))

/-! ## BAR0 (R339, R347) -/

/-- The halves of a 64-bit register that a write covers replaced. -/
def mergeReg (old : W64) (off size : Nat) (v : W64) : W64 :=
  if size = 8 then v
  else if off % 8 = 0 then BitVec.ofNat 64 (old.toNat / 2 ^ 32 * 2 ^ 32 + v.toNat % 2 ^ 32)
  else BitVec.ofNat 64 (v.toNat % 2 ^ 32 * 2 ^ 32 + old.toNat % 2 ^ 32)

/-- A queue's register block (Table 07.1). Base registers are taken while en is 0. -/
def State.writeQueueReg (s : State) (q off size : Nat) (v : W64) : State :=
  let x := s.queue q
  let free := !x.ctl.toNat.testBit 31
  match off / 8 with
  | 0 => if free then s.setQueue q { x with base := mergeReg x.base off size v &&& ~~~(0x3E : W64) } else s
  | 1 => if off % 8 ≠ 0 then s else if v.toNat.testBit 31 then s.enableQueue q v else s.queueCtlOff q v
  | 2 => if free then s.setQueue q { x with cqBase := mergeReg x.cqBase off size v &&& ~~~(0xF : W64) } else s
  | 3 => if free then s.setQueue q { x with cqCnt := mergeReg x.cqCnt off size v &&& ~~~(0x7 : W64) } else s
  | 4 => if off % 8 = 0 then s.ringDoorbell q v else s
  | _ => s

/-- An aperture's registers (Table 11.6). -/
def State.writeApReg (s : State) (a off size : Nat) (v : W64) : State :=
  let x := s.aperture a
  if off / 8 = 0 then
    (if x.en then s else s.setAperture a { x with base := BitVec.ofNat 64 ((mergeReg x.base off size v).toNat % 2 ^ 48) })
  else if off % 8 ≠ 0 then s
  else if v.toNat.testBit 31 then s.openAperture a v
  else s.closeAperture a v

/-- A host pool region's registers (Table 11.7). -/
def State.writePoolReg (s : State) (r off size : Nat) (v : W64) : State :=
  let x := s.region r
  if off / 8 = 0 then
    (if x.state = 0 then s.setHostRegion r { x with base := BitVec.ofNat 64 ((mergeReg x.base off size v).toNat / 2 ^ 16 * 2 ^ 16) } else s)
  else if off ≠ 8 then s
  else if v.toNat.testBit 31 then s.lend r v
  else s.revoke r v

/-- mb_ctl (R347). -/
def State.writeMbCtl (s : State) (off : Nat) (v : W64) (peers : List PeerRead) : State :=
  let m := s.host.mb
  let n := v.toNat % 2 ^ 11
  if m.go then s.bump (objKey 0x2300 8) 1
  else if off % 8 ≠ 0 then s
  else if !v.toNat.testBit 31 then
    { s with host := { s.host with mb := { m with reqLen := n, done := m.done && !v.toNat.testBit 30 } } }
  else s.receive .mailbox n (fun s => s.serveBytes .mailbox (Tab.readBytes m.req 0 n) peers)

/-- R339: a BAR0 write: misaligned or of another size it is counted; offsets that Table 11.4 does not list ignore it. -/
def State.writeBar0 (s : State) (off size : Nat) (v : W64) (peers : List PeerRead) : State :=
  if (size ≠ 4 ∧ size ≠ 8) ∨ off % size ≠ 0 then s.bump (objKey 0x2300 8) 1
  else if off < 0x100000 then (if off % 0x1000 < 0x40 then s.writeQueueReg (off / 0x1000) (off % 0x1000) size v else s)
  else if 0x101000 ≤ off ∧ off < 0x101080 then s.writeApReg ((off - 0x101000) / 16) (off % 16) size v
  else if 0x110000 ≤ off ∧ off < 0x110800 then
    { s with host := { s.host with mb := { s.host.mb with req := Tab.writeBytes s.host.mb.req (off - 0x110000) (leBytes size v.toNat) } } }
  else if off / 8 * 8 = 0x110FF0 then s.writeMbCtl off v peers
  else if 0x200000 ≤ off ∧ off < 0x200800 then s.writePoolReg ((off - 0x200000) / 32) (off % 32) size v
  else s

/-- The 64-bit register that a BAR0 read meets (Tables 07.1, 11.4–11.8): a res field reads 0, and so does what only a write reaches. -/
def State.bar0Reg (s : State) (off : Nat) : Nat :=
  if off < 0x100000 then
    let x := s.queue (off / 0x1000)
    (match off % 0x1000 / 8 with
      | 0 => x.base.toNat
      | 1 => x.ctl.toNat &&& 0x801F0300
      | 2 => x.cqBase.toNat
      | 3 => x.cqCnt.toNat
      | 5 => x.c % 2 ^ 32 * 2 ^ 32 + x.halt * 2 ^ 16 + x.state
      | _ => 0)
  else if off / 8 * 8 = 0x100000 then s.flash.boot % 2 ^ 32 * 2 ^ 32 + s.devState
  else if off / 8 * 8 = 0x100008 then s.dev.ctlCyc % 2 ^ 64
  else if 0x101000 ≤ off ∧ off < 0x101080 then
    let x := s.aperture ((off - 0x101000) / 16)
    if off / 8 % 2 = 0 then x.base.toNat else x.ctl.toNat &&& 0xC0003FFF
  else if 0x110800 ≤ off ∧ off < 0x110FF0 then leNat (Tab.readBytes s.host.mb.rsp (off / 8 * 8 - 0x110800) 8)
  else if off / 8 * 8 = 0x110FF0 then
    s.host.mb.reqLen + (if s.host.mb.done then 2 ^ 30 else 0) + (if s.host.mb.go then 2 ^ 31 else 0)
  else if off / 8 * 8 = 0x110FF8 then s.host.mb.rspLen
  else if 0x200000 ≤ off ∧ off < 0x200800 then
    let x := s.region ((off - 0x200000) / 32)
    (match off % 32 / 8 with
      | 0 => x.base.toNat
      | 1 => x.slots + (if x.state = 1 then 2 ^ 31 else 0)
      | 2 => x.used.length % 2 ^ 24 * 2 ^ 16 + x.state
      | _ => 0)
  else 0

/-- R339: a BAR0 read of 4 or 8 aligned bytes; any other reads 0 and is counted. -/
def State.readBar0 (s : State) (off size : Nat) : State :=
  if (size ≠ 4 ∧ size ≠ 8) ∨ off % size ≠ 0 then (s.bump (objKey 0x2300 8) 1).emit (.completion 0 (leBytes size 0))
  else s.emit (.completion 0 (leBytes size (s.bar0Reg off / 2 ^ (8 * (off % 8)))))

/-- R338, R339: a write, or a read where there is no value. DESIGN CHOICE: the row carries the reads too, which have none of their own. With
memory space off a read ends as an unsupported request (R336). -/
def execRegisterWrite (offset size : Nat) (v : Option W64) (peers : List PeerRead) (s : State) : Out :=
  commit s (fun s =>
    match v with
    | some v => if s.barOpen then s.inOrder offset size v peers (fun s => s.writeBar0 offset size v peers) else s
    | none => if s.barOpen then s.inOrder offset size none [] (fun s => s.readBar0 offset size) else s.emit (.completion 1 []))

/-- The host's accesses that wait tried again in their order (R338). -/
def State.pumpPosted (s : State) : State :=
  let l := s.host.posted
  ({ s with host := { s.host with posted := [] } } : State).forAll l (fun s x =>
    match x with
    | .bar2 offset n data ep => s.meetBar2 offset n data ep [] []
    | .reg off size (some v) peers => s.inOrder off size v peers (fun s => s.writeBar0 off size v peers)
    | .reg off size none _ => s.inOrder off size none [] (fun s => s.readBar0 off size))

/-- R142, R147, R170–R173: a local miss's data returns; the host's accesses that waited for its line go on. -/
def execFillReturn (col : ColId) (line : Nat) (bad : List BadBytes) (s : State) : Out := commit s (fun s => (s.fillReturn col line bad).pumpPosted)

/-- R188: a block's read completes, with its data or in error; the host's accesses that waited for its page go on. -/
def execReturnBlockRead (page block : Nat) (data : Option (List Byte)) (s : State) : Out :=
  commit s (fun s => (s.returnBlock page block data).pumpPosted)

/-- R169, R191: a migration's copy is done up to a block; the host's writes that waited for it go on. -/
def execMigrationCopyDone (x : CopyIn) (s : State) : Out :=
  commit s (fun s => (s.copyDone x.page x.block x.bad x.deck).pumpPosted)

end Machine

end Sys2Proof
end

