-- ==== Sys2Proof/Machine/Rebuild.lean ====
section
/-! DEFINITION. The end of a book rebuild in SERVICE (R144, R193, R227, R265, R403). -/

namespace Sys2Proof.Machine

/-- Frames of a pool between states: destinations of migrations and returns, slots of off-loads. -/
def State.inflightOf (s : State) (i : Nat) : Nat :=
  let frames (page : Nat) : Nat := ((s.pageAt page).map Page.frames).getD 0
  let migs := (s.keeper.migs.filter (fun m => !m.switched && poolOf m.loc == i)).foldl (fun n m => n + frames m.page) 0
  let rets := (s.keeper.rets.filter (fun r => poolOf r.loc == i)).foldl (fun n r => n + frames r.page) 0
  let offs := if i = 3 then s.keeper.offs.foldl (fun n o => n + o.slots.length) 0 else 0
  migs + rets + offs

/-- R193: a pool's books from a walk of every leaf. -/
def State.rebuildPool (s : State) (i : Nat) : State :=
  let a := s.mapped i
  let f := s.inflightOf i
  s.modPool i (fun p => { p with free := p.total - a - f, allocated := a, inflight := f })

/-- R144: a column's MSHR pool from its open MSHRs; its misses go on. -/
def State.rebuildMshrs (s : State) (c : Nat) : State := s.modCol c (fun k => { k with freeMshr := 64 - k.mshrs.length, held := false })

/-- R227: the books from the cores' thread states and the slots. -/
def State.rebuildSched (s : State) : State :=
  let s1 := { s with
    cores := s.cores.map (fun (e : Nat × Core) => (e.1, { e.2 with threads := e.2.threads.filter (fun t => decide (t.1 < 16)) }))
    sched := { s.sched with freeSlots := 4096 - s.slotsUsed } }
  (s1.setObj oSlots s1.slotsUsed).setObj oCtxs s1.sched.ctxs.length

/-- R265: an engine's buffers from the contributions that it holds. -/
def State.rebuildBufs (s : State) (e : Nat) : State :=
  let n := (s.pass.reds.filter (fun (r : Reduction) => s.engineOf r.layer == e)).foldl (fun n r => n + r.held.length) 0
  s.setEngine e { s.engine e with held := n, free := 1024 - n }

/-- R403: a rebuild that is in progress finishes. -/
def State.finishRebuild (s : State) (b : Rebuild) : State :=
  let chg := match b with
    | .mshr c => chgMshr c
    | .frames i => chgFrames i
    | .sched => chgSched
    | .pass e => chgBufs e
  if !s.dev.changes.elem chg then s
  else
    let s1 := match b with
      | .mshr c => s.rebuildMshrs c
      | .frames i => s.rebuildPool i
      | .sched => s.rebuildSched
      | .pass e => s.rebuildBufs e
    (s1.endService chg).pumpKeeps

/-- R144, R193, R227, R265, R403. -/
def execBookRebuildComplete (book : Rebuild) (s : State) : Out := commit s (fun s => s.finishRebuild book)

end Sys2Proof.Machine
end

