-- ==== Sys2Proof/Machine/Spdm.lean ====
section
/-! DEFINITION. DOE Discovery, SPDM 1.2 on the DOE mailbox and attestation (R348, R447, R448; Tables 15.4–15.6). The message formats are
those of DMTF DSP0274 1.2 and of the DOE definition of the PCI Express base specification, which the spec names and does not repeat. -/

namespace Sys2Proof.Machine

/-! ## Data objects -/

/-- A data object sent: PCI-SIG vendor ID, type, length in dwords, payload. -/
def State.sendDoe (s : State) (type : Nat) (b : List Byte) : State :=
  s.emit (.doe (leBytes 2 1 ++ leBytes 1 type ++ leBytes 1 0 ++ leBytes 4 ((8 + (pad4 b).length) / 4) ++ pad4 b))

/-- R348: an entry of DOE Discovery: type 0 discovery, then type 1 CMA/SPDM; another index names no type. -/
def discoveryEntry (i : Nat) : List Byte :=
  if i = 0 then leBytes 2 1 ++ [0, 1] else if i = 1 then leBytes 2 1 ++ [1, 0] else leBytes 2 0xFFFF ++ [0xFF, 0]

/-- R348; `req` is the request's payload. -/
def execDoeDiscovery (req : List Byte) (s : State) : Out :=
  commit s (fun s => if s.host.up then s.sendDoe 0 (discoveryEntry (fieldAt req 0 1)) else s)

/-! ## Measurements (Table 15.5) -/

/-- The set whose image of an ID runs: the staged one's once its role, all engines or image 5 have switched (R396, R401). -/
def State.imageSet (s : State) (id : Nat) : FwSet :=
  let new_ := match s.dev.act with
    | some a => if id < 4 then a.handed.elem id else if id = 4 then a.updated.length == 8 else id == 5 && a.image5
    | none => false
  if new_ then (s.fwSlot s.otherSlot).set else s.dev.running

/-- SHA-384 of the running slot's manifest. -/
def State.manifestHash (s : State) : List Byte := Config.sha384 (s.dev.running.signed ++ s.dev.running.edsig ++ s.dev.running.mlsig)

/-- Index 11: the lock state. -/
def State.lockState (s : State) : Nat :=
  s.obj (objKey 0x2900 0x0B) + 2 * s.obj (objKey 0x2900 0x0C) + (if s.flash.owner.state = 1 then 4 else 0) + (if s.obj oScopes = 0 then 0 else 8)

/-- SHA-384 of the running image of an ID. -/
def State.imageHash (s : State) (id : Nat) : List Byte := Config.sha384 ((s.imageSet id).image id).bytes

/-- The value of a measurement. -/
def State.measured (s : State) (i : Nat) : List Byte :=
  if i = 1 then padBytes 48 Config.romMeasurement
  else if i = 2 then s.manifestHash
  else if i ≤ 10 then s.imageHash (i - 3)
  else leBytes 4 s.lockState

/-- A measurement block in the DMTF format: index 1 immutable ROM, 2 a manifest, 3–10 mutable firmware, 11 raw firmware configuration. -/
def State.measureBlock (s : State) (i : Nat) : List Byte :=
  let v := s.measured i
  let ty := if i = 1 then 0 else if i = 2 then 4 else if i ≤ 10 then 1 else 0x83
  leBytes 1 i ++ [1] ++ leBytes 2 (3 + v.length) ++ leBytes 1 ty ++ leBytes 2 v.length ++ v

/-! ## SPDM -/

/-- The size of a DOE data object's payload. -/
def spdmMost : Nat := 4088

/-- CERT_CAP, CHAL_CAP and MEAS_CAP with signatures (R447). -/
def spdmCaps : Nat := 0x16

/-- The connection state and transcripts changed. -/
def State.setSpdm (s : State) (st : Nat) (a b l : List Byte) : State := { s with access := { s.access with spdm := st, spdmA := a, spdmB := b, spdmL := l } }

/-- An ERROR response: code and data. -/
def spdmError (code data : Nat) : List Byte := [0x12, 0x7F] ++ leBytes 1 code ++ leBytes 1 data

def eInvalid : List Byte := spdmError 0x01 0
def eUnexpected : List Byte := spdmError 0x04 0
def eVersion : List Byte := spdmError 0x41 0
def eUnsupported (code : Nat) : List Byte := spdmError 0x07 code

/-- The bytes that a signature of SPDM 1.2 covers: the combined prefix of 100 bytes with its context, then the transcript's hash. -/
def spdmToSign (context : String) (m : List Byte) : List Byte :=
  let c := ascii context
  ascii "dmtf-spdm-v1.2.*dmtf-spdm-v1.2.*dmtf-spdm-v1.2.*dmtf-spdm-v1.2.*" ++ List.replicate (36 - c.length) 0 ++ c ++ Config.sha384 m

/-- A request whose answer runs once the control cores do (R396: the connection is C0's); the code must be the command's. -/
def spdmCommand (code : Nat) (req : List Byte) (f : State → State × List Byte) (s : State) : Out :=
  commit s (fun s =>
    if !s.host.up ∨ !s.dictServes ∨ fieldAt req 1 1 ≠ code then s
    else
      let x := f s
      x.1.sendDoe 1 x.2)

/-- What comes after the algorithms are negotiated: version 1.2 and the connection in place. -/
def inSession (req : List Byte) (f : State → State × List Byte) (s : State) : State × List Byte :=
  if fieldAt req 0 1 ≠ 0x12 then (s, eVersion) else if s.access.spdm < 3 then (s, eUnexpected) else f s

/-- R447: a new connection: the version list holds 1.2. -/
def State.spdmVersion (req : List Byte) (s : State) : State × List Byte :=
  if fieldAt req 0 1 ≠ 0x10 then (s, eVersion)
  else
    let r := [0x10, 0x04, 0, 0, 0, 1] ++ leBytes 2 0x1200
    (s.setSpdm 1 (req ++ r) [] [], r)

def execGetVersion (req : List Byte) (s : State) : Out := spdmCommand 0x84 req (fun s => s.spdmVersion req) s

/-- R447: the capabilities; the response time exponent is open. -/
def State.spdmCapabilities (req : List Byte) (s : State) : State × List Byte :=
  if fieldAt req 0 1 ≠ 0x12 then (s, eVersion)
  else if s.access.spdm ≠ 1 then (s, eUnexpected)
  else
    let r := [0x12, 0x61, 0, 0, 0] ++ leBytes 1 (Config.freeFn 0x447 []) ++ leBytes 2 0 ++ leBytes 4 spdmCaps ++ leBytes 4 spdmMost ++ leBytes 4 spdmMost
    (s.setSpdm 2 (s.access.spdmA ++ req ++ r) [] [], r)

def execGetCapabilities (req : List Byte) (s : State) : Out := spdmCommand 0xE1 req (fun s => s.spdmCapabilities req) s

/-- R447: Ed25519, SHA-384 and the DMTF measurement specification must be among those offered. -/
def State.spdmAlgorithms (req : List Byte) (s : State) : State × List Byte :=
  if fieldAt req 0 1 ≠ 0x12 then (s, eVersion)
  else if s.access.spdm ≠ 2 then (s, eUnexpected)
  else if !(fieldAt req 6 1).testBit 0 ∨ !(fieldAt req 8 4).testBit 10 ∨ !(fieldAt req 12 4).testBit 1 then (s, eInvalid)
  else
    let r := [0x12, 0x63, 0, 0] ++ leBytes 2 36 ++ [1, 0] ++ leBytes 4 4 ++ leBytes 4 0x400 ++ leBytes 4 2 ++ List.replicate 16 0
    (s.setSpdm 3 (s.access.spdmA ++ req ++ r) [] [], r)

def execNegotiateAlgorithms (req : List Byte) (s : State) : Out := spdmCommand 0xE3 req (fun s => s.spdmAlgorithms req) s

/-- An exchange that CHALLENGE covers. -/
def State.noteB (s : State) (req r : List Byte) : State × List Byte :=
  (s.setSpdm 3 s.access.spdmA (s.access.spdmB ++ req ++ r) [], r)

/-- R447: slot 0 holds the Ed25519 chain. -/
def State.spdmDigests (req : List Byte) : State → State × List Byte :=
  inSession req (fun s => s.noteB req ([0x12, 0x01, 0, 1] ++ padBytes 48 (Config.sha384 Config.edChain)))

def execGetDigests (req : List Byte) (s : State) : Out := spdmCommand 0x81 req (fun s => s.spdmDigests req) s

/-- R447: a part of the chain of slot 0. -/
def State.spdmCertificate (req : List Byte) : State → State × List Byte :=
  inSession req (fun s =>
    let off := fieldAt req 4 2
    let n := Config.edChain.length
    let k := min (min (fieldAt req 6 2) (n - off)) (spdmMost - 8)
    if fieldAt req 2 1 ≠ 0 ∨ n ≤ off then (s, eInvalid)
    else s.noteB req ([0x12, 0x02, 0, 0] ++ leBytes 2 k ++ leBytes 2 (n - off - k) ++ (Config.edChain.drop off).take k))

def execGetCertificate (req : List Byte) (s : State) : Out := spdmCommand 0x82 req (fun s => s.spdmCertificate req) s

/-- All measurement blocks. -/
def State.allBlocks (s : State) : List Byte := (List.range 11).flatMap (fun i => s.measureBlock (i + 1))

/-- R447: signed by the Ed25519 identity over the connection's transcript. -/
def State.spdmChallenge (req : List Byte) : State → State × List Byte :=
  inSession req (fun s =>
    if fieldAt req 2 1 ≠ 0 ∨ req.length < 36 then (s, eInvalid)
    else
      let sum := if fieldAt req 3 1 = 0 then [] else padBytes 48 (Config.sha384 s.allBlocks)
      let r := [0x12, 0x03, 0, 1] ++ padBytes 48 (Config.sha384 Config.edChain) ++ s.random 32 ++ sum ++ leBytes 2 0
      let sig := padBytes 64 (Config.edSign (spdmToSign "responder-challenge_auth signing" (s.access.spdmA ++ s.access.spdmB ++ req ++ r)))
      ({ s with fresh := s.fresh + 1 }.setSpdm 3 s.access.spdmA [] [], r ++ sig))

def execChallenge (req : List Byte) (s : State) : Out := spdmCommand 0x83 req (fun s => s.spdmChallenge req) s

/-- R447: the number of indices, one of Table 15.5 or all, signed on request. -/
def State.spdmMeasurements (req : List Byte) : State → State × List Byte :=
  inSession req (fun s =>
    let op := fieldAt req 3 1
    let signed := fieldAt req 2 1 % 2 == 1
    let one := decide (1 ≤ op) && decide (op ≤ 11)
    if (op ≠ 0 ∧ op ≠ 0xFF ∧ !one) ∨ (signed ∧ (req.length < 37 ∨ fieldAt req 36 1 % 16 ≠ 0)) then (s, eInvalid)
    else
      let rec_ := if op = 0 then [] else if one then s.measureBlock op else s.allBlocks
      let r := [0x12, 0x60] ++ leBytes 1 (if op = 0 then 11 else 0) ++ [0] ++ leBytes 1 (if op = 0 then 0 else if one then 1 else 11) ++
        leBytes 3 rec_.length ++ rec_ ++ s.random 32 ++ leBytes 2 0
      let l := s.access.spdmL ++ req ++ r
      let s1 := { s with fresh := s.fresh + 1 }
      if signed then
        (s1.setSpdm 3 s.access.spdmA s.access.spdmB [],
          r ++ padBytes 64 (Config.edSign (spdmToSign "responder-measurements signing" (s.access.spdmA ++ l))))
      else (s1.setSpdm 3 s.access.spdmA s.access.spdmB l, r))

def execGetMeasurements (req : List Byte) (s : State) : Out := spdmCommand 0xE0 req (fun s => s.spdmMeasurements req) s

/-! ## Vendor-defined requests (R448) -/

/-- Is a vendor-defined request Padobel's: StandardID 3, VendorID 0x1FD4? -/
def isPadobel (req : List Byte) : Bool := fieldAt req 4 2 == 3 && fieldAt req 6 1 == 2 && fieldAt req 7 2 == 0x1FD4

/-- The bytes of a vendor-defined request, op first. -/
def vendorBody (req : List Byte) : List Byte := (req.drop 11).take (fieldAt req 9 2)

/-- A vendor-defined response. -/
def vendorAnswer (b : List Byte) : List Byte := [0x12, 0x7E, 0, 0] ++ leBytes 2 3 ++ [2] ++ leBytes 2 0x1FD4 ++ leBytes 2 b.length ++ b

/-- Bytes 0 to 503 of the evidence block (Table 15.6). -/
def State.evidenceHead (s : State) (nonce : List Byte) : List Byte :=
  leBytes 2 1 ++ leBytes 2 0 ++ leBytes 4 s.flash.boot ++ padBytes 32 nonce ++ serial ++ leBytes 1 stepping ++ leBytes 1 s.dev.running.determ ++
    leBytes 2 0 ++ leBytes 4 s.lockState ++ leBytes 4 s.dev.running.secver ++ leBytes 4 s.dev.running.setver ++ padBytes 48 s.manifestHash ++
    (List.range 8).flatMap (fun i => padBytes 48 (s.imageHash i))

/-- The evidence block: signed by both identities. -/
def State.evidenceBlock (s : State) (nonce : List Byte) : List Byte :=
  let h := s.evidenceHead nonce
  let d := Config.sha384 (ascii "BXZ-EVIDENCE-V01" ++ h)
  h ++ padBytes 64 (Config.edSign d) ++ padBytes 3309 (Config.mlSign d)

/-- A part of the ML-DSA-65 chain. -/
def chainPart (off n : Nat) : List Byte := leBytes 2 Config.mlChain.length ++ (Config.mlChain.drop off).take (min n 3072)

/-- A vendor-defined request answered by its op. -/
def State.spdmVendor (req : List Byte) : State → State × List Byte :=
  inSession req (fun s =>
    let b := vendorBody req
    if !isPadobel req then (s, eUnsupported 0xFE)
    else if fieldAt b 0 1 = 1 ∧ b.length = 33 then (s, vendorAnswer (s.evidenceBlock (b.drop 1)))
    else if fieldAt b 0 1 = 2 ∧ b.length = 5 ∧ fieldAt b 1 2 ≤ Config.mlChain.length then
      (s, vendorAnswer (chainPart (fieldAt b 1 2) (fieldAt b 3 2)))
    else (s, eInvalid))

/-- R448, op 0x01. -/
def execEvidence (req : List Byte) (s : State) : Out :=
  if fieldAt (vendorBody req) 0 1 = 1 then spdmCommand 0xFE req (fun s => s.spdmVendor req) s else commit s (fun s => s)

/-- R448, op 0x02. -/
def execPostQuantumChain (req : List Byte) (s : State) : Out :=
  if fieldAt (vendorBody req) 0 1 = 2 then spdmCommand 0xFE req (fun s => s.spdmVendor req) s else commit s (fun s => s)

/-- The requests of Table 15.4. -/
def spdmListed : List Nat := [0x84, 0xE1, 0xE3, 0x81, 0x82, 0x83, 0xE0, 0xFE]

/-- R447, R448: any other request; another vendor-defined request or op. -/
def execSpdmUnsupportedRequest (req : List Byte) (s : State) : Out :=
  let code := fieldAt req 1 1
  let op := fieldAt (vendorBody req) 0 1
  if code = 0xFE ∧ op ≠ 1 ∧ op ≠ 2 then spdmCommand 0xFE req (fun s => s.spdmVendor req) s
  else if spdmListed.elem code then commit s (fun s => s)
  else spdmCommand code req (fun s => (s, eUnsupported code)) s

end Sys2Proof.Machine
end

