-- ==== Sys2Proof/Machine/Dispatch.lean ====
section
/-! DEFINITION. The dispatch: one arm per command, each one call of its meaning. -/

namespace Sys2Proof.Machine

/-- The effect of a command on everything but the queue. -/
def exec (i : Instr) (s : State) : Host.Outcome State Fault Refusal :=
  match i with
  | .hostTimeMarkWrite sess v => Sys2Proof.Machine.execHostTimeMarkWrite sess v s
  | .heartbeat k => Sys2Proof.Machine.execHeartbeat k s
  | .controlCoreSilent k => Sys2Proof.Machine.execControlCoreSilent k s
  | .clearSlotWrite sess v => Sys2Proof.Machine.execClearSlotWrite sess v s
  | .iMma c t f errs => Sys2Proof.Machine.execMma c t f errs s
  | .iMmaS2 c t f errs => Sys2Proof.Machine.execMmaS2 c t f errs s
  | .mmaComplete c x => Sys2Proof.Machine.execMmaComplete c x s
  | .iWtld c t f errs => Sys2Proof.Machine.execWtld c t f errs s
  | .iDrain c t f errs => Sys2Proof.Machine.execDrain c t f errs s
  | .drainExecute c parity errs => Sys2Proof.Machine.execDrainExecute c parity errs s
  | .iSpill c t f => Sys2Proof.Machine.execSpill c t f s
  | .spillExecute c parity errs => Sys2Proof.Machine.execSpillExecute c parity errs s
  | .iMcfg c t f => Sys2Proof.Machine.execMcfg c t f s
  | .sideSumComplete c x => Sys2Proof.Machine.execSideSumComplete c x s
  | .iTkInit c t f => Sys2Proof.Machine.execTkInit c t f s
  | .iTkIns c t f parity => Sys2Proof.Machine.execTkIns c t f parity s
  | .iTkMrg c t f => Sys2Proof.Machine.execTkMrg c t f s
  | .tkMrgExecute c parity errs => Sys2Proof.Machine.execTkMrgExecute c parity errs s
  | .iTkOut c t f parity => Sys2Proof.Machine.execTkOut c t f parity s
  | .iArrClaim c t f => Sys2Proof.Machine.execArrClaim c t f s
  | .claimGrant c => Sys2Proof.Machine.execClaimGrant c s
  | .iArrRel c t f => Sys2Proof.Machine.execArrRel c t f s
  | .iArrSync c t f => Sys2Proof.Machine.execArrSync c t f s
  | .iSdl c t f errs => Sys2Proof.Machine.execSdl c t f errs s
  | .iNop c t f => Sys2Proof.Machine.execNop c t f s
  | .iEnd c t f => Sys2Proof.Machine.execEnd c t f s
  | .endComplete c t => Sys2Proof.Machine.execEndComplete c t s
  | .iYield c t f => Sys2Proof.Machine.execYield c t f s
  | .iFence c t f => Sys2Proof.Machine.execFence c t f s
  | .iCsrr c t f => Sys2Proof.Machine.execCsrr c t f s
  | .iCsrw c t f => Sys2Proof.Machine.execCsrw c t f s
  | .iWtw c t f errs => Sys2Proof.Machine.execWtw c t f errs s
  | .wtwReread c t => Sys2Proof.Machine.execWtwReread c t s
  | .iAdd c t f => Sys2Proof.Machine.execAdd c t f s
  | .iSub c t f => Sys2Proof.Machine.execSub c t f s
  | .iMul c t f => Sys2Proof.Machine.execMul c t f s
  | .iMulh c t f => Sys2Proof.Machine.execMulh c t f s
  | .iAnd c t f => Sys2Proof.Machine.execAnd c t f s
  | .iOr c t f => Sys2Proof.Machine.execOr c t f s
  | .iXor c t f => Sys2Proof.Machine.execXor c t f s
  | .iShl c t f => Sys2Proof.Machine.execShl c t f s
  | .iShr c t f => Sys2Proof.Machine.execShr c t f s
  | .iSar c t f => Sys2Proof.Machine.execSar c t f s
  | .iMin c t f => Sys2Proof.Machine.execMin c t f s
  | .iMax c t f => Sys2Proof.Machine.execMax c t f s
  | .iMinu c t f => Sys2Proof.Machine.execMinu c t f s
  | .iMaxu c t f => Sys2Proof.Machine.execMaxu c t f s
  | .iCmp c t f => Sys2Proof.Machine.execCmp c t f s
  | .iAddi c t f => Sys2Proof.Machine.execAddi c t f s
  | .iAndi c t f => Sys2Proof.Machine.execAndi c t f s
  | .iOri c t f => Sys2Proof.Machine.execOri c t f s
  | .iXori c t f => Sys2Proof.Machine.execXori c t f s
  | .iShli c t f => Sys2Proof.Machine.execShli c t f s
  | .iShri c t f => Sys2Proof.Machine.execShri c t f s
  | .iSari c t f => Sys2Proof.Machine.execSari c t f s
  | .iLi c t f => Sys2Proof.Machine.execLi c t f s
  | .iLih c t f => Sys2Proof.Machine.execLih c t f s
  | .iCmpi c t f => Sys2Proof.Machine.execCmpi c t f s
  | .iBr c t f => Sys2Proof.Machine.execBr c t f s
  | .iBrl c t f => Sys2Proof.Machine.execBrl c t f s
  | .iJr c t f => Sys2Proof.Machine.execJr c t f s
  | .iLds c t f errs => Sys2Proof.Machine.execLds c t f errs s
  | .iSts c t f => Sys2Proof.Machine.execSts c t f s
  | .iAmo c t f errs => Sys2Proof.Machine.execAmo c t f errs s
  | .iLdf c t f => Sys2Proof.Machine.execLdf c t f s
  | .iStf c t f => Sys2Proof.Machine.execStf c t f s
  | .iAmof c t f => Sys2Proof.Machine.execAmof c t f s
  | .iVadd c t f => Sys2Proof.Machine.execVadd c t f s
  | .iVsub c t f => Sys2Proof.Machine.execVsub c t f s
  | .iVmul c t f => Sys2Proof.Machine.execVmul c t f s
  | .iVfma c t f => Sys2Proof.Machine.execVfma c t f s
  | .iVmin c t f => Sys2Proof.Machine.execVmin c t f s
  | .iVmax c t f => Sys2Proof.Machine.execVmax c t f s
  | .iVabs c t f => Sys2Proof.Machine.execVabs c t f s
  | .iVneg c t f => Sys2Proof.Machine.execVneg c t f s
  | .iVdiv c t f => Sys2Proof.Machine.execVdiv c t f s
  | .iVsqrt c t f => Sys2Proof.Machine.execVsqrt c t f s
  | .iVrcp c t f => Sys2Proof.Machine.execVrcp c t f s
  | .iVrsq c t f => Sys2Proof.Machine.execVrsq c t f s
  | .iVexp2 c t f => Sys2Proof.Machine.execVexp2 c t f s
  | .iVlog2 c t f => Sys2Proof.Machine.execVlog2 c t f s
  | .iVcmp c t f => Sys2Proof.Machine.execVcmp c t f s
  | .iVsel c t f => Sys2Proof.Machine.execVsel c t f s
  | .iVcvt c t f => Sys2Proof.Machine.execVcvt c t f s
  | .iVred c t f => Sys2Proof.Machine.execVred c t f s
  | .iVbc c t f => Sys2Proof.Machine.execVbc c t f s
  | .iVext c t f => Sys2Proof.Machine.execVext c t f s
  | .iVand c t f => Sys2Proof.Machine.execVand c t f s
  | .iVor c t f => Sys2Proof.Machine.execVor c t f s
  | .iVxor c t f => Sys2Proof.Machine.execVxor c t f s
  | .iVshl c t f => Sys2Proof.Machine.execVshl c t f s
  | .iVshr c t f => Sys2Proof.Machine.execVshr c t f s
  | .iPop c t f => Sys2Proof.Machine.execPop c t f s
  | .iVld c t f errs => Sys2Proof.Machine.execVld c t f errs s
  | .iVst c t f => Sys2Proof.Machine.execVst c t f s
  | .iVldf c t f => Sys2Proof.Machine.execVldf c t f s
  | .iVstf c t f => Sys2Proof.Machine.execVstf c t f s
  | .iPf c t f => Sys2Proof.Machine.execPf c t f s
  | .iDead c t f => Sys2Proof.Machine.execDead c t f s
  | .iStGo c t f errs => Sys2Proof.Machine.execStGo c t f errs s
  | .iStWait c t f => Sys2Proof.Machine.execStWait c t f s
  | .iStPoll c t f => Sys2Proof.Machine.execStPoll c t f s
  | .streamRead c e x => Sys2Proof.Machine.execStreamRead c e x s
  | .streamWrite c e x => Sys2Proof.Machine.execStreamWrite c e x s
  | .streamGather c e peer x => Sys2Proof.Machine.execStreamGather c e peer x s
  | .streamCopy c e errs => Sys2Proof.Machine.execStreamCopy c e errs s
  | .streamDescriptorComplete c e => Sys2Proof.Machine.execStreamDescriptorComplete c e s
  | .streamTransferFault c e code => Sys2Proof.Machine.execStreamTransferFault c e code s
  | .threadWake c t => Sys2Proof.Machine.execThreadWake c t s
  | .threadPreempt c => Sys2Proof.Machine.execThreadPreempt c s
  | .allParkedSignal c => Sys2Proof.Machine.execAllParkedSignal c s
  | .farSlotGrant c => Sys2Proof.Machine.execFarSlotGrant c s
  | .farLoadReturn c id => Sys2Proof.Machine.execFarLoadReturn c id s
  | .farStoreAck c id => Sys2Proof.Machine.execFarStoreAck c id s
  | .homeRead c id parity deck => Sys2Proof.Machine.execHomeRead c id parity deck s
  | .homeWrite c x => Sys2Proof.Machine.execHomeWrite c x s
  | .homeAtomic c id deck => Sys2Proof.Machine.execHomeAtomic c id deck s
  | .fillReturn col line bad => Sys2Proof.Machine.execFillReturn col line bad s
  | .missRetry col => Sys2Proof.Machine.execMissRetry col s
  | .deadHint c ctx addr size => Sys2Proof.Machine.execDeadHint c ctx addr size s
  | .pfHint c ctx addr size => Sys2Proof.Machine.execPfHint c ctx addr size s
  | .staleLineSweep => Sys2Proof.Machine.execStaleLineSweep s
  | .pinQuotaWrite sess v => Sys2Proof.Machine.execPinQuotaWrite sess v s
  | .evalReservationWrite sess v => Sys2Proof.Machine.execEvalReservationWrite sess v s
  | .ledgerReservationWrite sess v => Sys2Proof.Machine.execLedgerReservationWrite sess v s
  | .thrashWindowEnd col => Sys2Proof.Machine.execThrashWindowEnd col s
  | .bankMapOutRequestWrite sess tier v => Sys2Proof.Machine.execBankMapOutRequestWrite sess tier v s
  | .bankRoleChange col tier bank role => Sys2Proof.Machine.execBankRoleChange col tier bank role s
  | .bankDrainDone col tier bank moves => Sys2Proof.Machine.execBankDrainDone col tier bank moves s
  | .hotBankReview spots homes => Sys2Proof.Machine.execHotBankReview spots homes s
  | .translationWalkComplete c x => Sys2Proof.Machine.execTranslationWalkComplete c x s
  | .patrolRead addr bad => Sys2Proof.Machine.execPatrolRead addr bad s
  | .keepAlloc q n frames => Sys2Proof.Machine.execKeepAlloc q n frames s
  | .keepFree q n => Sys2Proof.Machine.execKeepFree q n s
  | .keepPin q n => Sys2Proof.Machine.execKeepPin q n s
  | .hintReturnNow q n => Sys2Proof.Machine.execHintReturnNow q n s
  | .hintOffloadNow q x => Sys2Proof.Machine.execHintOffloadNow q x s
  | .hintSetOkey q n => Sys2Proof.Machine.execHintSetOkey q n s
  | .hintCursor q n => Sys2Proof.Machine.execHintCursor q n s
  | .allocWaitTimeout q w => Sys2Proof.Machine.execAllocWaitTimeout q w s
  | .offloadStart page x => Sys2Proof.Machine.execOffloadStart page x s
  | .offloadComplete page => Sys2Proof.Machine.execOffloadComplete page s
  | .offloadTimeout page => Sys2Proof.Machine.execOffloadTimeout page s
  | .returnBlockRead page block data => Sys2Proof.Machine.execReturnBlockRead page block data s
  | .prefetchWindowEnd => Sys2Proof.Machine.execPrefetchWindowEnd s
  | .migrationStart page loc place => Sys2Proof.Machine.execMigrationStart page loc place s
  | .migrationCopyDone x => Sys2Proof.Machine.execMigrationCopyDone x s
  | .migrationSourceRelease page => Sys2Proof.Machine.execMigrationSourceRelease page s
  | .frameBookCheck pool => Sys2Proof.Machine.execFrameBookCheck pool s
  | .frameBookCheckOverdue pool => Sys2Proof.Machine.execFrameBookCheckOverdue pool s
  | .retirementFlashRetry ok => Sys2Proof.Machine.execRetirementFlashRetry ok s
  | .confirmThroughWrite sess v => Sys2Proof.Machine.execConfirmThroughWrite sess v s
  | .removeEntryWrite sess v => Sys2Proof.Machine.execRemoveEntryWrite sess v s
  | .eyeRecentre stack ch ok => Sys2Proof.Machine.execEyeRecentre stack ch ok s
  | .queueEnable q ctl => Sys2Proof.Machine.execQueueEnable q ctl s
  | .queueDisable q ctl => Sys2Proof.Machine.execQueueDisable q ctl s
  | .doorbell q v => Sys2Proof.Machine.execDoorbell q v s
  | .descriptorFetch q data => Sys2Proof.Machine.execDescriptorFetch q data s
  | .descriptorStart q => Sys2Proof.Machine.execDescriptorStart q s
  | .ctxOpen q n => Sys2Proof.Machine.execCtxOpen q n s
  | .ctxClose q n => Sys2Proof.Machine.execCtxClose q n s
  | .tensorSet q n => Sys2Proof.Machine.execTensorSet q n s
  | .seqStart q n => Sys2Proof.Machine.execSeqStart q n s
  | .sequencePlace k => Sys2Proof.Machine.execSequencePlace k s
  | .sequenceRestart slot => Sys2Proof.Machine.execSequenceRestart slot s
  | .seqCancel q n => Sys2Proof.Machine.execSeqCancel q n s
  | .rows q n => Sys2Proof.Machine.execRows q n s
  | .batchCapExpire slot => Sys2Proof.Machine.execBatchCapExpire slot s
  | .nopCommand q n => Sys2Proof.Machine.execNopCommand q n s
  | .stepEnd q n => Sys2Proof.Machine.execStepEnd q n s
  | .snapshot q n frames => Sys2Proof.Machine.execSnapshot q n frames s
  | .snapshotCopyDone ctx id ok => Sys2Proof.Machine.execSnapshotCopyDone ctx id ok s
  | .evalSliceWrite sess v => Sys2Proof.Machine.execEvalSliceWrite sess v s
  | .layoutAddressWrite sess v => Sys2Proof.Machine.execLayoutAddressWrite sess v s
  | .layoutStepWrite sess v => Sys2Proof.Machine.execLayoutStepWrite sess v s
  | .layoutEpochWrite sess v peer => Sys2Proof.Machine.execLayoutEpochWrite sess v peer s
  | .passRequestContrib e peer => Sys2Proof.Machine.execPassRequestContrib e peer s
  | .passRequestTopk e peer => Sys2Proof.Machine.execPassRequestTopk e peer s
  | .passQueueRoom e => Sys2Proof.Machine.execPassQueueRoom e s
  | .contrib x => Sys2Proof.Machine.execContrib x s
  | .stepDeadlineExpire step layer => Sys2Proof.Machine.execStepDeadlineExpire step layer s
  | .mask p => Sys2Proof.Machine.execMask p s
  | .push p addr epoch => Sys2Proof.Machine.execPush p addr epoch s
  | .deviceReady => Sys2Proof.Machine.execDeviceReady s
  | .ready p ok stats => Sys2Proof.Machine.execReady p ok stats s
  | .huddleTimeout => Sys2Proof.Machine.execHuddleTimeout s
  | .decide p commit => Sys2Proof.Machine.execDecide p commit s
  | .flipped p => Sys2Proof.Machine.execFlipped p s
  | .release p => Sys2Proof.Machine.execRelease p s
  | .queryStart => Sys2Proof.Machine.execQueryStart s
  | .queryRepeat => Sys2Proof.Machine.execQueryRepeat s
  | .query p => Sys2Proof.Machine.execQuery p s
  | .answer p dec => Sys2Proof.Machine.execAnswer p dec s
  | .leadSilence => Sys2Proof.Machine.execLeadSilence s
  | .queryTimeout => Sys2Proof.Machine.execQueryTimeout s
  | .oldEpochDrained => Sys2Proof.Machine.execOldEpochDrained s
  | .handover p part field off last => Sys2Proof.Machine.execHandover p part field off last s
  | .unknownEpochHoldExpire epoch => Sys2Proof.Machine.execUnknownEpochHoldExpire epoch s
  | .topk p rows k count root => Sys2Proof.Machine.execTopk p rows k count root s
  | .mergeDeadlineExpire league group batch => Sys2Proof.Machine.execMergeDeadlineExpire league group batch s
  | .updateSequenceStart e => Sys2Proof.Machine.execUpdateSequenceStart e s
  | .updateChunkDone e => Sys2Proof.Machine.execUpdateChunkDone e s
  | .splitStatsFetch layer stats => Sys2Proof.Machine.execSplitStatsFetch layer stats s
  | .updateTableAddressWrite sess v => Sys2Proof.Machine.execUpdateTableAddressWrite sess v s
  | .updateTableStepWrite sess v peer => Sys2Proof.Machine.execUpdateTableStepWrite sess v peer s
  | .hello l spare h => Sys2Proof.Machine.execHello l spare h s
  | .frameReceive l fseq crc data errs => Sys2Proof.Machine.execFrameReceive l fseq crc data errs s
  | .ack l fseq nak => Sys2Proof.Machine.execAck l fseq nak s
  | .credit l counts absolute => Sys2Proof.Machine.execCredit l counts absolute s
  | .creditReturn l => Sys2Proof.Machine.execCreditReturn l s
  | .creditAudit l counts => Sys2Proof.Machine.execCreditAudit l counts s
  | .rd l x => Sys2Proof.Machine.execRd l x s
  | .wr l x => Sys2Proof.Machine.execWr l x s
  | .amoPacket l x => Sys2Proof.Machine.execAmoPacket l x s
  | .keep l p frames => Sys2Proof.Machine.execKeep l p frames s
  | .rdr l p => Sys2Proof.Machine.execRdr l p s
  | .ackw l p => Sys2Proof.Machine.execAckw l p s
  | .keepr l p => Sys2Proof.Machine.execKeepr l p s
  | .packetForward l p => Sys2Proof.Machine.execPacketForward l p s
  | .requestTimeout tag => Sys2Proof.Machine.execRequestTimeout tag s
  | .seal q n => Sys2Proof.Machine.execSeal q n s
  | .unseal q n => Sys2Proof.Machine.execUnseal q n s
  | .inv l p => Sys2Proof.Machine.execInv l p s
  | .inva l p => Sys2Proof.Machine.execInva l p s
  | .fenceTimeExpire base => Sys2Proof.Machine.execFenceTimeExpire base s
  | .fenceResend => Sys2Proof.Machine.execFenceResend s
  | .fencePacket l p => Sys2Proof.Machine.execFencePacket l p s
  | .fencea l p => Sys2Proof.Machine.execFencea l p s
  | .homeUnreachable dev => Sys2Proof.Machine.execHomeUnreachable dev s
  | .mgt l p peers => Sys2Proof.Machine.execMgt l p peers s
  | .relayTimeout seq => Sys2Proof.Machine.execRelayTimeout seq s
  | .deviceIdWrite sess v => Sys2Proof.Machine.execDeviceIdWrite sess v s
  | .fabricEnableWrite sess v => Sys2Proof.Machine.execFabricEnableWrite sess v s
  | .linkRankWrite sess l v => Sys2Proof.Machine.execLinkRankWrite sess l v s
  | .clearLeagueFenceWrite sess v => Sys2Proof.Machine.execClearLeagueFenceWrite sess v s
  | .laneLockLoss l lane => Sys2Proof.Machine.execLaneLockLoss l lane s
  | .replayFullTimeout l => Sys2Proof.Machine.execReplayFullTimeout l s
  | .retrainRequestWrite sess l v => Sys2Proof.Machine.execRetrainRequestWrite sess l v s
  | .retrainLanesTrained l lanes spare h counts => Sys2Proof.Machine.execRetrainLanesTrained l lanes spare h counts s
  | .retrainFailure l => Sys2Proof.Machine.execRetrainFailure l s
  | .linkEnableWrite sess l v => Sys2Proof.Machine.execLinkEnableWrite sess l v s
  | .configRequest offset size wr => Sys2Proof.Machine.execConfigRequest offset size wr s
  | .flr => Sys2Proof.Machine.execFlr s
  | .hotReset => Sys2Proof.Machine.execHotReset s
  | .hostLinkDown => Sys2Proof.Machine.execHostLinkDown s
  | .perstNAssert => Sys2Proof.Machine.execPerstNAssert s
  | .perstNDeassert => Sys2Proof.Machine.execPerstNDeassert s
  | .hostLinkTrained rate width flit => Sys2Proof.Machine.execHostLinkTrained rate width flit s
  | .retrainToCapWrite sess v => Sys2Proof.Machine.execRetrainToCapWrite sess v s
  | .hostLinkError uncorrectable status => Sys2Proof.Machine.execHostLinkError uncorrectable status s
  | .registerWrite offset size v peers => Sys2Proof.Machine.execRegisterWrite offset size v peers s
  | .apertureEnable a ctl => Sys2Proof.Machine.execApertureEnable a ctl s
  | .apertureDisable a ctl => Sys2Proof.Machine.execApertureDisable a ctl s
  | .bar2Read offset x => Sys2Proof.Machine.execBar2Read offset x s
  | .bar2Write offset data x => Sys2Proof.Machine.execBar2Write offset data x s
  | .hostPoolLend r ctl => Sys2Proof.Machine.execHostPoolLend r ctl s
  | .hostPoolRevoke r ctl => Sys2Proof.Machine.execHostPoolRevoke r ctl s
  | .doeDiscovery req => Sys2Proof.Machine.execDoeDiscovery req s
  | .getVersion req => Sys2Proof.Machine.execGetVersion req s
  | .getCapabilities req => Sys2Proof.Machine.execGetCapabilities req s
  | .negotiateAlgorithms req => Sys2Proof.Machine.execNegotiateAlgorithms req s
  | .getDigests req => Sys2Proof.Machine.execGetDigests req s
  | .getCertificate req => Sys2Proof.Machine.execGetCertificate req s
  | .challenge req => Sys2Proof.Machine.execChallenge req s
  | .getMeasurements req => Sys2Proof.Machine.execGetMeasurements req s
  | .evidence req => Sys2Proof.Machine.execEvidence req s
  | .postQuantumChain req => Sys2Proof.Machine.execPostQuantumChain req s
  | .spdmUnsupportedRequest req => Sys2Proof.Machine.execSpdmUnsupportedRequest req s
  | .read h o rest peers => Sys2Proof.Machine.execRead h o rest peers s
  | .write h o rest peers => Sys2Proof.Machine.execWrite h o rest peers s
  | .readRows h o rest peers => Sys2Proof.Machine.execReadRows h o rest peers s
  | .writeRows h o rest peers => Sys2Proof.Machine.execWriteRows h o rest peers s
  | .describe h o rest peers => Sys2Proof.Machine.execDescribe h o rest peers s
  | .next h o rest peers => Sys2Proof.Machine.execNext h o rest peers s
  | .openSession h o rest peers => Sys2Proof.Machine.execOpen h o rest peers s
  | .closeSession h o rest peers => Sys2Proof.Machine.execClose h o rest peers s
  | .ping h o rest peers => Sys2Proof.Machine.execPing h o rest peers s
  | .n40Read path seq obj rest => Sys2Proof.Machine.execN40Read path seq obj rest s
  | .n40Write path seq obj val rest => Sys2Proof.Machine.execN40Write path seq obj val rest s
  | .udpDatagramDiscard cause => Sys2Proof.Machine.execUdpDatagramDiscard cause s
  | .addressDetection duplicate => Sys2Proof.Machine.execAddressDetection duplicate s
  | .neighborDiscovery src data => Sys2Proof.Machine.execNeighborDiscovery src data s
  | .echoRequest src data => Sys2Proof.Machine.execEchoRequest src data s
  | .udpPortWrite sess v => Sys2Proof.Machine.execUdpPortWrite sess v s
  | .plcaNodeIdWrite sess v => Sys2Proof.Machine.execPlcaNodeIdWrite sess v s
  | .plcaNodeCountWrite sess v => Sys2Proof.Machine.execPlcaNodeCountWrite sess v s
  | .plcaTimerWrite sess v => Sys2Proof.Machine.execPlcaTimerWrite sess v s
  | .plcaBurstCountWrite sess v => Sys2Proof.Machine.execPlcaBurstCountWrite sess v s
  | .plcaBurstTimerWrite sess v => Sys2Proof.Machine.execPlcaBurstTimerWrite sess v s
  | .portEnableWrite sess v => Sys2Proof.Machine.execPortEnableWrite sess v s
  | .sessionIdleTimeout slot => Sys2Proof.Machine.execSessionIdleTimeout slot s
  | .powerGoodRise => Sys2Proof.Machine.execPowerGoodRise s
  | .powerGoodFall cut => Sys2Proof.Machine.execPowerGoodFall cut s
  | .resetNAssert x => Sys2Proof.Machine.execResetNAssert x s
  | .resetNRelease => Sys2Proof.Machine.execResetNRelease s
  | .strapSample straps => Sys2Proof.Machine.execStrapSample straps s
  | .rom diode raw => Sys2Proof.Machine.execRom diode raw s
  | .imageCheck => Sys2Proof.Machine.execImageCheck s
  | .tierTest badCores badBanks badTiers => Sys2Proof.Machine.execTierTest badCores badBanks badTiers s
  | .memTrain badStacks lanes => Sys2Proof.Machine.execMemTrain badStacks lanes s
  | .hostLink => Sys2Proof.Machine.execHostLink s
  | .pitchLink => Sys2Proof.Machine.execPitchLink s
  | .pitchLinkTimeout => Sys2Proof.Machine.execPitchLinkTimeout s
  | .readyEntry => Sys2Proof.Machine.execReadyEntry s
  | .startupWatchdog => Sys2Proof.Machine.execStartupWatchdog s
  | .phaseOverMax ms => Sys2Proof.Machine.execPhaseOverMax ms s
  | .stage sess => Sys2Proof.Machine.execStage sess s
  | .stagingDone flashOk => Sys2Proof.Machine.execStagingDone flashOk s
  | .activateAtReset sess => Sys2Proof.Machine.execActivateAtReset sess s
  | .activateLive sess => Sys2Proof.Machine.execActivateLive sess s
  | .roleImageLoaded => Sys2Proof.Machine.execRoleImageLoaded s
  | .freezeWaitTimeout => Sys2Proof.Machine.execFreezeWaitTimeout s
  | .microcodeLoadDone ok => Sys2Proof.Machine.execMicrocodeLoadDone ok s
  | .abandon sess => Sys2Proof.Machine.execAbandon sess s
  | .quarantineRequest sess c => Sys2Proof.Machine.execQuarantineRequest sess c s
  | .quarantineWaitExpire c => Sys2Proof.Machine.execQuarantineWaitExpire c s
  | .quarantineRelease sess c => Sys2Proof.Machine.execQuarantineRelease sess c s
  | .coreSelfTestDone c failed => Sys2Proof.Machine.execCoreSelfTestDone c failed s
  | .powerLoopIteration rails avsFail => Sys2Proof.Machine.execPowerLoopIteration rails avsFail s
  | .avsbusRaiseTimeout rail => Sys2Proof.Machine.execAvsbusRaiseTimeout rail s
  | .thermalLoopIteration readings power => Sys2Proof.Machine.execThermalLoopIteration readings power s
  | .clusterClockChange k => Sys2Proof.Machine.execClusterClockChange k s
  | .vrAlertAssert mv amps => Sys2Proof.Machine.execVrAlertAssert mv amps s
  | .currentLimiterSample amps => Sys2Proof.Machine.execCurrentLimiterSample amps s
  | .currentLimiterRelease => Sys2Proof.Machine.execCurrentLimiterRelease s
  | .sensorSample sensor reading => Sys2Proof.Machine.execSensorSample sensor reading s
  | .whistle sess n40 v => Sys2Proof.Machine.execWhistle sess n40 v s
  | .whistleNSample level => Sys2Proof.Machine.execWhistleNSample level s
  | .stopStepComplete => Sys2Proof.Machine.execStopStepComplete s
  | .stopStepBudgetExpire => Sys2Proof.Machine.execStopStepBudgetExpire s
  | .ownerPasswordEntry sess entry => Sys2Proof.Machine.execOwnerPasswordEntry sess entry s
  | .lockoutExpire => Sys2Proof.Machine.execLockoutExpire s
  | .newOwnerPassword sess entry => Sys2Proof.Machine.execNewOwnerPassword sess entry s
  | .leaveLevel sess v => Sys2Proof.Machine.execLeaveLevel sess v s
  | .vendorScopeRequest sess v => Sys2Proof.Machine.execVendorScopeRequest sess v s
  | .vendorChallengeExpire => Sys2Proof.Machine.execVendorChallengeExpire s
  | .vendorResponseLength sess v => Sys2Proof.Machine.execVendorResponseLength sess v s
  | .testAccessEnable sess v => Sys2Proof.Machine.execTestAccessEnable sess v s
  | .jtagEnable sess v => Sys2Proof.Machine.execJtagEnable sess v s
  | .tokenRefill code => Sys2Proof.Machine.execTokenRefill code s
  | .burstWrite sess v => Sys2Proof.Machine.execBurstWrite sess v s
  | .flashRingWrite ok => Sys2Proof.Machine.execFlashRingWrite ok s
  | .flashRingRetry ok => Sys2Proof.Machine.execFlashRingRetry ok s
  | .clearScorebook sess v => Sys2Proof.Machine.execClearScorebook sess v s
  | .scorebookEraseDone => Sys2Proof.Machine.execScorebookEraseDone s
  | .frameLock l lanes => Sys2Proof.Machine.execFrameLock l lanes s
  | .migrationDeferralExpire pool => Sys2Proof.Machine.execMigrationDeferralExpire pool s
  | .bookRebuildComplete book => Sys2Proof.Machine.execBookRebuildComplete book s
  | .benchHeartbeatLive => Sys2Proof.Machine.execBenchHeartbeatLive s

end Sys2Proof.Machine
end

