-- ==== Sys2Proof/Safety.lean ====
section
/-! DEFINITION. The terms in which the statements speak: when an instruction of a thread acts, and what it leaves. -/

namespace Sys2Proof

/-- The operation o as the only one of a frame of profile 3. -/
def FrameHdr.asks (h : FrameHdr) (o : DictOp) : Prop :=
  h.proto = 3 ∧ h.kind = 1 ∧ h.ctl < 2 ∧ h.res = 0 ∧ h.nops = 1 ∧ h.len = h.rx ∧ h.len = 20 + o.bytes.length ∧ h.len ≤ Machine.pathLimit h.path

/-- The session, object and bytes of a command that writes one object of the dictionary (R362, R368). -/
def Instr.written (i : Instr) : Option (Nat × Nat × List Byte) :=
  let num (sess key v : Nat) : Option (Nat × Nat × List Byte) := some (sess, key, Machine.numBytes key v)
  match i with
  | .hostTimeMarkWrite sess v => num sess (objKey 0x1010 1) v
  | .clearSlotWrite sess v => num sess (objKey 0x2600 4) v
  | .pinQuotaWrite sess v => num sess Machine.oQuota v
  | .evalReservationWrite sess v => num sess Machine.oEvalRes v
  | .ledgerReservationWrite sess v => num sess Machine.oLedgerRes v
  | .bankMapOutRequestWrite sess tier v => num sess (Machine.oTier tier 0x11) v
  | .burstWrite sess v => num sess Machine.oBurst v
  | .clearScorebook sess v => num sess (objKey 0x2800 6) v
  | .retrainToCapWrite sess v => num sess (objKey 0x2300 5) v
  | .deviceIdWrite sess v => num sess Machine.oDevId v
  | .fabricEnableWrite sess v => num sess Machine.oFabricOn v
  | .linkRankWrite sess l v => num sess (Machine.oLink l 8) v
  | .clearLeagueFenceWrite sess v => num sess (objKey 0x2440 0x0C) v
  | .retrainRequestWrite sess l v => num sess (Machine.oLink l 0x0B) v
  | .linkEnableWrite sess l v => num sess (Machine.oLink l 0x0A) v
  | .whistle sess n40 v => num sess (if n40 then objKey 0x5007 0 else objKey 0x1001 2) v
  | .stage sess => num sess Machine.oUpdCmd 1
  | .activateLive sess => num sess Machine.oUpdCmd 2
  | .activateAtReset sess => num sess Machine.oUpdCmd 3
  | .abandon sess => num sess Machine.oUpdCmd 4
  | .quarantineRequest sess c => num sess (Machine.oCore c 2) 1
  | .quarantineRelease sess c => num sess (Machine.oCore c 2) 0
  | .layoutAddressWrite sess v => num sess Machine.oLayAddr v
  | .layoutStepWrite sess v => num sess Machine.oLayStep v
  | .layoutEpochWrite sess v _ => num sess Machine.oLayEpoch v
  | .updateTableAddressWrite sess v => num sess Machine.oTabNext v
  | .updateTableStepWrite sess v _ => num sess Machine.oTabStep v
  | .ownerPasswordEntry sess entry => some (sess, objKey 0x1200 2, entry)
  | .newOwnerPassword sess entry => some (sess, objKey 0x1200 3, entry)
  | .leaveLevel sess v => num sess (objKey 0x1200 0x0B) v
  | .vendorScopeRequest sess v => num sess (objKey 0x1200 6) v
  | .vendorResponseLength sess v => num sess (objKey 0x1200 9) v
  | .testAccessEnable sess v => num sess (objKey 0x2900 0x0B) v
  | .jtagEnable sess v => num sess (objKey 0x2900 0x0C) v
  | .evalSliceWrite sess v => num sess Machine.oSlice v
  | .udpPortWrite sess v => num sess (objKey 0x1100 3) v
  | .plcaNodeIdWrite sess v => num sess (objKey 0x1100 4) v
  | .plcaNodeCountWrite sess v => num sess (objKey 0x1100 5) v
  | .plcaTimerWrite sess v => num sess (objKey 0x1100 6) v
  | .plcaBurstCountWrite sess v => num sess (objKey 0x1100 7) v
  | .plcaBurstTimerWrite sess v => num sess (objKey 0x1100 8) v
  | .portEnableWrite sess v => num sess (objKey 0x1100 9) v
  | .confirmThroughWrite sess v => num sess (objKey 0x2402 3) v
  | .removeEntryWrite sess v => num sess (objKey 0x2402 4) v
  | _ => none

end Sys2Proof

namespace Sys2Proof.Machine

/-- An instruction of thread t of core c acts (R88, R89, R94, R107, R122): the thread is in RUN, its core has a clock, its pc may be
fetched and its line is in the instruction cache, the encoding is legal, the guard is on (each lane's own where `lanes`), no register it names waits for far data, and no
claimant waits READY to pre-empt it. -/
def State.acts (s : State) (c t : Nat) (pg : BitVec 3) (pn enc lanes : Bool) (uses : List Nat) : Bool :=
  let x := s.thread c t
  x.st == .run && s.clocked c && s.fetchCode x.ctx x.pc == 0 && s.icHit c x.pc && (s.core c).fetchFailed t == 0 && enc &&
    (if lanes then x.guard pg pn != 0 else (x.guard pg pn).toNat.testBit 0) &&
    uses.all (fun r => !(s.core c).farPending t r) &&
    (s.core c).claim.all (fun u => (s.thread c u).st != .ready)

/-- An instruction that has taken its effect jumps: its thread goes on at the target and waits for nothing, and another thread's
suspended claim has one cycle less to wait (R89). Nothing else changes. -/
def State.retireTo (s : State) (c t : Nat) (pc : W64) : State := (s.setPc c t pc).modCore c (fun k => k.tickSusp t)

/-- An instruction that has taken its effect is followed by the next. -/
def State.retire (s : State) (c t : Nat) : State := s.retireTo c t ((s.thread c t).pc + 8)

/-- An instruction that writes s[d], p[d] or the lanes of v[d] under a mask, and no more. -/
def State.wroteS (s : State) (c t d : Nat) (v : W64) : State := (s.putS c t d v).retire c t
def State.wroteP (s : State) (c t d : Nat) (v : W64) : State := (s.putP c t d v).retire c t
def State.wroteV (s : State) (c t d : Nat) (m : W64) (v : VReg) : State := (s.putV c t d m v).retire c t

/-- What a command's effect sees of the state: everything but the waiting commands and the outputs already sent. -/
def State.bare (s : State) : State := { s with pending := [], out := [] }

/-- A started descriptor d, numbered n, of queue q holds a command of opcode op, and the host may be reached (R217, R336). -/
def State.runs (s : State) (q n op : Nat) (d : Desc) : Prop :=
  s.hostOpen = true ∧ s.startedDesc q n op = some d ∧ (s.queue q).descs.find? (fun e => e.n == n) = some d

/-- Between s and u the record of descriptor d of queue q was written with a status and a result: at slot D of the completion ring, then
the count D + 1 at the counter address, as the last two outputs; the descriptor is gone and D has advanced (R214). -/
def State.recorded (s u : State) (q : Nat) (d : Desc) (status result : Nat) : Prop :=
  let x := s.queue q
  (u.queue q).d = x.d + 1 ∧ (u.queue q).descs = x.descs.filter (fun e => e.n != d.n) ∧
    ∃ earlier : List Output, u.out =
      .hostWrite (BitVec.ofNat 64 (x.cqCnt.toNat / 8 * 8)) (leBytes 8 (x.d + 1)) ::
      .hostWrite (BitVec.ofNat 64 (x.cqBase.toNat / 16 * 16 + x.d % x.size * x.recSize)) (recordBytes x d status result) ::
      (earlier ++ s.out)

/-- Between s and u a step was decided DISCARD (R257): the decision is held, nothing has flipped, and 2700:0A counts it. -/
def State.discarded (s u : State) (step : Nat) : Prop :=
  (step, false) ∈ u.pass.decisions ∧ u.pass.lastHuddle = s.pass.lastHuddle ∧ u.pass.fstep = s.pass.fstep ∧
    u.obj (objKey 0x2700 0x0A) = min (s.obj (objKey 0x2700 0x0A) + 1) (objMax (objKey 0x2700 0x0A))

/-- Between s and u a step was decided COMMIT and flipped (R257, R258): it is the last committed and flipped one, and 2700:09 counts it. -/
def State.committed (s u : State) (step : Nat) : Prop :=
  (step, true) ∈ u.pass.decisions ∧ u.pass.lastHuddle = step ∧ u.pass.fstep = step ∧
    u.obj (objKey 0x2700 9) = min (s.obj (objKey 0x2700 9) + 1) (objMax (objKey 0x2700 9))

/-- Between s and u a packet of this device went out, where s has the fabric enabled and the packet's destination has a link that may carry
it now (R306, R308, R310, R325). -/
def State.sends (s u : State) (p : Pkt) : Prop :=
  ∀ k : Nat, s.obj oFabricOn = 1 → (s.routeRow p.dst).testBit 31 = true → s.pickLink p.dst (pktHash p) = some k → (s.link k).queued = [] →
    s.canSend k p = true → ¬((s.link k).fabric = 1 ∧ 0x30 ≤ p.type ∧ p.type ≤ 0x33) → .packet k p ∈ u.out

/-- A frame that arrives at the management port and is not for another device (R353, R355, R372). -/
def State.hears (s : State) (h : FrameHdr) : Prop :=
  (∃ addr udp, h.path = .port addr udp) ∧ s.portOpen = true ∧ h.route = 0xFFFF ∧ s.mgmt.restart = false

/-- Between s and u the frame h was served and answered with one operation under a session number (R361, R369, Table 12.1). -/
def State.replied (s u : State) (h : FrameHdr) (sess : Nat) (o : DictOp) : Prop :=
  u.out = .frame h.path s.udpPort
    ({ h with kind := 2, ctl := 0, session := sess, len := 20 + o.bytes.length, res := 0 }.bytes ++ o.bytes) :: s.out

/-- The next frame of an open session bound to the frame's source (R361, R364, R365). -/
def State.inTurn (s : State) (h : FrameHdr) : Prop :=
  h.session ≠ 0 ∧ h.session ≠ mailboxSession ∧ ∃ x : Session, s.session h.session = some x ∧ x.path = h.path ∧ h.seq = (x.last + 1) % 2 ^ 32

/-- No top-k instruction waits in a core's array-side queue. -/
def Core.noTk (k : Core) : Bool := k.aq.all (fun o => !o.isTk)

/-- The memories that hold device-local bytes are in canonical form: the live frames, the shadow frames, the previous frames. -/
def State.memoryOk (s : State) : Bool := Memory.wf s.mem && Memory.wf s.shadow && Memory.wf s.prev

end Sys2Proof.Machine
end

