-- ==== Sys2Proof/Certificates/Slice0/Obligations.lean ====
section
/-! DEFINITION. The statements for the provers. Each docstring names the rules or tables of the spec that it rests on, and the entries of
the assumption log where the spec leaves a point to the model. -/

open Sys2Proof Sys2Proof.Machine

/-! ## Steps and the queue -/

/-- The tier-1 statement of the queue: a step takes the command at the front and runs it with the rest waiting. -/
def Obligations.StepRunsFrontCommand : Prop :=
  ∀ (i : Instr) (rest : List Instr) (s : State),
    step { s with pending := i :: rest } = exec i { s with pending := rest }

/-! ## Scalar instructions (chapter 04) -/

/-- Table 04.10, R93: the scalar arithmetic of two registers and of a register and an immediate, with its whole frame: the next state
differs in s[d] of the thread, its pc and the suspended claim's wait alone. The model's own choices here: assumptions 19 and 26. -/
def Obligations.ScalarArithmeticWritesDestination : Prop :=
  ∀ (s : State) (c : CoreId) (t : ThreadId),
    (∀ f : FmtA, s.acts c t f.pg f.pn (f.ok true true true false 0) false [f.d.toNat, f.a.toNat, f.b.toNat] = true →
      let a := (s.thread c t).sreg f.a.toNat
      let b := (s.thread c t).sreg f.b.toNat
      let d := f.d.toNat
      exec (.iAdd c t f) s = .next (s.wroteS c t d (a + b)) ∧
      exec (.iSub c t f) s = .next (s.wroteS c t d (a - b)) ∧
      exec (.iMul c t f) s = .next (s.wroteS c t d (a * b)) ∧
      exec (.iMulh c t f) s = .next (s.wroteS c t d (BitVec.ofInt 64 (a.toInt * b.toInt / 2 ^ 64))) ∧
      exec (.iAnd c t f) s = .next (s.wroteS c t d (a &&& b)) ∧
      exec (.iOr c t f) s = .next (s.wroteS c t d (a ||| b)) ∧
      exec (.iXor c t f) s = .next (s.wroteS c t d (a ^^^ b)) ∧
      exec (.iShl c t f) s = .next (s.wroteS c t d (a <<< (b.toNat % 64))) ∧
      exec (.iShr c t f) s = .next (s.wroteS c t d (a >>> (b.toNat % 64))) ∧
      exec (.iSar c t f) s = .next (s.wroteS c t d (a.sshiftRight (b.toNat % 64))) ∧
      exec (.iMin c t f) s = .next (s.wroteS c t d (if a.toInt ≤ b.toInt then a else b)) ∧
      exec (.iMax c t f) s = .next (s.wroteS c t d (if a.toInt ≤ b.toInt then b else a)) ∧
      exec (.iMinu c t f) s = .next (s.wroteS c t d (if a.toNat ≤ b.toNat then a else b)) ∧
      exec (.iMaxu c t f) s = .next (s.wroteS c t d (if a.toNat ≤ b.toNat then b else a))) ∧
    (∀ f : FmtI, s.acts c t f.pg f.pn (f.ok true true true 0) false [f.d.toNat, f.a.toNat] = true →
      let a := (s.thread c t).sreg f.a.toNat
      let d := f.d.toNat
      exec (.iAddi c t f) s = .next (s.wroteS c t d (a + f.sx)) ∧
      exec (.iAndi c t f) s = .next (s.wroteS c t d (a &&& f.sx)) ∧
      exec (.iOri c t f) s = .next (s.wroteS c t d (a ||| f.sx)) ∧
      exec (.iXori c t f) s = .next (s.wroteS c t d (a ^^^ f.sx)) ∧
      exec (.iShli c t f) s = .next (s.wroteS c t d (a <<< (f.imm.toNat % 64))) ∧
      exec (.iShri c t f) s = .next (s.wroteS c t d (a >>> (f.imm.toNat % 64))) ∧
      exec (.iSari c t f) s = .next (s.wroteS c t d (a.sshiftRight (f.imm.toNat % 64))) ∧
      exec (.iLih c t f) s = .next (s.wroteS c t d (BitVec.ofNat 64 (f.imm.toNat * 2 ^ 32 + a.toNat % 2 ^ 32)))) ∧
    (∀ f : FmtI, s.acts c t f.pg f.pn (f.ok true false true 0) false [f.d.toNat] = true →
      exec (.iLi c t f) s = .next (s.wroteS c t f.d.toNat (f.imm.signExtend 64)))

/-- Table 04.10, R93, R95: comparisons write every bit of p[d], pop combines two predicates, csrr reads the register that Table 04.4 lists
and csrw writes cvt_tid, the one RW register. The model's own choices here: assumption 17. -/
def Obligations.PredicatesAndControlRegisters : Prop :=
  ∀ (s : State) (c : CoreId) (t : ThreadId),
    let x := s.thread c t
    (∀ f : FmtA, s.acts c t f.pg f.pn (f.ok true true true false 7 && predOk f.d && decide (f.fn.toNat % 8 < 6)) false
        [f.a.toNat, f.b.toNat] = true →
      exec (.iCmp c t f) s = .next (s.wroteP c t f.d.toNat
        (if condS (f.fn.toNat % 8) (x.sreg f.a.toNat) (x.sreg f.b.toNat) then BitVec.allOnes 64 else 0))) ∧
    (∀ f : FmtI, s.acts c t f.pg f.pn (f.ok true true true 7 && predOk f.d && decide (f.fn.toNat % 8 < 6)) false [f.a.toNat] = true →
      exec (.iCmpi c t f) s = .next (s.wroteP c t f.d.toNat
        (if condS (f.fn.toNat % 8) (x.sreg f.a.toNat) (f.imm.signExtend 64) then BitVec.allOnes 64 else 0))) ∧
    (∀ f : FmtA, s.acts c t f.pg f.pn (f.ok true true true false 3 && predOk f.d && predOk f.a && predOk f.b) false [] = true →
      exec (.iPop c t f) s = .next (s.wroteP c t f.d.toNat (popOp (f.fn.toNat % 4) (x.preg f.a.toNat) (x.preg f.b.toNat)))) ∧
    (∀ (f : FmtI) (v : W64),
      s.acts c t f.pg f.pn (f.ok true false true 0 && decide (f.imm.toNat < 4096)) false [f.d.toNat] = true →
      s.csr c t f.imm.toNat = some v → exec (.iCsrr c t f) s = .next (s.wroteS c t f.d.toNat v)) ∧
    (∀ f : FmtI, s.acts c t f.pg f.pn (f.ok false true true 0 && decide (f.imm.toNat < 4096)) false [f.a.toNat] = true →
      f.imm.toNat = 0x008 →
      exec (.iCsrw c t f) s = .next ((s.modThread c t (fun y => { y with cvtTid := x.sreg f.a.toNat })).retire c t))

/-- R88, R92, R107, R124, Table 04.10: nop only advances the pc; an instruction whose line the instruction cache lacks fills it first; br,
brl and jr set it; fence with nothing outstanding only advances it; end parks the thread for its stores and descriptors; a thread past its
end whose stores and descriptors are done enters FREE and leaves the threads that its sequence still waits for. The model's own choices
here: assumptions 20 and 115. -/
def Obligations.ControlFlowAndThreadEnd : Prop :=
  ∀ (s : State) (c : CoreId) (t : ThreadId),
    let x := s.thread c t
    (∀ f : FmtA, s.acts c t f.pg f.pn (f.ok false false false false 0) false [] = true →
      exec (.iNop c t ⟨f, 0⟩) s = .next (s.retire c t)) ∧
    (∀ f : FmtA, x.st = .run → s.clocked c = true → s.isLocal x.pc = true → s.fetchCode x.ctx x.pc = 0 → (s.core c).fetchFailed t = 0 →
      exec (.iNop c t ⟨f, 0⟩) s = exec (.iNop c t ⟨f, 0⟩) (s.icFill c x.pc) ∧ (s.icFill c x.pc).icHit c x.pc = true) ∧
    (∀ f : FmtI, s.acts c t f.pg f.pn (f.ok false false true 0) false [] = true →
      exec (.iBr c t f) s = .next (s.retireTo c t (x.pc + f.imm.signExtend 64 * 8))) ∧
    (∀ f : FmtI, s.acts c t f.pg f.pn (f.ok true false true 0) false [f.d.toNat] = true →
      exec (.iBrl c t f) s = .next ((s.putS c t f.d.toNat (x.pc + 8)).retireTo c t (x.pc + f.imm.signExtend 64 * 8))) ∧
    (∀ f : FmtI, s.acts c t f.pg f.pn (f.ok false true false 0) false [f.a.toNat] = true →
      (x.sreg f.a.toNat).toNat % 8 = 0 → exec (.iJr c t f) s = .next (s.retireTo c t (x.sreg f.a.toNat))) ∧
    (∀ f : FmtA, s.acts c t f.pg f.pn (f.ok false false false false 3 && f.fn != 0) false [] = true →
      (f.fn.toNat.testBit 1 = true → (s.core c).farDone t = true) → exec (.iFence c t f) s = .next (s.retire c t)) ∧
    (∀ f : FmtA, s.acts c t f.pg f.pn (f.ok false false false false 0) false [] = true →
      ∃ u : State, exec (.iEnd c t f) s = .next u ∧ (u.thread c t).ending = true ∧ (u.thread c t).pc = x.pc + 8 ∧
        (u.thread c t).st = .park ∧ (∀ r, (u.thread c t).sreg r = x.sreg r) ∧ u.mem = s.mem ∧ u.sched = s.sched) ∧
    (∀ q : Seq, x.ending = true → (s.core c).quiet t = true → (s.core c).claim ≠ some t.val → s.slot x.seq = some q →
      (c.val, t.val) ∈ q.live → q.live.filter (fun p => p != (c.val, t.val)) ≠ [] →
      ∃ u : State, exec (.endComplete c t) s = .next u ∧ (u.thread c t).st = .free ∧
        u.slot x.seq = some { q with live := q.live.filter (fun p => p != (c.val, t.val)) } ∧ u.mem = s.mem)

/-! ## Vector instructions and memory accesses (chapter 04) -/

/-- Table 04.11, R93, R94: the lane operations write the guarded 32-bit lanes of v[d] with the lane results of their sources and change
nothing else; vdiv, vsqrt, vrcp, vrsq, vexp2 and vlog2 take FP32 lanes only and round once to nearest even. The model's own choices here:
assumption 16. -/
def Obligations.VectorLanesWriteGuardedLanes : Prop :=
  ∀ (s : State) (c : CoreId) (t : ThreadId) (f : FmtA),
    let x := s.thread c t
    let w := laneW f.lane
    let g := x.guard f.pg f.pn
    let d := f.d.toNat
    let a := lanesOf w (x.vreg f.a.toNat)
    let b := lanesOf w (x.vreg f.b.toNat)
    let e := lanesOf w (x.vreg f.c.toNat)
    (s.acts c t f.pg f.pn (f.ok true true true false 0xE000 && f.laneOk) true
        [32 + f.d.toNat, 32 + f.a.toNat, 32 + f.b.toNat] = true →
      exec (.iVadd c t f) s = .next (s.wroteV c t d g (ofLanes w (List.zipWith (vAdd f.lane) a b))) ∧
      exec (.iVsub c t f) s = .next (s.wroteV c t d g (ofLanes w (List.zipWith (vSub f.lane) a b))) ∧
      exec (.iVmul c t f) s = .next (s.wroteV c t d g (ofLanes w (List.zipWith (vMul f.lane) a b))) ∧
      exec (.iVmin c t f) s = .next (s.wroteV c t d g (ofLanes w (List.zipWith (vMin f.lane) a b))) ∧
      exec (.iVmax c t f) s = .next (s.wroteV c t d g (ofLanes w (List.zipWith (vMax f.lane) a b))) ∧
      exec (.iVand c t f) s = .next (s.wroteV c t d g (ofLanes w (List.zipWith (· &&& ·) a b))) ∧
      exec (.iVor c t f) s = .next (s.wroteV c t d g (ofLanes w (List.zipWith (· ||| ·) a b))) ∧
      exec (.iVxor c t f) s = .next (s.wroteV c t d g (ofLanes w (List.zipWith (· ^^^ ·) a b))) ∧
      (b.all (· < w) = true →
        exec (.iVshl c t f) s = .next (s.wroteV c t d g (ofLanes w (List.zipWith (fun i n => i * 2 ^ n % 2 ^ w) a b))) ∧
        exec (.iVshr c t f) s = .next (s.wroteV c t d g (ofLanes w (List.zipWith (fun i n => i / 2 ^ n) a b))))) ∧
    (s.acts c t f.pg f.pn (f.ok true true false false 0xE000 && f.laneOk) true [32 + f.d.toNat, 32 + f.a.toNat] = true →
      exec (.iVabs c t f) s = .next (s.wroteV c t d g (ofLanes w (a.map (fun i => vAbs f.lane i 0)))) ∧
      exec (.iVneg c t f) s = .next (s.wroteV c t d g (ofLanes w (a.map (fun i => vNeg f.lane i 0))))) ∧
    (s.acts c t f.pg f.pn (f.ok true true true true 0xE000 && f.laneOk) true
        [32 + f.d.toNat, 32 + f.a.toNat, 32 + f.b.toNat, 32 + f.c.toNat] = true →
      exec (.iVfma c t f) s = .next (s.wroteV c t d g
        (ofLanes w (List.zipWith (fun i p => vFma f.lane i p.1 p.2) a (List.zip b e))))) ∧
    (s.acts c t f.pg f.pn (f.ok true true true false 0xE000 && f.laneOk && f.lane == 0) true
        [32 + f.d.toNat, 32 + f.a.toNat, 32 + f.b.toNat] = true →
      exec (.iVdiv c t f) s = .next (s.wroteV c t d g (ofLanes w
        (List.zipWith (fun i j => fp32.ieee .rne (Sys2Proof.Num.div (fp32.decode i) (fp32.decode j))) a b)))) ∧
    (s.acts c t f.pg f.pn (f.ok true true false false 0xE000 && f.laneOk && f.lane == 0) true
        [32 + f.d.toNat, 32 + f.a.toNat] = true →
      let each (r : Sys2Proof.Num → Sys2Proof.Num) : Host.Outcome State Fault Refusal :=
        .next (s.wroteV c t d g (ofLanes w (a.map (fun i => fp32.ieee .rne (r (fp32.decode i))))))
      exec (.iVsqrt c t f) s = each Sys2Proof.Num.sqrt ∧
      exec (.iVrcp c t f) s = each (Sys2Proof.Num.div (Sys2Proof.Num.ofInt 1)) ∧
      exec (.iVrsq c t f) s = each Sys2Proof.Num.rsqrt ∧
      exec (.iVexp2 c t f) s = each Sys2Proof.Num.exp2 ∧
      exec (.iVlog2 c t f) s = each Sys2Proof.Num.log2)

/-- Table 04.11, R24, R93: the vector instructions that compare, select, reduce, broadcast, extract and convert. Where a reduction sums
BF16 or FP16 lanes, narrow lanes of one 32-bit lane compare differently, or a lane number lies beyond the register, the spec states no
result and nothing is claimed. The model's own choices here: assumptions 13, 14, 15 and 17. -/
def Obligations.VectorComparesSelectsReducesConverts : Prop :=
  ∀ (s : State) (c : CoreId) (t : ThreadId) (f : FmtA),
    let x := s.thread c t
    let w := laneW f.lane
    let g := x.guard f.pg f.pn
    (s.acts c t f.pg f.pn (f.ok true true true false 0xFC00 && f.laneOk && predOk f.d && decide (f.fn.toNat / 1024 % 8 < 7)) true
        [32 + f.a.toNat, 32 + f.b.toNat] = true →
      let lane (i a b : Nat) : Bool := laneCond f.lane (f.fn.toNat / 1024 % 8) (a / 2 ^ (w * i) % 2 ^ w) (b / 2 ^ (w * i) % 2 ^ w)
      let as := lanesOf 32 (x.vreg f.a.toNat)
      let bs := lanesOf 32 (x.vreg f.b.toNat)
      (List.zipWith (fun a b => (List.range (32 / w)).all (fun i => lane i a b == lane 0 a b)) as bs).all id = true →
      exec (.iVcmp c t f) s = .next (s.wroteP c t f.d.toNat
        ((ofBits (List.zipWith (lane 0) as bs) &&& g) ||| (x.preg f.d.toNat &&& ~~~g)))) ∧
    (s.acts c t f.pg f.pn (f.ok true true true true 0xE000 && f.laneOk && predOk f.c) true
        [32 + f.d.toNat, 32 + f.a.toNat, 32 + f.b.toNat] = true →
      exec (.iVsel c t f) s = .next (s.wroteV c t f.d.toNat g (maskV (x.preg f.c.toNat) (x.vreg f.a.toNat) (x.vreg f.b.toNat)))) ∧
    (s.acts c t f.pg f.pn (f.ok true true false false 0xF800 && f.laneOk && decide (f.fn.toNat / 2048 % 4 < 3)) false
        [f.d.toNat, 32 + f.a.toNat] = true →
      let l := lanesOf w (x.vreg f.a.toNat)
      (f.fn.toNat / 2048 % 4 = 0 → f.lane ≠ 1 → f.lane ≠ 2 →
        exec (.iVred c t f) s = .next (s.wroteS c t f.d.toNat (BitVec.ofNat 64 (redTree (vAdd f.lane) 8 l)))) ∧
      (f.fn.toNat / 2048 % 4 = 1 →
        exec (.iVred c t f) s = .next (s.wroteS c t f.d.toNat (BitVec.ofNat 64 (redTree (vMax f.lane) 8 l)))) ∧
      (f.fn.toNat / 2048 % 4 = 2 →
        exec (.iVred c t f) s = .next (s.wroteS c t f.d.toNat (BitVec.ofNat 64 (redTree (vMin f.lane) 8 l))))) ∧
    (s.acts c t f.pg f.pn (f.ok true true false false 0xE000 && f.laneOk) true [32 + f.d.toNat, f.a.toNat] = true →
      exec (.iVbc c t f) s = .next (s.wroteV c t f.d.toNat g
        (ofLanes w (List.replicate (2048 / w) (x.sreg f.a.toNat).toNat)))) ∧
    (s.acts c t f.pg f.pn (f.ok true true true false 0xE000 && f.laneOk) false
        [f.d.toNat, 32 + f.a.toNat, f.b.toNat] = true → (x.sreg f.b.toNat).toNat < 2048 / w →
      exec (.iVext c t f) s = .next (s.wroteS c t f.d.toNat
        (BitVec.ofNat 64 ((x.vreg f.a.toNat).toNat / 2 ^ (w * (x.sreg f.b.toNat).toNat) % 2 ^ w)))) ∧
    (s.acts c t f.pg f.pn (f.ok true true true true 0xFFE0 && f.laneOk) true
        [32 + f.d.toNat, 32 + f.a.toNat, f.b.toNat, f.c.toNat] = true →
      isFmt (f.fn.toNat / 256 % 32) = true → isMx (f.fn.toNat / 256 % 32) = false → f.fn.toNat / 64 % 4 ≠ 3 → f.fn.toNat / 32 % 2 = 0 →
      let dst := f.fn.toNat / 256 % 32
      let src := lanesOf w (x.vreg f.a.toNat)
      let n := min src.length (2048 / fmtBits dst)
      let codes := (src.take n).map (fun a => (convert (laneCode f.lane) dst (f.fn.toNat / 64 % 4) .rne (laneVal f.lane a)).code)
      exec (.iVcvt c t f) s = .next (s.wroteV c t f.d.toNat g (BitVec.ofNat 2048
        (packNat (fmtBits dst) codes +
          (x.vreg f.d.toNat).toNat / 2 ^ (n * fmtBits dst) * 2 ^ (n * fmtBits dst)))))

/-- R96–R99, Table 04.10: loads, stores and atomics of scratchpad move 1 to 8 bytes, or 256, at an aligned offset inside the thread's
window; the next state differs in the destination register, in the bytes stored, and in the pc. The model's own choices here: assumption
31. -/
def Obligations.ScratchpadAccessesMoveBytes : Prop :=
  ∀ (s : State) (c : CoreId) (t : ThreadId),
    let x := s.thread c t
    let k := s.core c
    (∀ f : FmtI, s.acts c t f.pg f.pn (f.ok true true true 7) false [f.d.toNat, f.a.toNat] = true →
      let off := (x.sreg f.a.toNat + f.sx).toNat
      let n := 2 ^ (f.fn.toNat % 4)
      off % n = 0 → x.inWindow off n = true → k.spBad (x.phys off) n = false →
      let v := leNat (s.readSp c x off n)
      exec (.iLds c t f []) s = .next (s.wroteS c t f.d.toNat
        (if f.fn.toNat.testBit 2 then BitVec.ofInt 64 (toSigned (8 * n) v) else BitVec.ofNat 64 v))) ∧
    (∀ f : FmtI, s.acts c t f.pg f.pn (f.ok true true true 3) false [f.d.toNat, f.a.toNat] = true →
      let off := (x.sreg f.a.toNat + f.sx).toNat
      let n := 2 ^ (f.fn.toNat % 4)
      off % n = 0 → x.inWindow off n = true → k.mrgHold (x.phys off) n = false →
      exec (.iSts c t f) s = .next ((s.writeSp c x off (leBytes n (x.sreg f.d.toNat).toNat)).retire c t)) ∧
    (∀ f : FmtA, s.acts c t f.pg f.pn
        (f.ok true true true (f.fn.toNat % 8 == 2) 7 && decide (f.fn.toNat % 8 < 5)) false
        [f.d.toNat, f.a.toNat, f.b.toNat, f.c.toNat] = true →
      let off := (x.sreg f.a.toNat).toNat
      off % 8 = 0 → x.inWindow off 8 = true → k.spBad (x.phys off) 8 = false → k.mrgHold (x.phys off) 8 = false →
      let old := BitVec.ofNat 64 (leNat (s.readSp c x off 8))
      let new := amoResult (f.fn.toNat % 8) old (x.sreg f.b.toNat) (x.sreg f.c.toNat)
      exec (.iAmo c t f []) s = .next (((s.writeSp c x off (leBytes 8 new.toNat)).putS c t f.d.toNat old).retire c t)) ∧
    (∀ f : FmtI, s.acts c t f.pg f.pn (f.ok true true true 0) true [32 + f.d.toNat, f.a.toNat] = true →
      let off := (x.sreg f.a.toNat + f.sx).toNat
      off % 256 = 0 → x.inWindow off 256 = true →
      (k.spBad (x.phys off) 256 = false →
        exec (.iVld c t f []) s = .next (s.wroteV c t f.d.toNat (x.guard f.pg f.pn) (ofVBytes (s.readSp c x off 256)))) ∧
      (k.mrgHold (x.phys off) 256 = false →
        exec (.iVst c t f) s = .next
          ((s.writeLanes c x off (x.guard f.pg f.pn) (vBytes (x.vreg f.d.toNat))).retire c t)))

/-- R100–R103, R140, R476: a far access takes a slot where one is free and names its address, size, destination and lanes; a load that
finds none waits and parks its thread; hints take none; wtw goes on once its word meets the condition, and otherwise parks; a parked far
wtw reads again. The model's own choices here: assumptions 36, 37, 113 and 114. -/
def Obligations.FarRequestsTakeSlots : Prop :=
  ∀ (s : State) (c : CoreId) (t : ThreadId),
    let x := s.thread c t
    let req : FarReq := { thread := t, ctx := x.ctx, pc := x.pc, stage := .slotted }
    (∀ f : FmtI, s.acts c t f.pg f.pn (f.ok true true true 0) false [f.d.toNat, f.a.toNat] = true →
      let a := x.sreg f.a.toNat + f.sx
      s.farCode x.ctx (x.sreg f.a.toNat) a 8 = 0 →
      (s.slotFree c a = false → ∃ u, exec (.iLdf c t f) s = .next u ∧ (u.thread c t).st = .park ∧ (u.thread c t).pc = x.pc + 8 ∧
        (u.thread c t).why = .farSlot ∧ (u.core c).far = (s.core c).far ++
          [{ req with kind := .ld, addr := a, dest := f.d.toNat, stage := .waiting, id := (s.core c).nextFar }]) ∧
      (s.slotFree c a = true →
      exec (.iLdf c t f) s = .next ((s.addFar c { req with kind := .ld, addr := a, dest := f.d.toNat }).retire c t) ∧
      exec (.iStf c t f) s = .next
        ((s.addFar c { req with kind := .st, addr := a, data := leBytes 8 (x.sreg f.d.toNat).toNat }).retire c t))) ∧
    (∀ f : FmtA, s.acts c t f.pg f.pn
        (f.ok true true true (f.fn.toNat % 8 == 2) 7 && decide (f.fn.toNat % 8 < 5)) false
        [f.d.toNat, f.a.toNat, f.b.toNat, f.c.toNat] = true →
      let a := x.sreg f.a.toNat
      s.farCode x.ctx a a 8 = 0 → s.slotFree c a = true →
      exec (.iAmof c t f) s = .next ((s.addFar c { req with
        kind := .amo (f.fn.toNat % 8) (x.sreg f.b.toNat) (x.sreg f.c.toNat), addr := a, dest := f.d.toNat }).retire c t)) ∧
    (∀ f : FmtI, s.acts c t f.pg f.pn (f.ok true true true 0) true [32 + f.d.toNat, f.a.toNat] = true →
      let a := x.sreg f.a.toNat + f.sx
      let g := x.guard f.pg f.pn
      s.farCode x.ctx (x.sreg f.a.toNat) a 256 = 0 → s.slotFree c a = true →
      exec (.iVldf c t f) s = .next ((s.addFar c { req with kind := .vld, addr := a, dest := f.d.toNat, mask := g }).retire c t) ∧
      exec (.iVstf c t f) s = .next
        ((s.addFar c { req with kind := .vst, addr := a, data := vBytes (x.vreg f.d.toNat), mask := g }).retire c t)) ∧
    (∀ f : FmtI, s.acts c t f.pg f.pn (f.ok false true true 0) false [f.a.toNat] = true →
      let a := x.sreg f.a.toNat
      s.farCode x.ctx a a 1 = 0 →
      exec (.iPf c t f) s = .next ((s.addHint c false x.ctx a (hintBytes f.imm)).retire c t) ∧
      exec (.iDead c t f) s = .next ((s.addHint c true x.ctx a (hintBytes f.imm)).retire c t)) ∧
    (∀ f : FmtI, s.acts c t f.pg f.pn (f.ok true true true 7 && decide (f.fn.toNat % 4 < 3)) false [f.d.toNat, f.a.toNat] = true →
      let a := x.sreg f.a.toNat + f.sx
      let v := x.sreg f.d.toNat
      let met := wtwMet (f.fn.toNat % 4) (BitVec.ofNat 64 (leNat (s.readSp c x a.toNat 8))) v
      (f.fn.toNat.testBit 2 = false → a.toNat % 8 = 0 → x.inWindow a.toNat 8 = true → (s.core c).spBad (x.phys a.toNat) 8 = false →
        (met = true → exec (.iWtw c t f []) s = .next (s.retire c t)) ∧
        (met = false → ∃ u, exec (.iWtw c t f []) s = .next u ∧ (u.thread c t).st = .park ∧ (u.thread c t).pc = x.pc)) ∧
      (f.fn.toNat.testBit 2 = true → x.why = .wtw true a v (f.fn.toNat % 4) true →
        exec (.iWtw c t f []) s = .next (s.retire c t))) ∧
    (∀ (a v : W64) (k : Nat), x.st = .park → x.why = .wtw true a v k false →
      (s.core c).far.any (fun r => r.thread == t.val && r.kind == .wtw && !r.discard) = false →
      exec (.wtwReread c t) s = .next (s.addFar c { req with
        kind := .wtw, addr := a, stage := if s.slotFree c a then .slotted else .waiting }))

/-! ## The matrix array (chapter 03) -/

/-- R74, R77, R116, R117: claiming, granting, releasing and synchronising the array, and writing its configuration word. The model's own
choices here: assumptions 24 and 110. -/
def Obligations.ArrayClaimAndConfiguration : Prop :=
  ∀ (s : State) (c : CoreId) (t : ThreadId),
    let x := s.thread c t
    let k := s.core c
    (∀ f : FmtA, s.acts c t f.pg f.pn (f.ok false false false false 0) false [] = true →
      (k.holds t = true → exec (.iArrClaim c t f) s = .next (s.retire c t)) ∧
      (k.claim = none → k.claimQ = [] →
        exec (.iArrClaim c t f) s = .next ((s.setCore c { k with
          accs := [], wts := [], mcfg := 0, tk := {}, aq := [], mmaQ := [], sideQ := [], sideList := []
          claim := some t.val }).retire c t)) ∧
      (∀ u : Nat, k.claim = some u → u ≠ t.val → t.val ∉ k.claimQ →
        ∃ v, exec (.iArrClaim c t f) s = .next v ∧ (v.thread c t).st = .park ∧ (v.thread c t).pc = x.pc ∧
          (v.core c).claimQ = k.claimQ ++ [t.val]) ∧
      (k.holds t = true → x.freeing = false →
        exec (.iArrRel c t f) s = .next ((s.setCore c
          ({ k with claimQ := k.claimQ.filter (fun u => u != t.val), releasing := true } : Core).settle).retire c t)) ∧
      (k.holds t = true → k.arrayIdle = true → exec (.iArrSync c t f) s = .next (s.retire c t))) ∧
    (∀ (u : Nat) (r : List Nat), k.claim = none → k.claimQ = u :: r →
      exec (.claimGrant c) s = .next (s.setCore c { k with
        accs := [], wts := [], mcfg := 0, tk := {}, aq := [], mmaQ := [], sideQ := [], sideList := []
        claim := some u, claimQ := r })) ∧
    (∀ f : FmtA, s.acts c t f.pg f.pn (f.ok false true false false 0) false [f.a.toNat] = true →
      k.holds t = true → k.arrayIdle = true → k.mcfgCode x (x.sreg f.a.toNat).toNat = 0 →
      exec (.iMcfg c t f) s = .next ((s.setCore c { k with mcfg := x.sreg f.a.toNat }).retire c t))

/-- R60–R66, R69, R70, R120: loading weights and a wide-channel list, and issuing a matrix instruction, whose exact group sums wait for
their rounding; one more matrix instruction is counted, three passes of the array for S2. The model's own choices here: assumptions 23,
29, 30, 31, 106 and 107. -/
def Obligations.WeightsAndMatrixIssue : Prop :=
  ∀ (s : State) (c : CoreId) (t : ThreadId),
    let x := s.thread c t
    let k := s.core c
    (∀ f : FmtW, s.acts c t f.pg f.pn (f.res == 0) false [f.a.toNat, f.x.toNat] = true → k.holds t = true →
      let fw := f.fw.toNat
      let off := (x.sreg f.a.toNat + BitVec.ofNat 64 (f.woff.toNat * 1024)).toNat
      let sn0 := scaleBytes fw (if classOf fw = 4 then 2 else 1)
      let half := wtHalf x fw f.pr off (x.sreg f.x.toNat + BitVec.ofNat 64 (f.woff.toNat * sn0)).toNat
      let n := if half then 512 else wtBytes fw f.pr
      let sn := if half then scaleBytes fw 1 else sn0
      let soff := (x.sreg f.x.toNat + BitVec.ofNat 64 (f.woff.toNat * sn)).toNat
      wtAllowed fw f.pr f.wt.toNat = true → s.tileCode c x off n soff sn = 0 →
      ∃ u : State, exec (.iWtld c t f []) s = .next (u.retire c t) ∧ u = { s with cores := u.cores, objs := u.objs, fresh := u.fresh } ∧
        (u.core c).wt f.wt.toNat = { loaded := true, fmt := fw, pr := f.pr, half := half, data := (s.readSp c x off n).take 1024,
                                     scales := s.readSp c x soff sn } ∧
        (f.pr = true → (u.core c).wt (f.wt.toNat + 1) =
          { loaded := true, fmt := fw, pr := true, data := (s.readSp c x off n).drop 1024, scales := s.readSp c x soff sn }) ∧
        (∀ m, m ≠ f.wt.toNat → (f.pr = true → m ≠ f.wt.toNat + 1) → (u.core c).wt m = k.wt m) ∧
        (u.core c).accs = k.accs ∧ (u.core c).sp = k.sp) ∧
    (∀ f : FmtM, s.acts c t f.pg f.pn (f.res == 0) false [f.a.toNat, f.x.toNat] = true → k.holds t = true →
      let fa := f.fa.toNat
      let r := k.wt f.wt.toNat
      let mate := k.wt (f.wt.toNat + 1)
      let kk := kOf (classOf fa) (classOf r.fmt)
      let n := 32 * kk * fmtBits fa / 8
      let sn := scaleBytes fa (kk / 32)
      let off := (x.sreg f.a.toNat + BitVec.ofNat 64 (f.aoff.toNat * 1024)).toNat
      let soff := (x.sreg f.x.toNat + BitVec.ofNat 64 (f.aoff.toNat * sn)).toNat
      s.tileCode c x off n soff sn = 0 → k.aq.any (fun o => o.uses f.set.toNat) = false →
      (k.mmaAllowed f false = true →
        ∃ u : State, exec (.iMma c t f []) s = .next (u.retire c t) ∧
          u = { s with cores := u.cores, objs := u.objs, fresh := u.fresh } ∧
          (u.core c).mmaQ = k.mmaQ ++ [{ set := f.set.toNat, ow := f.ow, pa := f.pa, pc := x.pc, ahead := k.aq.length
                                         sums := groupSums
                                           (aRows fa kk (cfgZp k.mcfg.toNat) (s.readSp c x off n) (s.readSp c x soff sn))
                                           (wCols r mate kk f.tr f.h) }] ∧
          (f.ow = true → ((u.core c).acc f.set.toNat).empty = false ∧ ((u.core c).acc f.set.toNat).pair = f.pa) ∧
          u.obj (oCore c 0x10) = min (s.obj (oCore c 0x10) + 1) (objMax (oCore c 0x10)) ∧
          u.obj (oCore c 0x11) = min (s.obj (oCore c 0x11) + 1) (objMax (oCore c 0x11))) ∧
      (k.mmaAllowed f true = true →
        ∃ u : State, exec (.iMmaS2 c t f []) s = .next (u.retire c t) ∧
          u = { s with cores := u.cores, objs := u.objs, fresh := u.fresh } ∧
          (u.core c).mmaQ = k.mmaQ ++ [{ set := f.set.toNat, ow := f.ow, pa := f.pa, pc := x.pc, ahead := k.aq.length
                                         sums := groupSums (s2Rows (s.readSp c x off n)) (s2Cols (r.data ++ mate.data)) }] ∧
          u.obj (oCore c 0x10) = min (s.obj (oCore c 0x10) + 3) (objMax (oCore c 0x10)))) ∧
    (∀ f : FmtA, s.acts c t f.pg f.pn (f.ok false true true false 0) false [f.a.toNat, f.b.toNat] = true → k.holds t = true →
      let la := (x.sreg f.a.toNat).toNat
      let va := (x.sreg f.b.toNat).toNat
      let n := leNat (k.readSp (x.phys la) 4)
      let l := k.wideList (x.phys la)
      cfgSide k.mcfg.toNat = true → x.inWindow la 4 = true → n ≤ 64 → x.inWindow la (4 + 4 * n) = true → x.inWindow va (64 * n) = true →
      k.spBad (x.phys la) (4 + 4 * n) = false → k.spBad (x.phys va) (64 * n) = false → ascending l = true → k.sideQ = [] →
      ∃ u : State, exec (.iSdl c t f []) s = .next (u.retire c t) ∧ u = { s with cores := u.cores } ∧ (u.core c).sideList = l ∧
        (u.core c).sp = ((List.range 32).foldl (fun q i =>
          q.writeSp (q.sideOperand i 0) (k.readSp (x.phys va + 2 * n * i) (2 * n))) k).sp)

/-- R67, R69, R72, R84: the oldest matrix instruction's group sums are rounded once into its set, its count advances, the set spills by
itself where its count reaches the interval, and the side terms of a set are added once finished. Stated with no top-k instruction
waiting, which would run on. The model's own choices here: assumptions 31, 107 and 108. -/
def Obligations.MatrixResultsReachTheirSets : Prop :=
  ∀ (s : State) (c : CoreId),
    let k := s.core c
    (∀ (o : MmaOp) (r : List MmaOp), k.mmaQ = o :: r → k.noTk = true →
      let a := (k.acc o.set).fold o
      let n := if o.ow then 1 else a.count + 1
      let due := (cfgMask k.mcfg.toNat).testBit o.set = true ∧ cfgIv k.mcfg.toNat ≠ 0 ∧ n = cfgIv k.mcfg.toNat
      (due → k.spPoison = [] → ∃ u : State, exec (.mmaComplete c {}) s = .next u ∧ (u.core c).mmaQ = r ∧
        ((u.core c).acc o.set).count = 0 ∧ ((u.core c).acc o.set).slotEmpty = false ∧
        (u.core c).sp = ((k.setAcc o.set { a with count := n, slotEmpty := a.slotEmpty || o.ow }).spillSet o.set).sp ∧ u.mem = s.mem) ∧
      (¬ due → ∃ u : State, exec (.mmaComplete c {}) s = .next u ∧ (u.core c).mmaQ = r ∧
        (u.core c).acc o.set = { a with count := n, slotEmpty := a.slotEmpty || o.ow } ∧
        (∀ m, m ≠ o.set → (u.core c).acc m = k.acc m) ∧ (u.core c).sp = k.sp ∧ u.mem = s.mem)) ∧
    (∀ set : SetId, k.noTk = true → k.spPoison = [] → (k.sideQ.filter (fun (q : SideTerm) => q.set == set.val)) ≠ [] →
      let terms := k.sideQ.filter (fun (q : SideTerm) => q.set == set.val)
      let old := (List.range 1024).map (fun i => BitVec.ofNat 32 (fieldAt (k.readSp (k.sideAddr set) 4096) (4 * i) 4))
      let new := terms.foldl (fun acc q => List.zipWith (fun a ij =>
        toF32 (Sys2Proof.Num.add (Sys2Proof.Num.mul (bf16.decode (q.vals.getD (ij / 32) 0).toNat) (q.ws.getD (ij % 32) .nan)) (f32 a)))
        acc (List.range 1024)) old
      ∃ u : State, exec (.sideSumComplete c { set := set }) s = .next u ∧
        u.obj (oCore c 0x13) = min (s.obj (oCore c 0x13) + 16 * terms.length) (objMax (oCore c 0x13)) ∧
        (u.core c).sideQ = k.sideQ.filter (fun (q : SideTerm) => q.set != set.val) ∧
        (u.core c).sp = (k.writeSp (k.sideAddr set) (new.flatMap (fun w => leBytes 4 w.toNat))).sp ∧
        (u.core c).accs = k.accs ∧ u.mem = s.mem)

/-- R72, R80, R117–R119: drains, spills and top-k instructions enter the array-side queue; with nothing ahead a top-k instruction but
tk.mrg runs at once. The model's own choices here: assumption 29. -/
def Obligations.ArraySideInstructionsEnterTheQueue : Prop :=
  ∀ (s : State) (c : CoreId) (t : ThreadId) (f : FmtQ),
    let x := s.thread c t
    let k := s.core c
    let off := (x.sreg f.a.toNat + BitVec.ofNat 64 (f.off.toNat * 64)).toNat
    k.holds t = true → k.aq.length < 8 →
    (k.noTk = true →
      (s.acts c t f.pg f.pn (f.ok true true false false true) false [f.a.toNat] = true →
        (k.acc f.set.toNat).empty = false → (s.drainRead c x off).1 = 0 →
        exec (.iDrain c t f []) s = .next
          ((s.setCore c { k with aq := k.aq ++ [.drain f.set.toNat (s.drainRead c x off).2 x.pc] }).retire c t)) ∧
      (s.acts c t f.pg f.pn (f.ok true false false false false) false [] = true →
        (k.acc f.set.toNat).empty = false → slotFits k.mcfg.toNat f.set.toNat = true →
        exec (.iSpill c t f) s = .next ((s.setCore c { k with aq := k.aq ++ [.spill f.set.toNat x.pc] }).retire c t)) ∧
      (s.acts c t f.pg f.pn (f.ok false true true false true) false [f.a.toNat] = true →
        off % 8 = 0 → f.n.toNat ≠ 0 → f.n.toNat ≤ 256 → x.inWindow off (listBytes k.tk.rows f.n.toNat) = true →
        exec (.iTkMrg c t f) s = .next
          ((s.setCore c { k with aq := k.aq ++ [.tkMrg (x.phys off) f.n.toNat x.pc] }).retire c t))) ∧
    (k.aq = [] →
      (s.acts c t f.pg f.pn (f.ok false false true true false) false [] = true → f.n.toNat ≤ 256 → f.m.toNat ≤ 32 →
        exec (.iTkInit c t f) s = .next ((s.setCore c { k.dequeue [] [] with tk := { k := f.n.toNat, rows := f.m.toNat } }).retire c t)) ∧
      (s.acts c t f.pg f.pn (f.ok true true true false false) false [f.a.toNat] = true →
        (k.acc f.set.toNat).empty = false → (k.acc f.set.toNat).pair = false → f.n.toNat ≤ 32 →
        (x.sreg f.a.toNat).toNat + f.n.toNat ≤ 2 ^ 32 → k.mmaQ = [] →
        exec (.iTkIns c t f none) s = .next ((s.setCore c { k.dequeue [] [] with
          tk := k.tk.insertSet (k.accTerms f.set.toNat) f.n.toNat (x.sreg f.a.toNat).toNat }).retire c t)) ∧
      (s.acts c t f.pg f.pn (f.ok false true false false true) false [f.a.toNat] = true →
        off % 8 = 0 → x.inWindow off (listBytes k.tk.rows k.tk.k) = true →
        exec (.iTkOut c t f none) s = .next ((s.setCore c ((k.dequeue [] []).writeSp (x.phys off) k.tk.bytes)).retire c t)))

/-- R41, R71, R80, R118: what a queued drain, spill and tk.mrg do once they may run: the drain writes the 32 converted rows of its tile,
the spill folds its set into its slot and empties it, the merge offers the block's entries to the lists. Stated for each at the front of
the queue with its set ready, no scratchpad word in error, and no other top-k instruction behind it. The model's own choices here:
assumptions 6, 88, 105, 108, 111 and 140. -/
def Obligations.ArraySideInstructionsExecute : Prop :=
  ∀ (s : State) (c : CoreId) (pc : W64) (rest : List ArrayOp),
    let k := s.core c
    rest.all (fun o => !o.isTk) = true → k.spPoison = [] →
    (∀ (set : Nat) (d : DrainParams), k.aq = .drain set d pc :: rest → k.mmaQ = [] →
      (ctlSide d.ctl.toNat = true → k.sideQ = []) →
      ∃ u : State, exec (.drainExecute c none []) s = .next u ∧ (u.core c).aq = rest ∧
        (u.core c).sp = ((((List.range 32).map (d.row (k.drainTerms set d))).flatMap DrainOut.writes).foldl
          (fun (q : Core) w => q.writeSp w.1 w.2) k).sp ∧
        (u.core c).accs = k.accs ∧ u.mem = s.mem) ∧
    (∀ set : Nat, k.aq = .spill set pc :: rest → k.mmaQ = [] →
      ∃ u : State, exec (.spillExecute c none []) s = .next u ∧ (u.core c).aq = rest ∧
        ((u.core c).acc set).his = List.replicate 1024 0 ∧ ((u.core c).acc set).count = 0 ∧ ((u.core c).acc set).slotEmpty = false ∧
        (u.core c).sp = (k.spillSet set).sp ∧ u.mem = s.mem) ∧
    (∀ addr ksrc : Nat, k.aq = .tkMrg addr ksrc pc :: rest →
      (List.range k.tk.rows).all (fun i => decide (leNat (k.readSp (addr + i * (8 + 8 * ksrc)) 4) ≤ ksrc)) = true →
      ∃ u : State, exec (.tkMrgExecute c none []) s = .next u ∧ (u.core c).aq = rest ∧ (u.core c).tk = k.mergeBlock addr ksrc ∧
        (u.core c).sp = k.sp ∧ u.mem = s.mem)

/-- R110–R115: the stream instructions and the engines. The transfer at the head of its engine, where its turn has come and it meets no
fault and no wait, puts its rows where Table 04.6 says and marks its descriptor; a gather gives zeros and status bit 0 for an index
outside the table; a complete one leaves its queue and advances the done count; a fault stops it and cancels its thread's later ones. The
model's own choices here: assumptions 6, 32, 33, 125 and 141. -/
def Obligations.StreamsMoveAndComplete : Prop :=
  ∀ (s : State) (c : CoreId),
    let k := s.core c
    (∀ (t : ThreadId) (f : FmtI),
      let x := s.thread c t
      let e := f.fn.toNat % 8
      let q := k.eng e
      x.seMask.testBit e = true → Tab.get x.stFault 0 e = 0 →
      (s.acts c t f.pg f.pn (f.ok false true true 7) false [f.a.toNat] = true →
        let off := (x.sreg f.a.toNat + f.sx).toNat
        off % 64 = 0 → x.inWindow off 64 = true → k.spBad (x.phys off) 64 = false →
        (s.streamDesc c t x off).1.ok (s.streamDesc c t x off).2 (x.spSize * 65536) = true → q.queue.length < 4 →
        exec (.iStGo c t f []) s = .next
          ((s.setCore c (k.setEng e { q with queue := q.queue ++ [{ (s.streamDesc c t x off).1 with
            behind := if k.claim = some t.val then k.aq.length else 0 }] })).retire c t)) ∧
      (s.acts c t f.pg f.pn (f.ok true true false 7) false [f.d.toNat, f.a.toNat] = true →
        (q.done - BitVec.ofNat 32 ((x.sreg f.a.toNat).toNat % 2 ^ 32)).toNat < 2 ^ 31 →
        exec (.iStWait c t f) s = .next
          (((s.setCore c (k.setEng e { q with flags := 0 })).putS c t f.d.toNat q.word).retire c t)) ∧
      (s.acts c t f.pg f.pn (f.ok true false false 7) false [f.d.toNat] = true →
        exec (.iStPoll c t f) s = .next (s.wroteS c t f.d.toNat q.word))) ∧
    (∀ (e : EngId) (d : StreamDesc), k.spPoison = [] →
      (∀ (peer : List Byte) (deck : Option Bool) (bad : List BadBytes), s.streamHead c e 0 = some d →
        let x := d.rows.foldl (fun (x : FarScan) w => x.read c d.ctx d.nc w.1 w.2 deck) { s := s.bare, bad := bad, peer := peer }
        x.wait = false → x.fault = 0 →
        ∃ u : State, exec (.streamRead c e ⟨peer, deck, bad⟩) s = .next u ∧
          (u.core c).sp = ((x.s.core c).putAll (d.place (cutRows d.n0 x.data d.rows.length))).sp ∧
          ((u.core c).eng e).queue.head?.map StreamDesc.moved = some true) ∧
      (s.streamHead c e 1 = some d → d.pos = 0 → d.n0 ≠ 0 → d.n1 = 1 → d.n2 = 1 → d.far.toNat % 4096 + d.n0 ≤ 4096 → ∀ p : Page,
        s.isLocal d.far = true → s.windowOf (localOf d.far) = none → s.pageAt (localOf d.far) = some p →
        d.far.toNat < 2 ^ 62 → s.useLocal d.ctx (localOf d.far) true = 0 → p.away = false →
        s.writeHeld p.base (localOf d.far) = false → s.lineBusy p (localOf d.far) = false →
        ∃ u : State, exec (.streamWrite c e {}) s = .next u ∧ ((u.core c).eng e).queue.head?.map StreamDesc.moved = some true ∧
          u.mem = (s.homeStore (localOf d.far) ((k.readSp (d.spBase * 65536 + d.sp) d.n0).map (fun b => (b, true)))).mem) ∧
      (s.streamHead c e 3 = some d →
        ∃ u : State, exec (.streamCopy c e []) s = .next u ∧ ((u.core c).eng e).queue.head?.map StreamDesc.moved = some true ∧
          (u.core c).sp = (k.putAll (d.place (d.rows.map (fun w => k.readSp (d.spBase * 65536 + w.1) w.2)))).sp ∧ u.mem = s.mem) ∧
      (∀ (peer : List Byte) (deck : Option Bool) (bad : List BadBytes), s.streamHead c e 2 = some d →
        let n := if d.none then 0 else d.n1
        let xs := (List.range n).map (fun i => leNat (k.readSp (d.spBase * 65536 + d.idx + 4 * i) 4))
        let x := ({ s := s.bare, bad := bad, peer := peer } : FarScan).gather c d deck xs none
        x.1.wait = false → x.1.fault = 0 →
        ∃ u : State, exec (.streamGather c e peer ⟨[], deck, bad⟩) s = .next u ∧
          (u.core c).sp = ((x.1.s.core c).putAll ((d.dests.map Prod.fst).zip (cutRows d.n0 x.1.data n))).sp ∧
          ((u.core c).eng e).queue.head?.map StreamDesc.moved = some true) ∧
      (∀ (peer : List Byte) (deck : Option Bool) (bad : List BadBytes), s.streamHead c e 2 = some d → d.none = false →
        let xs := (List.range d.n1).map (fun i => leNat (k.readSp (d.spBase * 65536 + d.idx + 4 * i) 4))
        xs.all (fun i => decide (d.n2 ≤ i)) = true →
        ∃ u : State, exec (.streamGather c e peer ⟨[], deck, bad⟩) s = .next u ∧ ((u.core c).eng e).queue.head?.map StreamDesc.moved = some true ∧
          ((u.core c).eng e).flags = (k.eng e).flags ||| 1 ∧
          (u.core c).sp = (k.putAll ((d.dests.map Prod.fst).zip (xs.map (fun _ => List.replicate d.n0 0)))).sp ∧ u.mem = s.mem)) ∧
    (∀ (e : EngId) (d : StreamDesc) (r : List StreamDesc), (k.eng e).queue = d :: r → d.moved = true →
      s.fabric.outs.all (fun o => o.core != c.val || o.id != idStream e) = true →
      exec (.streamDescriptorComplete c e) s = .next
        (s.setCore c (k.setEng e { k.eng e with queue := r, done := (k.eng e).done + 1 }))) ∧
    (∀ (e : EngId) (d : StreamDesc) (r : List StreamDesc) (code : Nat), (k.eng e).queue = d :: r → 0x05 ≤ code → code ≤ 0x08 →
      (k.thread d.thread).st = .run →
      ∃ u : State, exec (.streamTransferFault c e code) s = .next u ∧ Tab.get (u.thread c d.thread).stFault 0 e = code ∧
        ((u.core c).eng e).queue = r.filter (fun (y : StreamDesc) => y.thread != d.thread) ∧ u.mem = s.mem)

/-! ## Threads and faults (chapter 04) -/

/-- R88–R91, R231: yield moves a thread from RUN to READY, a parked thread whose condition has ended becomes READY, a thread that has
issued for 4,096 cycles is pre-empted while another is READY, and the all-parked signal rises when no thread is READY or in RUN, whereupon
a waiting single-core sequence that fits is placed there. The model's own choices here: assumptions 26, 112 and 116. -/
def Obligations.ThreadsChangeStates : Prop :=
  ∀ (s : State) (c : CoreId),
    let k := s.core c
    (∀ (t : ThreadId) (f : FmtA) (v : ThreadId), s.acts c t f.pg f.pn (f.ok false false false false 0) false [] = true →
      k.claim = none → k.lastRan = t.val → v ≠ t → (k.thread v).st = .ready →
      ∃ u : State, exec (.iYield c t f) s = .next u ∧ (u.thread c t).st = .ready ∧ (u.thread c t).pc = (s.thread c t).pc + 8 ∧
        (u.thread c t).s = (s.thread c t).s ∧ u.mem = s.mem) ∧
    (∀ (t r : ThreadId), (k.thread t).st = .park → (k.thread t).ending = false → s.wakeable c t = true →
      (k.thread r).st = .run → k.claim = none →
      ∃ u : State, exec (.threadWake c t) s = .next u ∧ (u.thread c t).st = .ready ∧ (u.core c).allParked = false ∧ u.mem = s.mem) ∧
    (∀ (r v : ThreadId), k.running = some r.val → k.lastRan = r.val → v ≠ r → (k.thread v).st = .ready → k.claim = none →
      ∃ u : State, exec (.threadPreempt c) s = .next u ∧ (u.thread c r).st = .ready ∧ u.mem = s.mem) ∧
    ((List.range 16).any (fun t => (k.thread t).st == .park) = true →
      (List.range 16).all (fun t => (k.thread t).st != .ready && (k.thread t).st != .run) = true → k.allParked = false →
      let s1 := (s.setCore c { k with allParked := true }).bump (oCore c 0x15) 2048
      (s.sched.waiting = [] → exec (.allParkedSignal c) s = .next s1) ∧
      (∀ (i : Nat) (x : Seq), s.working = true → s1.reliefFor c = some (i, x) →
        ∃ u : State, exec (.allParkedSignal c) s = .next u ∧ u.sched.waiting = s.sched.waiting.eraseIdx i ∧
          u.obj (objKey 0x2500 8) = min (s.obj (objKey 0x2500 8) + 1) (objMax (objKey 0x2500 8)) ∧ u.mem = s.mem))

/-- R94, R121, R122, R125, Tables 04.8–04.10, Table 04.12: reading the word of an instruction gives that instruction with every field, for
every opcode and every value of the fields; an unlisted opcode is read as such. An instruction whose encoding is not legal, or whose
opcode is not listed, takes no effect: its thread faults with code 0x01, the record names its pc, and no register of the thread and no
byte of scratchpad or memory changes (stated for a thread that belongs to no sequence and a core whose array no one holds); an instruction
whose guard is 0 has no effect but that its thread goes on (stated of an add, a store and a far load). The model's own choices here:
assumptions 21 and 119. -/
def Obligations.EncodingFaultsAndGuardSkips : Prop :=
  ∀ (s : State) (c : CoreId) (t : ThreadId),
    (∀ f : FmtA, ∀ e ∈ ([((0x00 : BitVec 8), Instr.iNop c t ⟨f, 0⟩), (0x62, .iMcfg c t f), (0x60, .iArrClaim c t f), (0x61, .iArrRel c t f),
        (0x63, .iArrSync c t f), (0x69, .iSdl c t f []), (0x01, .iEnd c t f), (0x02, .iYield c t f), (0x03, .iFence c t f),
        (0x10, .iAdd c t f), (0x11, .iSub c t f), (0x12, .iMul c t f), (0x13, .iMulh c t f), (0x14, .iAnd c t f), (0x15, .iOr c t f),
        (0x16, .iXor c t f), (0x17, .iShl c t f), (0x18, .iShr c t f), (0x19, .iSar c t f), (0x1A, .iMin c t f), (0x1B, .iMax c t f),
        (0x1C, .iMinu c t f), (0x1D, .iMaxu c t f), (0x1E, .iCmp c t f), (0x3A, .iAmo c t f []), (0x3D, .iAmof c t f),
        (0x40, .iVadd c t f), (0x41, .iVsub c t f), (0x42, .iVmul c t f), (0x43, .iVfma c t f), (0x44, .iVmin c t f), (0x45, .iVmax c t f),
        (0x46, .iVabs c t f), (0x47, .iVneg c t f), (0x48, .iVdiv c t f), (0x49, .iVsqrt c t f), (0x4A, .iVrcp c t f),
        (0x4B, .iVrsq c t f), (0x4C, .iVexp2 c t f), (0x4D, .iVlog2 c t f), (0x4E, .iVcmp c t f), (0x4F, .iVsel c t f),
        (0x50, .iVcvt c t f), (0x51, .iVred c t f), (0x52, .iVbc c t f), (0x53, .iVext c t f), (0x54, .iVand c t f), (0x55, .iVor c t f),
        (0x56, .iVxor c t f), (0x57, .iVshl c t f), (0x58, .iVshr c t f), (0x59, .iPop c t f)
        ] : List (BitVec 8 × Instr)), decodeWord c t (f.word e.1) = e.2 ∧ e.2.coreWord = some (f.word e.1)) ∧
    (∀ f : FmtI, ∀ e ∈ ([((0x04 : BitVec 8), Instr.iCsrr c t f), (0x05, .iCsrw c t f), (0x08, .iWtw c t f []), (0x20, .iAddi c t f),
        (0x21, .iAndi c t f), (0x22, .iOri c t f), (0x23, .iXori c t f), (0x24, .iShli c t f), (0x25, .iShri c t f), (0x26, .iSari c t f),
        (0x27, .iLi c t f), (0x28, .iLih c t f), (0x29, .iCmpi c t f), (0x30, .iBr c t f), (0x31, .iBrl c t f), (0x32, .iJr c t f),
        (0x38, .iLds c t f []), (0x39, .iSts c t f), (0x3B, .iLdf c t f), (0x3C, .iStf c t f), (0x5C, .iVld c t f []), (0x5D, .iVst c t f),
        (0x5E, .iVldf c t f), (0x5F, .iVstf c t f), (0x73, .iPf c t f), (0x74, .iDead c t f), (0x70, .iStGo c t f []),
        (0x71, .iStWait c t f), (0x72, .iStPoll c t f)
        ] : List (BitVec 8 × Instr)), decodeWord c t (f.word e.1) = e.2 ∧ e.2.coreWord = some (f.word e.1)) ∧
    (∀ f : FmtM, ∀ e ∈ ([((0x65 : BitVec 8), Instr.iMma c t f []), (0x66, .iMmaS2 c t f [])
        ] : List (BitVec 8 × Instr)), decodeWord c t (f.word e.1) = e.2 ∧ e.2.coreWord = some (f.word e.1)) ∧
    (∀ f : FmtW, ∀ e ∈ ([((0x64 : BitVec 8), Instr.iWtld c t f [])
        ] : List (BitVec 8 × Instr)), decodeWord c t (f.word e.1) = e.2 ∧ e.2.coreWord = some (f.word e.1)) ∧
    (∀ f : FmtQ, ∀ e ∈ ([((0x67 : BitVec 8), Instr.iDrain c t f []), (0x68, .iSpill c t f), (0x6A, .iTkInit c t f),
        (0x6B, .iTkIns c t f none), (0x6C, .iTkMrg c t f), (0x6D, .iTkOut c t f none)
        ] : List (BitVec 8 × Instr)), decodeWord c t (f.word e.1) = e.2 ∧ e.2.coreWord = some (f.word e.1)) ∧
    (∀ w : BitVec 64, (decodeWord c t w).coreWord = some w ∧
      (opListed (w.extractLsb' 56 8) = false → ∃ f : FmtA, decodeWord c t w = .iNop c t ⟨f, w.extractLsb' 56 8⟩)) ∧
    (let x := s.thread c t
     x.st = .run → s.clocked c = true → s.fetchCode x.ctx x.pc = 0 → s.icHit c x.pc = true → (s.core c).fetchFailed t = 0 →
     (s.slot x.seq = none → x.freeing = false → (s.core c).claim = none →
       let rejected (o : Host.Outcome State Fault Refusal) : Prop := ∃ u : State, o = .next u ∧ (u.thread c t).st = .fault ∧
         (u.core c).faults.getLast? = some { thread := t, code := 0x01, pc := x.pc, addr := 0, cyc := s.cycles c } ∧
         (∀ r, (u.thread c t).sreg r = x.sreg r) ∧ (u.core c).sp = (s.core c).sp ∧ u.mem = s.mem
       (∀ f : FmtA, f.res ≠ 0 → rejected (exec (.iAdd c t f) s)) ∧
       (∀ (f : FmtA) (op : BitVec 8), op ≠ 0 → rejected (exec (.iNop c t ⟨f, op⟩) s))) ∧
     ((s.core c).claim.all (fun u => (s.thread c u).st != .ready) = true →
       (∀ f : FmtA, (x.guard f.pg f.pn).toNat.testBit 0 = false → f.ok true true true false 0 = true →
         exec (.iAdd c t f) s = .next (s.retire c t)) ∧
       (∀ f : FmtI, (x.guard f.pg f.pn).toNat.testBit 0 = false → f.ok true true true 0 = true →
         exec (.iSts c t f) s = .next (s.retire c t) ∧ exec (.iLdf c t f) s = .next (s.retire c t))))

/-- R93: s0 reads 0 and p0 reads all ones in every state; a write to either leaves the thread as it was; any other register takes the value
written, and the rest keep theirs. Bit l of a predicate governs all 32 bits of lane l of a vector register, and so both 16-bit and all
four 8-bit lanes in it. -/
def Obligations.RegisterZeroIsConstant : Prop :=
  ∀ (x : Thread) (r q : Nat) (v m : W64) (w : VReg),
    x.sreg 0 = 0 ∧ x.preg 0 = BitVec.allOnes 64 ∧ x.setS 0 v = x ∧ x.setP 0 v = x ∧
    (r ≠ 0 → (x.setS r v).sreg r = v ∧ (x.setP r v).preg r = v) ∧
    (q ≠ r → (x.setS r v).sreg q = x.sreg q ∧ (x.setP r v).preg q = x.preg q ∧ (x.setV r w).vreg q = x.vreg q) ∧
    (∀ i, i < 2048 → ((x.setV r (maskV m w (x.vreg r))).vreg r).getLsbD i =
      if m.getLsbD (i / 32) then w.getLsbD i else (x.vreg r).getLsbD i)

/-- The frame of a scalar result and of a scratchpad store: every other thread, every other register, every predicate and vector register,
the claim, the far requests, the scratchpad outside the stored bytes, device memory and everything outside the cores stay as they were.
The model's own choices here: assumption 26. -/
def Obligations.ScalarResultAndStoreFrames : Prop :=
  ∀ (s : State) (c : CoreId) (t : ThreadId) (d : Nat) (v : W64) (off : Nat) (bs : List Byte),
    let x := s.thread c t
    (let u := s.wroteS c t d v;
      (u.thread c t).sreg d = (if d = 0 then 0 else v) ∧ (u.thread c t).pc = x.pc + 8 ∧
      (∀ r, r ≠ d → (u.thread c t).sreg r = x.sreg r) ∧ (∀ r, (u.thread c t).preg r = x.preg r) ∧
      (∀ r, (u.thread c t).vreg r = x.vreg r) ∧ (∀ w, w ≠ t.val → u.thread c w = s.thread c w) ∧
      (∀ e, e ≠ c.val → u.core e = s.core e) ∧ (u.core c).sp = (s.core c).sp ∧ (u.core c).far = (s.core c).far ∧
      (u.core c).claim = (s.core c).claim ∧ u = { s with cores := u.cores }) ∧
    (let u := (s.writeSp c x off bs).retire c t;
      (u.core c).readSp (x.phys off) bs.length = bs ∧
      (∀ a, a < x.phys off ∨ x.phys off + bs.length ≤ a → Tab.get (u.core c).sp 0 a = Tab.get (s.core c).sp 0 a) ∧
      (∀ r, (u.thread c t).sreg r = x.sreg r) ∧ (∀ w, w ≠ t.val → u.thread c w = s.thread c w) ∧
      (∀ e, e ≠ c.val → u.core e = s.core e) ∧ u = { s with cores := u.cores })

/-! ## Far requests at the requester and at their home (chapters 04, 05) -/

/-- R102, R103, R125, R140, R166–R168: a free slot goes round-robin to the threads' oldest request that may take one or to a stream
engine; a walk that ends at an allowed leaf caches it, and one that ends at no allowed leaf or meets a bad table line gives its request
the fault; the data of a load reaches its register and an atomic's old value its register, and the request is gone from its slot; nothing
of device memory changes. The model's own choices here: assumptions 38, 123 and 141. -/
def Obligations.FarRequestsComplete : Prop :=
  ∀ (s : State) (c : CoreId),
    let k := s.core c
    (let turn := (List.range 9).map (fun i => (k.lastReq + 1 + i) % 9)
      let wants (q : Nat) : Bool := if q = 0 then (s.threadWants c).isSome else s.engineWants c (q - 1)
      (∀ r : FarReq, turn.find? wants = some 0 → s.threadWants c = some r →
        exec (.farSlotGrant c) s = .next ((s.setCore c { k with lastReq := 0 }).modReq c r.id (fun r => { r with stage := .slotted }))) ∧
      (∀ e : EngId, turn.find? wants = some (e.val + 1) →
        ∃ u : State, exec (.farSlotGrant c) s = .next u ∧ u = { s with cores := u.cores } ∧ (u.core c).lastReq = e.val + 1 ∧
          ((u.core c).eng e).granted = true ∧ ((u.core c).eng e).queue = (k.eng e).queue ∧ (u.core c).far = k.far)) ∧
    (∀ (id : Nat) (r : FarReq) (p : Page), k.req id = some r → r.stage = .walking → s.isLocal r.addr = true →
      s.pageAt (localOf r.addr) = some p → s.useLocal r.ctx (localOf r.addr) r.writes = 0 →
      exec (.translationWalkComplete c ⟨id, false⟩) s = .next
        ((s.setCore c (k.cacheLeaf (pageKey p.base))).modReq c id (fun r => { r with stage := .slotted }))) ∧
    (∀ (id : Nat) (r : FarReq), k.req id = some r → r.stage = .walking → s.isLocal r.addr = true →
      (∀ code : Nat, s.useLocal r.ctx (localOf r.addr) r.writes = code → code ≠ 0 →
        ∃ u : State, exec (.translationWalkComplete c ⟨id, false⟩) s = .next u ∧
          ((u.core c).req id).map FarReq.stage = some (.served [] code)) ∧
      (∃ u : State, exec (.translationWalkComplete c ⟨id, true⟩) s = .next u ∧
        ((u.core c).req id).map FarReq.stage = some (.served [] 0x07) ∧
        u.obj (objKey 0x2400 0x12) = min (s.obj (objKey 0x2400 0x12) + 1) (objMax (objKey 0x2400 0x12)))) ∧
    (∀ (id : Nat) (r : FarReq) (data : List Byte), k.req id = some r → r.stage = .served data 0 → r.discard = false →
      (r.kind = .ld → ∃ u : State, exec (.farLoadReturn c id) s = .next u ∧
        (u.thread c r.thread).sreg r.dest = (if r.dest = 0 then 0 else BitVec.ofNat 64 (leNat data)) ∧
        (u.core c).req id = none ∧ u.mem = s.mem) ∧
      (r.kind = .vld → ∃ u : State, exec (.farLoadReturn c id) s = .next u ∧
        (u.thread c r.thread).vreg r.dest = maskV r.mask (ofVBytes data) ((s.thread c r.thread).vreg r.dest) ∧
        (u.core c).req id = none ∧ u.mem = s.mem) ∧
      (r.kind = .st ∨ r.kind = .vst → exec (.farStoreAck c id) s = .next (s.dropReq c id)) ∧
      (∀ (op : Nat) (b e : W64), r.kind = .amo op b e → ∃ u : State, exec (.farStoreAck c id) s = .next u ∧
        (u.thread c r.thread).sreg r.dest = (if r.dest = 0 then 0 else BitVec.ofNat 64 (leNat data)) ∧
        (u.core c).req id = none ∧ u.mem = s.mem))

/-- R136, R138, R140: a request that reaches its local home, by a leaf its core has cached and that R167 allows, to sectors that can be
served there, reads, writes or atomically replaces exactly the bytes it names (stated with no page whose free waits for its requests). The
model's own choices here: assumptions 91 and 118. -/
def Obligations.HomeServesRequests : Prop :=
  ∀ (s : State) (c : CoreId) (id : Nat) (r : FarReq) (p : Page),
    let a := localOf r.addr
    (s.core c).req id = some r → r.stage = .slotted → s.isLocal r.addr = true → (s.core c).heldBy r false = false →
    s.windowOf a = none → s.cachedLeaf c a = some p → s.useLocal r.ctx a r.writes = 0 → p.direct = false → p.lost = false →
    poisonedIn s.poison a 8 = false → s.keeper.dying = [] →
    (r.kind = .ld → s.sealedEpoch r.ctx r.addr = none → s.homeOf p a 8 0 [] = .ready →
      ∃ u : State, exec (.homeRead c id false none) s = .next u ∧ u.mem = s.mem ∧
        ((u.core c).req id).map FarReq.stage = some (.served (s.readMem a 8) 0)) ∧
    (r.kind = .st → s.homeOf p a 8 1 [] = .ready → r.data.length = 8 →
      ∃ u : State, exec (.homeWrite c ⟨id, none⟩) s = .next u ∧ u.readMem a 8 = r.data ∧
        (∀ b, b < a ∨ a + 8 ≤ b → Tab.get u.mem 0 b = Tab.get s.mem 0 b) ∧
        ((u.core c).req id).map FarReq.stage = some (.served [] 0)) ∧
    (∀ (op : Nat) (b e : W64), r.kind = .amo op b e → s.homeOf p a 8 1 [] = .ready →
      let old := BitVec.ofNat 64 (leNat (s.readMem a 8))
      ∃ u : State, exec (.homeAtomic c id none) s = .next u ∧ u.readMem a 8 = leBytes 8 (amoResult op old b e).toNat ∧
        (∀ b, b < a ∨ a + 8 ≤ b → Tab.get u.mem 0 b = Tab.get s.mem 0 b) ∧
        ((u.core c).req id).map FarReq.stage = some (.served (leBytes 8 old.toNat) 0))

/-- R142, R143, R147, R149, R189: a fill closes its miss and makes the filled sectors valid; a waiting miss opens one when it tries again;
a dead hint drops a line of a class X page, a prefetch hint opens a fill with no waiter, and the sweep drops the remote lines whose epoch
is not their region's. The model's own choices here: assumptions 36, 91 and 117. -/
def Obligations.DeckMissesFillsAndHints : Prop :=
  ∀ (s : State),
    (∀ (col : ColId) (line : Nat) (m : Mshr), (s.col col).mshrs.find? (fun m => m.line == line && !m.remote) = some m →
      ∃ u : State, exec (.fillReturn col line []) s = .next u ∧
        (u.col col).mshrs = (s.col col).mshrs.filter (fun m => !(m.line == line && m.remote == false)) ∧
        (u.col col).freeMshr = (s.col col).freeMshr + 1 ∧
        (m.waiters = [] → s.fabric.waiting = [] → s.host.posted = [] → u.mem = s.mem) ∧
        (m.waiters = [] → s.fabric.waiting = [] → s.host.posted = [] → m.install = true → (s.localLine col (line * 4096)).bank < 68 →
          Tab.get (s.col col).draining 0xFF (s.localLine col (line * 4096)).bank = 0xFF → ((u.col col).line? line false).map (fun l => covers l.valid m.need) = some true)) ∧
    (∀ (col : ColId) (c : CoreId) (id : Nat) (r : FarReq) (p : Page),
      let a := localOf r.addr
      (s.col col).retry = [(c.val, id)] → (s.core c).req id = some r → r.stage = .slotted → r.kind = .ld → s.isLocal r.addr = true →
      (s.core c).heldBy r false = false → s.windowOf a = none → s.cachedLeaf c a = some p → s.useLocal r.ctx a false = 0 →
      s.sealedEpoch r.ctx r.addr = none → p.direct = false → s.homeOf p a 8 0 [] = .miss col → (s.col col).mshrs = [] →
      (s.col col).freeMshr ≠ 0 → (s.col col).held = false →
      ∃ u : State, exec (.missRetry col) s = .next u ∧ (u.col col).retry = [] ∧
        ((u.core c).req id).map FarReq.stage = some (.missing col (a / 4096)) ∧
        (u.col col).mshrs = [{ line := a / 4096, need := fillBits a 8 (s.depthOf col), waiters := [(c.val, id)] }] ∧ u.mem = s.mem) ∧
    (∀ (c : CoreId) (ctx : Nat) (addr : W64) (p : Page),
      let a := localOf addr
      (s.core c).hints.elem (true, ctx, addr, 4096) = true → s.isLocal addr = true → a % 4096 = 0 → s.pageAt a = some p →
      s.useLocal ctx a false = 0 → (s.col (p.homeCol a)).mshrs = [] → p.cls = 4 →
      ∃ u : State, exec (.deadHint c ctx addr 4096) s = .next u ∧
        (∀ b, Tab.get u.mem 0 b = if a ≤ b ∧ b < a + 4096 then 0 else Tab.get s.mem 0 b) ∧
        Tab.get u.keeper.pages none (pageKey p.base) = some (p.setDead a true) ∧
        (u.core c).hints = (s.core c).hints.erase (true, ctx, addr, 4096)) ∧
    (∀ (c : CoreId) (ctx : Nat) (addr : W64) (p : Page),
      let a := localOf addr
      let k := s.col (p.homeCol a)
      (s.core c).hints.elem (false, ctx, addr, 4096) = true → s.isLocal addr = true → a % 4096 = 0 → s.pageAt a = some p →
      p.base ≤ a → a + 4096 ≤ p.base + p.bytes →
      s.allPages.filter (fun p => decide (p.base < a + 4096) && decide (a < p.base + p.bytes) && s.useLocal ctx p.base false == 0) = [p] →
      p.loc = 0 → p.cls ≠ 2 → p.cls ≠ 3 → p.direct = false → s.depthOf (p.homeCol a) ≠ 0 → k.line? (a / 4096) false = none →
      k.mshrs = [] → k.freeMshr ≠ 0 → k.held = false →
      ∃ u : State, exec (.pfHint c ctx addr 4096) s = .next u ∧
        (u.col (p.homeCol a)).mshrs = [{ line := a / 4096, need := fillBits a 1 (s.depthOf (p.homeCol a)) }] ∧
        (u.col (p.homeCol a)).freeMshr = k.freeMshr - 1 ∧ u.mem = s.mem) ∧
    (∃ u : State, exec .staleLineSweep s = .next u ∧ u = { s with cols := u.cols } ∧
      ∀ col, (u.col col).lines = (s.col col).lines.filter (fun l =>
        !l.remote || (match s.remoteOf (l.line * 4096) with | some t => t.epoch == l.epoch | none => false)))

/-! ## The deck (chapter 05) -/

/-- R133–R135, R153, R154, R157, R158, R360: the deck's settings written through a session: the object takes the value and the session is
told OK; a bank asked out of service begins to drain in SERVICE; a role change drains its bank and then takes effect; a map-out leaves the
bank with role 5; the thrash detector halves or raises a column's depth; a review keeps the banks' counts and begins them again, marks the
pages of hot banks to be moved, and the HBM pages chosen for a new home column where their own column's core waited for its banks. The
model's own choices here: assumptions 7, 62, 120 and 124. -/
def Obligations.DeckSettingsAndBankRoles : Prop :=
  ∀ (s : State),
    (∀ sess v : Nat,
      (s.writeCheck sess oQuota (numBytes oQuota v) = dOk → (s.setObj oQuota v).reservations ≤ (s.setObj oQuota v).quota →
        ∃ u : State, exec (.pinQuotaWrite sess v) s = .next u ∧ u.obj oQuota = min v (objMax oQuota) ∧
          (∃ more : List Output, u.out = .opStatus sess dOk :: (more ++ s.out)) ∧ u.mem = s.mem) ∧
      (s.writeCheck sess oEvalRes (numBytes oEvalRes v) = dOk → (s.setObj oEvalRes v).reservations ≤ (s.setObj oEvalRes v).quota →
        ∃ u : State, exec (.evalReservationWrite sess v) s = .next u ∧ u.obj oEvalRes = min v (objMax oEvalRes) ∧
          (∃ more : List Output, u.out = .opStatus sess dOk :: (more ++ s.out)) ∧ u.mem = s.mem) ∧
      (s.writeCheck sess oLedgerRes (numBytes oLedgerRes v) = dOk → (s.setObj oLedgerRes v).reservations ≤ (s.setObj oLedgerRes v).quota →
        ∃ u : State, exec (.ledgerReservationWrite sess v) s = .next u ∧ u.obj oLedgerRes = min v (objMax oLedgerRes) ∧
          (∃ more : List Output, u.out = .opStatus sess dOk :: (more ++ s.out)) ∧ u.mem = s.mem) ∧
      (∀ t : TierId, s.writeCheck sess (oTier t 0x11) (numBytes (oTier t 0x11) v) = dOk → v % 32 ≤ 16 → s.dev.act = none →
        (s.col (v / 32)).role t (v % 32) ≠ 5 → Tab.get (s.col (v / 32)).draining 0xFF (t * 17 + v % 32) = 0xFF → s.devState = stReady →
        ∃ u : State, exec (.bankMapOutRequestWrite sess t v) s = .next u ∧
          Tab.get (u.col (v / 32)).draining 0xFF (t * 17 + v % 32) = 5 ∧
          (∀ l ∈ (u.col (v / 32)).lines, l.bank ≠ t * 17 + v % 32) ∧ u.devState = stService ∧
          u.out = .opStatus sess dOk :: s.out ∧ u.mem = s.mem)) ∧
    (∀ (col : ColId) (tier : TierId) (bank : BankId),
      let k := s.col col
      let b := tier.val * 17 + bank.val
      (∀ role : Nat, role ≤ 4 → k.role tier bank ≠ 5 → k.role tier bank ≠ role → (role = 4 → bank.val = 16) → Tab.get k.draining 0xFF b = 0xFF →
        (k.role tier bank = 0 → s.homesIn col = false ∨ ∃ x ∈ k.banksOf 0, x ≠ b ∧ Tab.get k.draining 0xFF x = 0xFF) →
        ∃ u : State, exec (.bankRoleChange col tier bank role) s = .next u ∧ Tab.get (u.col col).draining 0xFF b = role ∧
          (∀ l ∈ (u.col col).lines, l.bank ≠ b) ∧ (u.col col).roles = k.roles ∧ u.mem = s.mem) ∧
      (∀ (role : Nat) (moves : List (Nat × Nat)), Tab.get k.draining 0xFF b = role → role ≤ 5 →
        s.bankBusy col tier bank = false → Tab.get k.taking 0 tier ≠ 17 →
        (k.role tier bank = 0 → s.homesIn col = false ∨ (∃ x ∈ k.banksOf 0, x ≠ b) ∨ role = 5 ∧ Tab.get k.taking 0 tier = bank.val + 1) →
        ∃ u : State, exec (.bankDrainDone col tier bank moves) s = .next u ∧ (u.col col).role tier bank = role ∧
          Tab.get (u.col col).draining 0xFF b = 0xFF ∧ u.mem = s.mem) ∧
      (16384 ≤ k.winFills →
        let th := s.obj (objKey 0x2410 8)
        (th * 16384 < k.winRefetch * 100 → ∃ u : State, exec (.thrashWindowEnd col) s = .next u ∧
          u.col col = { k with winFills := k.winFills - 16384, winRefetch := 0, depth := some (s.depthOf col / 2), calm := 0 } ∧
          u.mem = s.mem) ∧
        (k.winRefetch * 200 ≤ th * 16384 → k.winRefetch * 100 ≤ th * 16384 → k.calm = 3 → exec (.thrashWindowEnd col) s = .next (s.setCol col { k with
          winFills := k.winFills - 16384, winRefetch := 0, depth := some (min (2 * s.depthOf col + 1) (s.obj (objKey 0x2410 7)))
          calm := 0 }))) ∧
      (∀ spots l : List (Nat × Nat), ∃ u : State, exec (.hotBankReview spots l) s = .next u ∧ (u.col col).accesses = [] ∧
        (u.col col).lastAccesses = k.accesses ∧ (u.col col).lines = k.lines ∧ u.keeper.pages = s.keeper.pages ∧ u.keeper.traffic = [] ∧
        (∀ p ∈ s.allPages, p.loc = 1 ∨ p.loc = 2 → s.obj (objKey 0x2410 0x0D) <
            Tab.get (s.col (p.place / 2 ^ 23)).accesses 0 (bitsOf p.place 22 21 * 17 + bitsOf p.place 20 16) →
          (p.base, none) ∈ u.keeper.rehome) ∧
        (∀ (a h : Nat) (p : Page), (a, h) ∈ l → s.pageAt a = some p → p.base = a → p.loc = 0 → h < 96 → s.mayHome h p.frames = true →
          Tab.get s.keeper.capWaits 0 (p.place / 2 ^ 23) < s.obj (oCore (p.place / 2 ^ 23) 0x17) → (a, some h) ∈ u.keeper.rehome) ∧
        u.mem = s.mem))

/-! ## The keeper (chapter 06) -/

/-- R152, R175, R179, R181: an allocation that the keeper's checks allow places every page asked for and completes with its base; a free
releases its pages, whose bytes then read 0; a pin changes the page's wish, demoted where the quota has no room; an allocation, this
device's or a peer's, that has waited 100 ms is refused with K_SPACE. The model's own choices here: assumptions 39, 58 and 141. -/
def Obligations.KeeperAllocatesFreesAndPins : Prop :=
  ∀ (s : State) (q : QueueId) (n : Nat) (d : Desc),
    (∀ (frames : List Nat) (base : Nat), s.runs q n 0x30 d → s.keeperCheck d = 0 → d.f 0 8 ≠ 0 → d.f 16 2 = 0xFFFF → s.rebuilding = false →
      (s.bare.allocate d d.ctx frames).2 = (0, base) →
      ∃ u : State, exec (.keepAlloc q n frames) s = .next u ∧ s.recorded u q d 0 base ∧
        (d.f 21 1 = 0 → ∀ i, i < roundPages 0 (d.f 0 8) / 65536 → ∃ p : Page,
          Tab.get u.keeper.pages none (pageKey base + i) = some p ∧ p.base = base + 65536 * i ∧ p.ctx = d.ctx ∧ p.cls = d.f 20 1 ∧
          p.big = false)) ∧
    (∀ ps : List Page, s.runs q n 0x31 d → s.wholePages d.ctx (d.f 0 8) (d.f 8 8) = some ps → ps.all (fun p => !p.sealed && (s.openOn p).isEmpty) = true →
      s.keeper.pinned = [] → s.keeper.demoted = [] → s.keeper.keepWaits = [] → s.keeper.regions.all (fun r => r.freeing.isEmpty) = true →
      ∃ u : State, exec (.keepFree q n) s = .next u ∧ s.recorded u q d 0 0 ∧
        ∀ p ∈ ps, Tab.get u.keeper.pages none (pageKey p.base) = none ∧
          ∀ a, p.base ≤ a → a < p.base + p.bytes → Tab.get u.mem 0 a = 0) ∧
    (∀ p : Page, s.runs q n 0x32 d → s.wholePages d.ctx (d.f 0 8) (d.f 8 8) = some [p] → s.keeper.pinned = [] → s.keeper.demoted = [] →
      s.keeper.waitRets = [] →
      let s1 := s.setPage { p with pin := 0 }
      let fits := s1.pinnedFrames + p.frames + 16 * s1.reservations ≤ 16 * s1.quota
      ∃ u : State, exec (.keepPin q n) s = .next u ∧ s.recorded u q d 0 0 ∧ u.mem = s.mem ∧
        (fits → Tab.get u.keeper.pages none (pageKey p.base) = some { p with pin := d.f 22 1 }) ∧
        (¬fits → Tab.get u.keeper.pages none (pageKey p.base) = some { p with pin := if d.f 22 1 = 2 then 3 else d.f 22 1 })) ∧
    (s.runs q n 0x30 d → s.keeper.allocWaits.elem (q.val, n) = true →
      ∃ u : State, exec (.allocWaitTimeout q (.own n)) s = .next u ∧ s.recorded u q d kSpace 0 ∧
        u.obj (objKey 0x2400 0x0B) = min (s.obj (objKey 0x2400 0x0B) + 1) (objMax (objKey 0x2400 0x0B)) ∧
        u.keeper = { s.keeper with allocWaits := s.keeper.allocWaits.filter (fun e => e != (q.val, n)) }) ∧
    (∀ (src tag : Nat) (p : Pkt), s.keeper.keepWaits.find? (fun p => p.src == src && p.tag == tag) = some p →
      ∃ u : State, exec (.allocWaitTimeout q (.peer src tag)) s = .next u ∧
        u.keeper.keepWaits = s.keeper.keepWaits.filter (fun x => !(x.src == src && x.tag == tag)) ∧
        u.obj (objKey 0x2400 0x0B) = min (s.obj (objKey 0x2400 0x0B) + 1) (objMax (objKey 0x2400 0x0B)) ∧ u.mem = s.mem)

/-- R176, R181, R185, R188, R189: the four kinds of hint on one whole page: it starts to return, or waits for a frame, it starts to be
off-loaded, its order key is set, and returns below its key start. The model's own choices here: assumption 52. -/
def Obligations.HintsMoveTheirPage : Prop :=
  ∀ (s : State) (q : QueueId) (n : Nat) (d : Desc) (p : Page),
    s.runs q n 0x33 d → s.keeperCheck d = 0 → s.pagesIn (d.f 0 8) (d.f 0 8 + d.f 8 8) = [p] →
    (d.f 20 1 = 0 → p.away = true → s.keeper.rets.any (fun r => r.page == p.base) = false →
      (∀ loc f : Nat, s.placeBy p.want p.pin p.cls p.frames p.hint none = some (loc, f) → s.mayMove (poolOf loc) 3 = true →
        ∃ u : State, exec (.hintReturnNow q n) s = .next u ∧ s.recorded u q d 0 0 ∧
          u.keeper.rets = s.keeper.rets ++ [{ page := p.base, loc := loc, frame := f, frames := p.frames }] ∧
          Tab.get u.keeper.pages none (pageKey p.base) = some { p with mig := true } ∧ u.mem = s.mem) ∧
      (s.placeBy p.want p.pin p.cls p.frames p.hint none = none →
        ∃ u : State, exec (.hintReturnNow q n) s = .next u ∧ s.recorded u q d 0 0 ∧ p.base ∈ u.keeper.waitRets ∧
          u.keeper.rets = s.keeper.rets ∧ u.keeper.pages = s.keeper.pages ∧ u.mem = s.mem)) ∧
    (∀ first : Nat, d.f 20 1 = 1 → s.obj (objKey 0x2400 7) = 1 → s.offloadable p = true → s.pickSlots p.frames = some first →
      s.mayMove 2 3 = true →
      ∃ u : State, exec (.hintOffloadNow q ⟨n, []⟩) s = .next u ∧ s.recorded u q d 0 0 ∧
        u.keeper.offs = s.keeper.offs ++ [{ page := p.base, slots := (List.range p.frames).map (fun i => first + i) }] ∧
        Tab.get u.keeper.pages none (pageKey p.base) = some { p with mig := true } ∧ u.mem = s.mem) ∧
    (d.f 20 1 = 2 →
      ∃ u : State, exec (.hintSetOkey q n) s = .next u ∧ s.recorded u q d 0 0 ∧
        Tab.get u.keeper.pages none (pageKey p.base) = some { p with okey := d.f 28 4 } ∧ u.mem = s.mem) ∧
    (∀ (r : Page) (loc f : Nat), d.f 20 1 = 3 → p.cls = 3 → s.unreadBlocks p.ctx < s.obj oPrefetch → s.nextReturn p.ctx p.okey = some r →
      s.placeBy r.want r.pin r.cls r.frames r.hint none = some (loc, f) → s.mayMove (poolOf loc) 3 = true →
      ∃ u : State, exec (.hintCursor q n) s = .next u ∧ s.recorded u q d 0 0 ∧
        (∃ more, u.keeper.rets = s.keeper.rets ++ [{ page := r.base, loc := loc, frame := f, frames := r.frames }] ++ more) ∧ u.mem = s.mem)

/-- R185–R190: an off-load begins at the watermark, or above 2 points below it while a run of off-loads goes on, ends with the leaf at its
host slots, or is cancelled; a returned block's data is kept where its CRC-32C is right and asked for again where it is not; the last one
ends the return; the prefetch depth is halved or raised. The model's own choices here: assumptions 5, 52, 53 and 54. -/
def Obligations.OffloadsAndReturns : Prop :=
  ∀ (s : State) (a : Nat) (p : Page), s.pageAt a = some p →
    (∀ slots : List Nat, s.hostOpen = true → s.obj (objKey 0x2400 7) = 1 → s.keeper.offs = [] →
      (if s.keeper.offRun then (s.obj (objKey 0x2400 6) - 2) * s.keeper.hbm.total < s.keeper.hbm.allocated * 100
        else s.obj (objKey 0x2400 6) * s.keeper.hbm.total ≤ s.keeper.hbm.allocated * 100) → s.offloadable p = true →
      (s.allPages.filter s.offloadable).all (fun x => x.base == p.base || offBefore p x) = true → s.slotsFree slots = true →
      slots.length = p.frames → s.mayMove 2 3 = true →
      ∃ u : State, exec (.offloadStart a ⟨slots, []⟩) s = .next u ∧ u.keeper.offs = [{ page := p.base, slots := slots }] ∧
        Tab.get u.keeper.pages none (pageKey p.base) = some { p with mig := true } ∧ u.mem = s.mem) ∧
    (∀ o : Offload, s.keeper.offs.find? (fun o => o.page == a) = some o → (s.openOn p).isEmpty = true →
      (Tab.get s.host.pool {} (o.slots.headD 0 / 2 ^ 24)).state ≠ 2 → s.keeper.waitRets = [] → s.keeper.keepWaits = [] →
      s.keeper.pinned = [] → s.keeper.demoted = [] →
      ∃ u : State, exec (.offloadComplete a) s = .next u ∧ u.keeper.offs = s.keeper.offs.filter (fun x => x.page != a) ∧
        Tab.get u.keeper.pages none (pageKey p.base) = some { p with loc := 3, place := o.slots.headD 0, mig := false } ∧
        u.mem = s.mem) ∧
    (∀ o : Offload, s.keeper.offs.find? (fun o => o.page == a) = some o → s.keeper.keepWaits = [] →
      ∃ u : State, exec (.offloadTimeout a) s = .next u ∧ u.keeper.offs = s.keeper.offs.filter (fun x => x.page != a) ∧
        Tab.get u.keeper.pages none (pageKey p.base) = some { p with mig := false } ∧ u.mem = s.mem ∧ u.cols = s.cols) ∧
    (∀ (r : Return) (b : List Byte), s.keeper.rets.find? (fun r => r.page == a) = some r → p.base = a → p.frames = 1 →
      r.home = [] → r.lost = [] → s.fabric.waiting = [] → s.host.posted = [] → s.keeper.waitRets = [] →
      (b.length = 65536 → BitVec.ofNat 32 (crc32c b) = Tab.get s.keeper.hostCrc 0 p.place →
        ∃ u : State, exec (.returnBlockRead a 0 (some b)) s = .next u ∧ u.readMem a 65536 = b ∧
          Tab.get u.keeper.pages none (pageKey a) = some { p with loc := r.loc, place := r.frame, mig := false, unread := true } ∧
          u.keeper.rets = (s.keeper.rets.filter (fun x => x.page != a)) ∧
          u.keeper.winReturns = s.keeper.winReturns + 1) ∧
      (r.retried = [] →
        ∃ u : State, exec (.returnBlockRead a 0 none) s = .next u ∧
          u.out = .hostRead (s.slotAddr p.place) 65536 :: s.out ∧
          u.keeper.rets = s.keeper.rets.map (fun x => if x.page = a then { r with retried := [0] } else x) ∧
          u.obj (objKey 0x2400 0x0D) = min (s.obj (objKey 0x2400 0x0D) + 1) (objMax (objKey 0x2400 0x0D)) ∧ u.mem = s.mem)) ∧
    (1024 ≤ s.keeper.winReturns → s.obj (objKey 0x2400 0x10) * 1024 < s.keeper.winWasted * 100 →
      ∃ u : State, exec .prefetchWindowEnd s = .next u ∧ u.obj oPrefetch = min (s.obj oPrefetch / 2) (objMax oPrefetch) ∧
        u.keeper = { s.keeper with winReturns := s.keeper.winReturns - 1024, winWasted := 0, calm := 0 } ∧ u.mem = s.mem)

/-- R169, R191–R193: a migration takes a destination frame that may hold the page in flight, switches the leaf when the copy of its last
block is done, and releases the source frame once no request issued under the old leaf is open; a pool's books are checked while none of
its migrations runs, and a failed check starts a rebuild in SERVICE. The model's own choices here: assumptions 5 and 61. -/
def Obligations.MigrationsAndFrameBooks : Prop :=
  ∀ (s : State),
    (∀ (a loc place d : Nat) (p : Page), s.pageAt a = some p → p.base = a → p.mig = false → p.loc ≠ 3 → loc ≤ 2 →
      let s1 := if loc = 1 ∧ p.pin = 2 then s.dropRetained (fun r => !placesMeet place p.frames (r.place, r.frames)) else s
      s1.moveTo p loc place = some d → p.frames ≤ (s1.pool (poolOf loc)).free → s.mayMove (poolOf loc) (poolOf p.loc) = true →
      ∃ u : State, exec (.migrationStart a loc place) s = .next u ∧
        u.keeper.migs = s.keeper.migs ++ [{ page := a, loc := loc, place := d, frames := p.frames }] ∧
        u.pool (poolOf loc) = (s1.pool (poolOf loc)).fly p.frames ∧
        Tab.get u.keeper.pages none (pageKey a) = some { p with mig := true } ∧ u = { s with keeper := u.keeper }) ∧
    (∀ (a block : Nat) (p : Page) (m : Migration), s.pageAt a = some p →
      (s.keeper.migs.find? (fun m => m.page == a && !m.switched) = some m → s.fabric.waiting = [] → s.host.posted = [] →
        block + 1 < p.frames →
        ∃ u : State, exec (.migrationCopyDone { page := a, block := block }) s = .next u ∧ u = { s with keeper := u.keeper } ∧
          u.keeper.pages = s.keeper.pages ∧
          u.keeper.migs = s.keeper.migs.map (fun x => if x.page = a then { m with copied := max m.copied (block + 1) } else x)) ∧
      (s.keeper.migs.find? (fun m => m.page == a && !m.switched) = some m → s.fabric.waiting = [] → s.host.posted = [] →
        p.frames ≤ block + 1 →
        ∃ u : State, exec (.migrationCopyDone { page := a, block := block }) s = .next u ∧
          Tab.get u.keeper.pages none (pageKey p.base) =
            some { p with loc := if p.loc = 4 ∧ m.loc = 0 then 4 else m.loc, place := m.place } ∧
          u.pool (poolOf m.loc) = (s.pool (poolOf m.loc)).land p.frames ∧ u.mem = s.mem) ∧
      (s.keeper.migs.find? (fun m => m.page == a && m.switched) = some m → m.olds.any (fun e => (s.openOn p).elem e) = false →
        s.keeper.pinned = [] → s.keeper.demoted = [] → s.keeper.retained = [] → s.keeper.retiring = [] → s.keeper.waitRets = [] →
        s.keeper.keepWaits = [] →
        ∃ u : State, exec (.migrationSourceRelease a) s = .next u ∧
          u.keeper.migs = s.keeper.migs.filter (fun (x : Migration) => x.page != a) ∧
          u.pool (poolOf m.srcLoc) = (s.pool (poolOf m.srcLoc)).release p.frames ∧
          Tab.get u.keeper.pages none (pageKey p.base) = some { p with mig := false } ∧
          u = { s with keeper := u.keeper, objs := u.objs })) ∧
    (∀ i : Fin 4,
      exec (.frameBookCheckOverdue i) s =
        .next { s with keeper := { s.keeper with deferred := Tab.set s.keeper.deferred false i true } } ∧
      exec (.migrationDeferralExpire i) s =
        .next { s with keeper := { s.keeper with deferred := Tab.set s.keeper.deferred false i false } } ∧
      (s.poolBusy i = false →
        let b := s.pool i
        let good := b.free + b.allocated + b.inflight = b.total ∧ b.allocated = s.mapped i
        (good → exec (.frameBookCheck i) s =
          .next { s with keeper := { s.keeper with deferred := Tab.set s.keeper.deferred false i false } }) ∧
        (¬good → s.devState = stReady → ∃ u : State, exec (.frameBookCheck i) s = .next u ∧ u.devState = stService ∧
          u.obj (objKey 0x2400 0x13) = min (s.obj (objKey 0x2400 0x13) + 1) (objMax (objKey 0x2400 0x13)) ∧ u.mem = s.mem)))

/-- R170–R174, R196, R204: a patrol read that finds an HBM sector of class W, S or K with more wrong bytes than the code corrects poisons
it; held retirement entries are written by the retry; a re-centring that fails is told. The model's own choices here: assumptions 35, 63,
64 and 121. -/
def Obligations.PatrolRetirementAndEyes : Prop :=
  ∀ (s : State),
    (∀ (b : BadBytes) (p : Page), s.pageAt (b.sector * 64) = some p → p.loc = 0 → symbolClass p.cls = true →
      checkSector true (Tab.get s.poison false b.sector) (wrongBytes b.wrong) = .detected →
      ∃ u : State, exec (.patrolRead (b.sector * 64) [b]) s = .next u ∧ Tab.get u.poison false b.sector = true ∧ u.mem = s.mem) ∧
    (exec (.retirementFlashRetry true) s = .next { s with flash := { s.flash with
      retire := s.flash.retire ++ s.flash.heldRetire, heldRetire := [], retireFailed := false } }) ∧
    (∀ (k : StackId) (ch : Nat), s.stacks.elem k.val = true → ch < 32 →
      exec (.eyeRecentre k ch true) s = .next s ∧
      exec (.eyeRecentre k ch false) s = .next (s.event 0x2453 (srcStack k) [(1, k), (1, ch)]))

/-- R197: a write of n to 2402:03 confirms every entry whose seq is at most n and is rejected above the highest seq; an owner-level write of s to
2402:04 names the confirmed entry with seq s for removal, with event 0x2435 at severity 5, and is rejected for an unconfirmed or absent one;
the entry leaves the list at the next start-up. Of an empty list the highest seq is not defined and nothing is claimed of a confirmation. -/
def Obligations.RetirementListIsConfirmedAndPruned : Prop :=
  ∀ (s : State) (sess v : Nat),
    let confirm (e : RetireEntry) : RetireEntry := if e.seq ≤ v then { e with confirmed := true } else e
    (s.writeCheck sess (objKey 0x2402 3) (numBytes (objKey 0x2402 3) v) = dOk →
      (s.retireAll.any (fun e => decide (v ≤ e.seq)) = true →
        exec (.confirmThroughWrite sess v) s = .next ({ s with flash := { s.flash with
          retire := s.flash.retire.map confirm, heldRetire := s.flash.heldRetire.map confirm } }.emit (.opStatus sess dOk))) ∧
      (s.retireAll ≠ [] → s.retireAll.all (fun e => decide (e.seq < v)) = true →
        ∃ x : Nat, x ≠ dOk ∧ exec (.confirmThroughWrite sess v) s = .next (s.emit (.opStatus sess x)))) ∧
    (s.writeCheck sess (objKey 0x2402 4) (numBytes (objKey 0x2402 4) v) = dOk →
      (s.retireAll.any (fun e => e.seq == v && e.confirmed) = true →
        let named : State := { s with flash := { s.flash with removed := s.flash.removed ++ [v] } }
        exec (.removeEntryWrite sess v) s =
          .next (((named.setObj (objKey 0x2402 4) v).event 0x2435 srcKeeper [(4, v)]).emit (.opStatus sess dOk))) ∧
      (s.retireAll.any (fun e => e.seq == v && e.confirmed) = false →
        ∃ x : Nat, x ≠ dOk ∧ exec (.removeEntryWrite sess v) s = .next (s.emit (.opStatus sess x)))) ∧
    (∀ x : Session, sess ≠ 0 → s.session sess = some x → x.level = 0 →
      s.writeCheck sess (objKey 0x2402 4) (numBytes (objKey 0x2402 4) v) ≠ dOk) ∧
    sevOf 0x2435 = 5 ∧
    (∀ (diode : Option Int) (raw : List (Nat × Int)), s.devState = stReset → s.power.tripped = false → s.dev.straps ≠ none →
      ∃ u : State, exec (.rom diode raw) s = .next u ∧ u.flash.removed = [] ∧
      u.flash.retire = s.flash.retire.filter (fun e => !s.flash.removed.elem e.seq))

/-! ## Queues, contexts, sequences (chapter 07) -/

/-- R209–R217: a queue is enabled, disabled, rung, fetches and starts as its registers and the descriptor's checks say; a descriptor that
fails its checks gets its record and is counted, and a queue whose counts do not agree halts. The model's own choices here: assumptions 5
and 127. -/
def Obligations.QueuesTakeDescriptors : Prop :=
  ∀ (s : State) (q : QueueId),
    let x := s.queue q
    let first : Bool := !s.host.posted.any Posted.writes
    (∀ ctl : W64, ctl.toNat.testBit 31 = true → s.barOpen = true → first = true → x.state = 0 → s.running = true →
      let x1 : Queue := { x with ctl := ctlBits ctl }
      (x1.cfgOk = true → exec (.queueEnable q ctl) s =
        .next (s.setQueue q { x1 with state := 1, halt := 0, p := 0, c := 0, d := 0, descs := [] })) ∧
      (x1.cfgOk = false → ∃ u : State, exec (.queueEnable q ctl) s = .next u ∧ u.queue q = { x1 with state := 2, halt := 0x0503 } ∧
        u.mem = s.mem)) ∧
    (∀ ctl : W64, ctl.toNat.testBit 31 = false → s.barOpen = true → first = true →
      (x.ctl.toNat.testBit 31 = true → x.state = 1 ∨ x.state = 2 → exec (.queueDisable q ctl) s = .next (s.setQueue q
        { x with ctl := x.ctl &&& ~~~(0x80000000 : W64), state := if x.descs.isEmpty then 0 else 3, halt := 0 })) ∧
      (x.ctl.toNat.testBit 31 = false → x.state ≠ 2 →
        exec (.queueDisable q ctl) s = .next (s.setQueue q { x with ctl := ctlBits ctl &&& ~~~(0x80000000 : W64) }))) ∧
    (∀ v : W64, s.barOpen = true → first = true → x.state = 1 →
      let p := v.toNat % 2 ^ 32
      let bad := x.size < wrap32 (p + 2 ^ 32 - wrap32 x.d) ∨ 2 ^ 31 ≤ wrap32 (p + 2 ^ 32 - x.p)
      (bad → ∃ u : State, exec (.doorbell q v) s = .next u ∧ u.queue q = { x with state := 2, halt := 0x0501 } ∧ u.mem = s.mem) ∧
      (¬bad → exec (.doorbell q v) s = .next (s.setQueue q { x with p := p }))) ∧
    (∀ turn : Nat × Nat, x.state = 1 → x.c ≠ x.p → s.working = true → x.base.toNat.testBit 0 = false → s.hostOpen = true →
      s.turnFor q = some turn →
      let read := Output.hostRead (BitVec.ofNat 64 (x.base.toNat / 64 * 64 + x.c % x.size * 64)) 64
      (∃ u : State, exec (.descriptorFetch q none) s = .next u ∧ u.queue q = { x with state := 2, halt := 0x0502 } ∧
        u.out = read :: s.out ∧ u.mem = s.mem) ∧
      (∀ (b : List Byte) (d : Desc) (code : Nat), b.length = 64 → parseDesc x.c x.ver b = (d, code) →
        x.descs.all (fun e => e.n != x.c) = true →
        (wrap32 (x.c + 2 ^ 32 - wrap32 x.d) ≠ x.descs.length → ∃ u : State, exec (.descriptorFetch q (some b)) s = .next u ∧
          u.queue q = { x with state := 2, halt := 0x0504 } ∧ u.mem = s.mem) ∧
        (wrap32 (x.c + 2 ^ 32 - wrap32 x.d) = x.descs.length →
        (code = 0 → d.fmt = 2 → d.op ≠ 0x10 → s.stateCheck d = 0 →
          ∃ u : State, exec (.descriptorFetch q (some b)) s = .next u ∧
            u.queue q = { x with c := wrap32 (x.c + 1), descs := x.descs ++ [{ d with order := s.sched.nextOrder }] } ∧
            u.sched.turn = turn ∧ u.sched.nextOrder = s.sched.nextOrder + 1 ∧ u.out = read :: s.out ∧ u.mem = s.mem) ∧
        (code ≠ 0 → ∃ u : State, exec (.descriptorFetch q (some b)) s = .next u ∧ (u.queue q).c = wrap32 (x.c + 1) ∧
          (u.queue q).d = x.d + 1 ∧ (u.queue q).descs = x.descs ∧
          u.out = .hostWrite (BitVec.ofNat 64 (x.cqCnt.toNat / 8 * 8)) (leBytes 8 (x.d + 1)) ::
            .hostWrite (BitVec.ofNat 64 (x.cqBase.toNat / 16 * 16 + x.d % x.size * x.recSize))
              (recordBytes { x with c := wrap32 (x.c + 1) } d code 0) :: read :: s.out ∧
          u.obj (objKey 0x2500 7) = min (s.obj (objKey 0x2500 7) + 1) (objMax (objKey 0x2500 7)))))) ∧
    (∀ d : Desc, x.descs.find? (fun e => !e.started) = some d → (d.fence = true → x.descs.all (fun e => !e.started) = true) →
      s.working = true →
      (s.stateCheck d = 0 → exec (.descriptorStart q) s =
        .next (s.setQueue q { x with descs := x.descs.map (fun e => if e.n = d.n then { e with started := true } else e) })) ∧
      (s.stateCheck d ≠ 0 → d.op ≠ 0x10 → s.sched.slots = [] → s.hostOpen = true → x.descs.find? (fun e => e.n == d.n) = some d →
        ∃ u : State, exec (.descriptorStart q) s = .next u ∧ s.recorded u q d (s.stateCheck d) 0 ∧ u.mem = s.mem))

/-- R216, R217, R219–R226: contexts open and close, tensors take their class, a sequence waits, is checked again and is placed with its
threads started at its program where none before it could be, a template takes a slot, a restarted sequence starts the same threads again,
a cancelled one stops and leaves its slot. The model's own choices here: assumptions 59, 60, 128 and 142. -/
def Obligations.ContextsAndSequences : Prop :=
  ∀ (s : State),
    (∀ (q : QueueId) (n : Nat) (d : Desc),
      (s.runs q n 0x00 d → ∃ u : State, exec (.nopCommand q n) s = .next u ∧ s.recorded u q d 0 0 ∧ u.mem = s.mem) ∧
      (s.runs q n 0x01 d → s.ctx? d.ctx = none → ∃ u : State, exec (.ctxOpen q n) s = .next u ∧ s.recorded u q d 0 0 ∧
        u.ctx? d.ctx = some { league := d.f 0 4, prio := d.f 4 1, maxthr := d.f 6 2 } ∧
        u.obj oCtxs = min (s.obj oCtxs + 1) (objMax oCtxs) ∧ u.mem = s.mem) ∧
      (s.runs q n 0x02 d → ∃ u : State, exec (.ctxClose q n) s = .next u ∧ u.ctx? d.ctx = none ∧
        (∀ y ∈ u.sched.snaps, y.ctx ≠ d.ctx) ∧ (∀ y ∈ u.sched.waiting, y.ctx ≠ d.ctx) ∧
        (∀ t : Nat, t < 2 ^ 32 → u.tensorClass d.ctx t = 0xFF) ∧
        (s.sched.waiting = [] → s.sched.slots = [] → s.sched.snaps.all (fun y => y.ctx != d.ctx || y.ready) = true → s.keeper.regions.all (fun r => r.freeing.isEmpty) = true →
          s.allPages.all (fun p => p.ctx != d.ctx || 1 < p.life) = true → s.recorded u q d 0 0)) ∧
      (s.runs q n 0x03 d → ∃ u : State, exec (.tensorSet q n) s = .next u ∧ s.recorded u q d 0 0 ∧
        u.tensorClass d.ctx (d.f 0 4) = d.f 4 1 ∧ u.mem = s.mem) ∧
      (s.runs q n 0x10 d → s.taken q n = false →
        (∀ i : Nat, d.f 20 1 = 1 → s.freeSlotNo = some i → ∃ (u : State) (x : Seq), exec (.seqStart q n) s = .next u ∧
          s.recorded u q d 0 i ∧ u.slot i = some x ∧ x.kind = 1 ∧ x.ctx = d.ctx ∧ x.pc = BitVec.ofNat 64 (d.f 0 8) ∧ u.mem = s.mem) ∧
        (d.f 20 1 ≠ 1 → d.f 16 1 = 0 ∨ d.f 17 1 = 0 → d.eval = false →
          ∃ u : State, exec (.seqStart q n) s = .next u ∧ s.recorded u q d 0 0 ∧ u.mem = s.mem ∧ u.sched.waiting = s.sched.waiting) ∧
        (d.f 20 1 ≠ 1 → d.f 16 1 ≠ 0 → d.f 17 1 ≠ 0 → ∃ x : Seq, exec (.seqStart q n) s =
            .next { s with sched := { s.sched with waiting := s.sched.waiting ++ [x] } } ∧
          x.ctx = d.ctx ∧ x.pc = BitVec.ofNat 64 (d.f 0 8) ∧ x.arg = BitVec.ofNat 64 (d.f 8 8) ∧ x.cores = d.f 16 1 ∧
          x.tpc = d.f 17 1 ∧ x.win = d.f 18 1 ∧ x.eng = d.f 19 1 ∧ x.cmds = [(q.val, n)] ∧
          x.snap = BitVec.ofNat 64 d.snapAt ∧ x.step = d.step ∧ x.order = d.order ∧ x.since = s.dev.ctlCyc)) ∧
      (s.runs q n 0x11 d →
        (s.stateCheck d ≠ 0 → ∃ u : State, exec (.seqCancel q n) s = .next u ∧ u.slot (d.f 0 2) = s.slot (d.f 0 2) ∧
          s.recorded u q d (s.stateCheck d) 0 ∧ u.mem = s.mem) ∧
        (∀ x : Seq, s.slot (d.f 0 2) = some x → 2 ≤ x.kind → x.kind < 4 → (s.ctx? d.ctx).isSome = true → s.stateCheck d = 0x0203) ∧
        (s.stateCheck d = 0 → ∀ x : Seq, s.slot (d.f 0 2) = some x →
          (x.kind = 0 → ∃ u : State, exec (.seqCancel q n) s = .next u ∧ u.slot (d.f 0 2) = none ∧
            ∀ p ∈ x.live, (u.thread p.1 p.2).st = .free ∨ (u.thread p.1 p.2).freeing = true) ∧
          (x.kind = 1 → ∃ u : State, exec (.seqCancel q n) s = .next u ∧ u.slot (d.f 0 2) = none ∧
            (∀ y ∈ u.sched.waiting, y.kind ≠ 2 ∨ y.template ≠ d.f 0 2) ∧
            (x.batch = none → s.sched.waiting = [] → s.recorded u q d 0 0))))) ∧
    (∀ (k slot : Nat) (x : Seq) (l : List (Nat × List (Nat × Nat × Nat))), s.sched.waiting[k]? = some x → s.working = true →
      s.startCode x = 0 → x.cores ≤ (s.coresFor x).length →
      (s.coresFor x).all (fun c => !((s.core c).allParked && (s.reliefFor c).any (fun y => y.1 == k))) = true →
      s.fit x = some l → s.freeSlotNo = some slot →
      s.waiters.all (fun y => !(y.2.before x && ((s.fit y.2).isSome || s.starved y.2))) = true →
      ∃ (u : State) (y : Seq), exec (.sequencePlace k) s = .next u ∧ u.sched.waiting = s.sched.waiting.eraseIdx k ∧
        u.slot slot = some y ∧ y.live = l.flatMap (fun e => e.2.map (fun t => (e.1, t.1))) ∧
        ∀ e ∈ y.live, ((u.thread e.1 e.2).st = .ready ∨ (u.thread e.1 e.2).st = .run) ∧ (u.thread e.1 e.2).pc = x.pc ∧
          (u.thread e.1 e.2).sreg 1 = x.arg ∧ (u.thread e.1 e.2).ctx = x.ctx ∧ (u.thread e.1 e.2).seq = slot) ∧
    (∀ (k n : Nat) (q : QueueId) (d : Desc) (x : Seq), s.sched.waiting[k]? = some x → s.working = true → x.kind = 0 → x.cmds = [(q.val, n)] →
      (s.queue q).descs.find? (fun e => e.n == n) = some d → s.stateCheck d ≠ 0 → x.eval = false → s.hostOpen = true →
      ∃ u : State, exec (.sequencePlace k) s = .next u ∧ u.sched.waiting = s.sched.waiting.eraseIdx k ∧
        s.recorded u q d (s.stateCheck d) 0 ∧ u.mem = s.mem) ∧
    (∀ (slot : SlotId) (x : Seq), s.slot slot = some x → x.restarting = true → s.placesFree x = true →
      x.placed.all (fun p => (s.thread p.1 p.2.1).st == .free && !(s.thread p.1 p.2.1).freeing) = true →
      ∃ (u : State) (y : Seq), exec (.sequenceRestart slot) s = .next u ∧ u.slot slot = some y ∧ y.restarting = false ∧
        (∀ p, p ∈ y.placed ↔ p ∈ x.placed) ∧ y.live = y.placed.map (fun p => (p.1, p.2.1)) ∧
        ∀ p ∈ x.placed, ((u.thread p.1 p.2.1).st = .ready ∨ (u.thread p.1 p.2.1).st = .run) ∧ (u.thread p.1 p.2.1).pc = x.pc ∧
          (u.thread p.1 p.2.1).sreg 1 = x.arg ∧ (u.thread p.1 p.2.1).ctx = x.ctx ∧ (u.thread p.1 p.2.1).seq = slot)

/-- R10, R217, R228–R236: rows join, open and close batches, with the cap sampled when the batch opens; a step's end is told once its
pushes have gone; snapshots are begun, sealed, shipped or not delivered; the evaluation slice is a multiple of four. The model's own
choices here: assumptions 49, 57, 126 and 142. -/
def Obligations.BatchesStepsAndSnapshots : Prop :=
  ∀ (s : State),
    (∀ (q : QueueId) (n : Nat) (d : Desc) (t : Seq), s.runs q n 0x12 d → s.taken q n = false → s.slot (d.f 0 2) = some t →
      s.stateCheck d = 0 → s.sched.slots.all (fun e => e.2.all (fun y => y.batch.all (fun b => b.cap != 0))) = true →
      (d.f 2 1 = 0 → ∃ u : State, exec (.rows q n) s = .next u ∧ s.recorded u q d 0 0 ∧ u.slot (d.f 0 2) = some t) ∧
      (∀ b : Batch, t.batch = some b → 0 < d.f 2 1 → b.rows.length + d.f 2 1 < 32 → d.f 3 1 = 0 →
        exec (.rows q n) s = .next (s.setSlot (d.f 0 2) (some { t with
          batch := some { b with rows := b.rows ++ rowsOf d, cmds := b.cmds ++ [(q.val, n)] } }))) ∧
      (t.batch = none → 0 < d.f 2 1 → d.f 2 1 < 32 → d.f 3 1 = 0 → s.obj (objKey 0x2500 1) ≠ 0 →
        exec (.rows q n) s = .next (s.setSlot (d.f 0 2) (some { t with
          batch := some { cap := s.obj (objKey 0x2500 1), limits := some (s.obj (objKey 0x2500 3), s.obj (objKey 0x2500 4)),
                          rows := rowsOf d, cmds := [(q.val, n)] } }))) ∧
      (t.batch = none → 0 < d.f 2 1 → d.f 2 1 < 32 → d.f 3 1 = 0 → s.obj (objKey 0x2500 1) = 0 → t.cores ≠ 0 → t.tpc ≠ 0 →
        s.sched.queues.all (fun e => e.2.descs.all (fun y => y.op != 0x12 || (e.1 == q.val && y.n == n))) = true →
        ∃ (u : State) (x : Seq), exec (.rows q n) s = .next u ∧ u.sched.waiting = s.sched.waiting ++ [x] ∧ x.kind = 2 ∧
          x.rows = rowsOf d ∧ x.cmds = [(q.val, n)] ∧ x.number = t.nextBatch ∧ x.template = d.f 0 2 ∧
          u.obj oCapped = min (s.obj oCapped + 1) (objMax oCapped) ∧ u.mem = s.mem) ∧
      (∀ b : Batch, t.batch = some b → 0 < d.f 2 1 → b.rows.length + d.f 2 1 = 32 → t.cores ≠ 0 → t.tpc ≠ 0 →
        ∃ (u : State) (x : Seq), exec (.rows q n) s = .next u ∧ u.sched.waiting = s.sched.waiting ++ [x] ∧ x.kind = 2 ∧
          x.rows = b.rows ++ rowsOf d ∧ x.cmds = b.cmds ++ [(q.val, n)] ∧ x.number = t.nextBatch ∧ x.template = d.f 0 2 ∧
          x.limits = b.limits ∧
          u.slot (d.f 0 2) = some { t with batch := none, nextBatch := t.nextBatch + 1 } ∧
          u.obj oFull = min (s.obj oFull + 1) (objMax oFull) ∧ u.mem = s.mem)) ∧
    (∀ (slot : SlotId) (t : Seq) (b : Batch), s.slot slot = some t → t.batch = some b → t.cores ≠ 0 → t.tpc ≠ 0 →
      ∃ (u : State) (x : Seq), exec (.batchCapExpire slot) s = .next u ∧ u.sched.waiting = s.sched.waiting ++ [x] ∧ x.kind = 2 ∧
        x.rows = b.rows ∧ x.cmds = b.cmds ∧ x.number = t.nextBatch ∧ x.template = slot.val ∧ x.limits = b.limits ∧
        u.slot slot = some { t with batch := none, nextBatch := t.nextBatch + 1 } ∧
        u.obj oCapped = min (s.obj oCapped + 1) (objMax oCapped) ∧ u.mem = s.mem) ∧
    (∀ (q : QueueId) (n : Nat) (d : Desc) (l : Layout), s.runs q n 0x20 d → s.pass.layout = some l →
      l.league = s.leagueOf d.ctx →
      (s.decisionOf d.step = some true → d.step ≤ s.pass.fstep →
        (s.pushing d.step = false → ∃ u : State, exec (.stepEnd q n) s = .next u ∧ s.recorded u q d 0 0 ∧ u.mem = s.mem) ∧
        (s.pushing d.step = true → exec (.stepEnd q n) s = .next s)) ∧
      (s.decisionOf d.step = some false → ∃ u : State, exec (.stepEnd q n) s = .next u ∧ s.recorded u q d 0x0404 0 ∧ u.mem = s.mem)) ∧
    (∀ (q : QueueId) (n : Nat) (d : Desc) (frames : List Nat), s.runs q n 0x28 d →
      s.sched.snaps.any (fun (y : Snap) => y.cmd == (q.val, n)) = false →
      (d.f 8 8 = 0 → ∃ u : State, exec (.snapshot q n frames) s = .next u ∧ s.recorded u q d 0 0 ∧ u.mem = s.mem) ∧
      (d.f 8 8 ≠ 0 → (d.f 16 2 = 0xFFFF → (s.bare.allocate (snapDesc d.ctx (d.f 8 8)) d.ctx frames).2.1 = 0) →
        ∃ (u : State) (x : Snap), exec (.snapshot q n frames) s = .next u ∧ u.sched.snaps = s.sched.snaps ++ [x] ∧ x.ctx = d.ctx ∧
          x.id = d.f 18 1 ∧ x.src = d.f 0 8 ∧ x.size = d.f 8 8 ∧ x.dev = d.f 16 2 ∧ x.cmd = (q.val, n) ∧ x.ready = false ∧ u.mem = s.mem ∧
          (d.f 16 2 = 0xFFFF → x.dst = (globalOf s.ownDev (s.bare.allocate (snapDesc d.ctx (d.f 8 8)) d.ctx frames).2.2).toNat) ∧
          (d.f 16 2 ≠ 0xFFFF → ∃ o : Outstanding, u.fabric.outs = s.fabric.outs ++ [o] ∧ o.keep = some (q.val, n) ∧ o.id = idKeep))) ∧
    (∀ (x : Snap) (d : Desc), s.sched.snaps.find? (fun (y : Snap) => y.ctx == x.ctx && y.id == x.id && !y.ready) = some x →
      s.hostOpen = true → (s.queue x.cmd.1).descs.find? (fun d => d.n == x.cmd.2) = some d →
      (x.dev ≠ 0xFFFF → x.stage = 1 → s.fabric.outs.all (fun o => o.id != idShip || o.keep != some x.cmd) = true →
        ∃ (u : State) (o : Outstanding), exec (.snapshotCopyDone x.ctx x.id true) s = .next u ∧ u.fabric.outs = s.fabric.outs ++ [o] ∧
          o.id = idKeep ∧ o.keep = some x.cmd ∧ u.mem = s.mem ∧ { x with stage := 2 } ∈ u.sched.snaps) ∧
      (x.dev = 0xFFFF → ∃ u : State, exec (.snapshotCopyDone x.ctx x.id true) s = .next u ∧ { x with ready := true } ∈ u.sched.snaps ∧
        s.recorded u x.cmd.1 d 0 x.dst ∧
        (s.sched.snaps = [x] → u.readMem (x.dst % 2 ^ 48) x.size = s.readMem x.src x.size)) ∧
      (∃ u : State, exec (.snapshotCopyDone x.ctx x.id false) s = .next u ∧
        u.sched.snaps = s.sched.snaps.filter (fun (y : Snap) => y.cmd != x.cmd || y.ready) ∧ s.recorded u x.cmd.1 d 0x0405 0)) ∧
    (∀ sess v : Nat, s.writeCheck sess oSlice (numBytes oSlice v) = dOk → v % 4 = 0 →
      exec (.evalSliceWrite sess v) s = .next ((s.setObj oSlice v).emit (.opStatus sess dOk)))

/-! ## The pass, the huddle and the update (chapters 08 and 09) -/

/-- R246–R254, R261, R268: a contribution is held until its turn, then folded in member order; at the deadline every owned chunk of the
layer is decided, or due where the update buffer has no room; a replica records the mask; a push goes into the retained copy or the
column; a packet of an unlisted type is discarded and counted. The model's own choices here: assumptions 45, 46, 92, 93, 130 and 132. -/
def Obligations.ContributionsFoldInMemberOrder : Prop :=
  ∀ (s : State) (l : Layout) (e : LayerEntry), s.pass.layout = some l → s.pass.heldPkts = [] → s.pass.heldPass = [] →
    (∀ (p : PassPkt) (r : Reduction), s.passFate p = .current → l.layer? p.layer = some e → p.chunk < e.chunks → p.member < l.members →
      p.fmt ≤ 1 → l.ownerOf e (e.partOf p.chunk) = s.ownDev → p.step = s.openStep → s.pass.handover.elem (p.layer, e.partOf p.chunk) = false →
      p.gen % 16 = 2 → s.genDiffers (l.devAt p.member e.stage) = false → (s.engine (s.engineOf p.layer)).free ≠ 0 →
      s.redOf p.step p.layer p.chunk = some r → r.decided = false → r.folded.elem p.member = false →
      r.held.any (fun (x : PassPkt) => x.member == p.member && x.idx == p.idx) = false → r.excluded.elem p.member = false →
      r.next < l.members → r.excluded.elem r.next = false → s.genDiffers (l.devAt r.next e.stage) = false →
      let r1 : Reduction := { r with held := r.held ++ [p] }
      (p.member ≠ r.next → r.held.all (fun (x : PassPkt) => x.member != r.next) = true →
        ∃ u : State, exec (.contrib ⟨1, p⟩) s = .next u ∧ u.redOf p.step p.layer p.chunk = some r1 ∧ u.mem = s.mem) ∧
      (p.member = r.next → r1.whole (e.inChunk p.chunk) p.member = true → (r.c = 0 → s.bufRoom (s.engineOf p.layer) = true) →
        s.ledgerOf p.step p.layer p.chunk p.member = [] → p.member + 1 < l.members → r.excluded.elem (p.member + 1) = false →
        s.genDiffers (l.devAt (p.member + 1) e.stage) = false → r.held.all (fun (x : PassPkt) => x.member != p.member + 1) = true →
        ∃ u : State, exec (.contrib ⟨1, p⟩) s = .next u ∧ u.mem = s.mem ∧
          u.redOf p.step p.layer p.chunk =
            some { r1.fold (s.n40Cols l p.layer) (contribVals (r1.of p.member)) with
              next := p.member + 1, folded := r.folded ++ [p.member]
              held := r1.held.filter (fun (x : PassPkt) => x.member != p.member) })) ∧
    (∀ (type : Nat) (p : PassPkt), type ≠ 1 →
      ∃ u : State, exec (.contrib ⟨type, p⟩) s = .next u ∧ u.mem = s.mem ∧ u.pass = { s.pass with engines := u.pass.engines } ∧
        u.engine (s.engineOf p.layer) = { s.engine (s.engineOf p.layer) with
          packetsIn := (s.engine (s.engineOf p.layer)).packetsIn + 1, discarded := (s.engine (s.engineOf p.layer)).discarded + 1 }) ∧
    (∀ layer : Nat, l.layer? layer = some e → s.pass.started.elem layer = true → (s.sampleOf s.openStep).deadline ≠ 0 →
      ∃ u : State, exec (.stepDeadlineExpire s.openStep layer) s = .next u ∧ u.mem = s.mem ∧
        ∀ j i, j < e.parts → l.ownerOf e j = s.ownDev → i < e.nChunks j → ∃ r : Reduction,
          u.redOf s.openStep layer (e.lo j + i) = some r ∧ (r.decided = true ∨ r.due = true) ∧
          ((s.buf (s.engineOf layer)).length + e.chunks ≤ (s.sampleOf s.openStep).depth → s.pass.reds.all (fun x => !x.due) = true →
            r.decided = true)) ∧
    (∀ p : PassPkt, s.passFate p = .current → l.layer? p.layer = some e → (l.replicas e).elem s.ownDev = true →
      let k := (l.members + 7) / 8
      p.payload.length = 2 * k + 4 →
      ∃ u : State, exec (.mask p) s = .next u ∧ u.mem = s.mem ∧ ({ step := p.step, layer := p.layer, chunk := p.chunk, mask := p.payload.take k, late := (p.payload.drop k).take k, c := fieldAt p.payload (2 * k) 4 } : MaskRec) ∈ u.pass.masks) ∧
    (∀ (p : PassPkt) (addr epoch : Nat) (t : RemoteTrans), s.passFate p = .current → s.remoteOf addr = some t → t.sealed = true →
      t.epoch = epoch →
      let g := addr % 2 ^ 62
      let line := g / 4096
      let bank := Tab.get (s.col (line % 96)).steerR 0 (fold6 line)
      (∀ r : Retained, s.copyOf t = some r →
        ∃ u : State, exec (.push p addr epoch) s = .next u ∧ r.add g p.payload ∈ u.keeper.retained ∧ u.mem = s.mem) ∧
      (s.copyOf t = none → bank ≠ 0 → g % 256 = 0 → p.payload.length % 256 = 0 → g % 4096 + p.payload.length ≤ 4096 →
        ∃ u : State, exec (.push p addr epoch) s = .next u ∧ u.mem = s.mem ∧
          u.col (line % 96) = (s.col (line % 96)).install { bank := bank - 1, set := line / 64 % 32, line := line, remote := true
                                                            valid := sectorBits g p.payload.length, epoch := epoch
                                                            data := Tab.writeBytes [] (g % 4096) p.payload }))

/-- R246, R247, R262, R264: a request leaves its engine's queue and tells its end at its completion counter, with a status where it fails;
lists of a top-k merge meet at the root, piece by piece; a merge whose deadline passes ends as incomplete. The model's own choices here:
assumptions 44, 88 and 132. -/
def Obligations.PassRequestsAndMergesEnd : Prop :=
  ∀ (s : State) (e : EngId) (r : PassReq) (rest : List PassReq) (peer : List Byte),
    let a := localOf r.done
    let tells (u : State) (status : Nat) : Prop := u.memNat a 8 = (s.memNat a 8 + 1) % 2 ^ 64 ∧ (status ≠ 0 → u.memNat (a + 8) 4 = status)
    s.useLocal r.ctx a true = 0 → s.useLocal r.ctx (a + 8) true = 0 → (s.pageAt a).all (fun p => !p.lost) = true →
    (s.pageAt (a + 8)).all (fun p => !p.lost) = true →
    s.keeper.offs.all (fun o => (s.pageAt o.page).all (fun p => p.base == o.page)) = true → s.pass.heldPkts = [] → s.pass.heldPass = [] →
    ((s.engine e).reqs = r :: rest →
      (r.op ≠ 1 → r.op ≠ 2 → ∃ u : State, exec (.passRequestContrib e peer) s = .next u ∧ (u.engine e).reqs = rest ∧ tells u 0x0601) ∧
      (∀ (l : Layout) (x : LayerEntry) (m : Nat) (data : List Byte), r.op = 1 → r.fmt ≤ 1 → r.rows = 0 → r.k = 0 → r.root = 0 → r.out = 0 →
        r.bad = false → s.pass.layout.any (fun cur => (cur.layer? r.layer).any (fun y => (cur.memberOf s.ownDev y.stage).isSome)) = true →
        s.layoutFor r.step = some l → l.layer? r.layer = some x → l.memberOf s.ownDev x.stage = some m →
        r.first + r.count ≤ x.chunks →
        s.requestData r peer (((List.range r.count).map (fun i => x.inChunk (r.first + i))).sum * contribSize r.fmt) = some data →
        s.leagueOf r.ctx = l.league → r.step ≤ s.openStep + 1 → s.openStep ≤ r.step + 1 →
        ∃ u : State, exec (.passRequestContrib e peer) s = .next u ∧ (u.engine e).reqs = rest ∧ tells u 0) ∧
      (∀ (l : Layout) (b : List Byte), r.op = 2 → r.fmt = 0 → r.rows ≤ 32 → 0 < r.k → r.k ≤ 256 → r.count ≤ 4096 → r.first < r.count →
        r.root ≤ 16383 → r.bad = false → s.requestData r peer (blockBytes r.rows r.k) = some b → s.pass.layout = some l →
        s.leagueOf r.ctx = l.league →
        (r.root ≠ s.ownDev → r.out = 0 →
          ∃ u : State, exec (.passRequestTopk e peer) s = .next u ∧ (u.engine e).reqs = rest ∧ tells u 0) ∧
        (r.root = s.ownDev → 2 ≤ r.count → s.pass.merges = [] →
          ∃ (u : State) (m : Merge), exec (.passRequestTopk e peer) s = .next u ∧ (u.engine e).reqs = rest ∧ u.pass.merges = [m] ∧
            m.req = some r ∧ m.arrived = [r.first] ∧ u.mem = s.mem))) ∧
    (∀ (c id : Nat) (w : List (Nat × Nat)) (f : FarReq) (off : Nat) (b : List Byte), (s.engine e).waiting = (c, id) :: w →
      (s.engine e).reqs.length < 256 → (s.core c).req id = some f → whole64 f.masked = some (off, b) →
      exec (.passQueueRoom e) s = .next ((s.setEngine e { s.engine e with
        waiting := w, reqs := (s.engine e).reqs ++ [parseReq c f.ctx b] }).serve c id [] 0)) ∧
    (∀ (p : PassPkt) (rows k count : Nat), s.passFate p ≠ .discard → s.passFate p ≠ .unknown → rows ≤ 32 → p.member < count →
      p.chunk = 0 → p.idx = 0 →
      let m := s.mergeOf p.league p.layer p.step
      m.arrived.elem p.member = false → m.pieces.all (fun x => x.1 != p.member) = true → m.req = none →
      (p.flags.testBit 1 = true → p.payload.length = blockBytes rows k →
        ∃ u : State, exec (.topk p rows k count s.ownDev) s = .next u ∧ m.offer p.member rows k p.payload ∈ u.pass.merges ∧ u.mem = s.mem) ∧
      (p.flags.testBit 1 = false →
        ∃ u : State, exec (.topk p rows k count s.ownDev) s = .next u ∧ u.mem = s.mem ∧
          { m with pieces := m.pieces ++ [(p.member, 0, false, p.payload)] } ∈ u.pass.merges)) ∧
    (∀ m : Merge, s.pass.merges.find? (fun x => x.league == m.league && x.group == m.group && x.batch == m.batch) = some m →
      m.arrived ≠ [] → m.req = some r → (∃ i, i < r.count ∧ i ∉ m.arrived) → s.isLocal r.out = false →
      ∃ u : State, exec (.mergeDeadlineExpire m.league m.group m.batch) s = .next u ∧
        u.pass.merges = s.pass.merges.filter (fun x => !x.same m) ∧ tells u 0x0606)

/-- R256–R258, R281: READY is sent once per step; a FAIL, a timeout or the lead's DECIDE discards the step; DECIDE COMMIT flips the
shadowed pages; FLIPPED is collected; RELEASE frees the previous frames. The model's own choices here: assumptions 42, 43, 44, 129 and
131. -/
def Obligations.HuddleDecidesAndFlips : Prop :=
  ∀ (s : State) (l : Layout), s.pass.layout = some l → s.pass.heldPkts = [] → s.pass.heldPass = [] →
    (s.pass.ready.any (fun r => r.1 == s.openStep) = false → l.lead ≠ s.ownDev → l.devices.elem s.ownDev = true → s.pass.commitWait = false →
      (s.pass.failed = false → s.whistled = false → s.partsDone s.openStep = true → s.snapWaits = false →
        ∃ u : State, exec .deviceReady s = .next u ∧ u.pass.ready = some (s.openStep, true) ∧
          (s.openStep, s.ownDev, true, s.upd.totals) ∈ u.pass.readys ∧ u.mem = s.mem) ∧
      (s.pass.failed = true ∨ s.whistled = true →
        ∃ u : State, exec .deviceReady s = .next u ∧ u.pass.ready = some (s.openStep, false) ∧
          (s.openStep, s.ownDev, false, s.upd.totals) ∈ u.pass.readys ∧ u.mem = s.mem)) ∧
    (∀ (p : PassPkt) (ok : Bool) (stats : List PartStats), s.passFate p = .current → l.devices.elem p.dev = true →
      (l.lead ≠ s.ownDev → s.openStep ≤ p.step → s.pass.commitWait = false → ∃ u : State, exec (.ready p ok stats) s = .next u ∧
        u.pass.readys = s.pass.readys.filter (fun r => !(r.1 == p.step && r.2.1 == p.dev)) ++ [(p.step, p.dev, ok, stats)] ∧
        u.mem = s.mem) ∧
      (l.lead = s.ownDev → p.step = s.openStep → s.decisionOf p.step = none → ok = false → s.pass.commitWait = false →
        ∃ u : State, exec (.ready p ok stats) s = .next u ∧ s.discarded u p.step) ∧
      (s.pass.commitWait = true → p.step = s.openStep →
        let s1 : State := { s with pass := { s.pass with
          readys := s.pass.readys.filter (fun r => !(r.1 == p.step && r.2.1 == p.dev)) ++ [(p.step, p.dev, ok, stats)] } }
        s.splitOwned.any (fun q => (s1.layerTotals s.openStep q.1).isNone) = false →
        ∃ u : State, exec (.ready p ok stats) s = .next u ∧ s.committed u s.openStep)) ∧
    (l.lead = s.ownDev → s.pass.ready.any (fun r => r.1 == s.openStep) = true → s.decisionOf s.openStep = none →
      ∃ u : State, exec .huddleTimeout s = .next u ∧ s.discarded u s.openStep) ∧
    (∀ p : PassPkt, s.passFate p = .current → p.step = s.openStep → s.decisionOf p.step = none → s.pass.answeredNone ≠ some p.step →
      p.dev = l.lead →
      (∃ u : State, exec (.decide p false) s = .next u ∧ s.discarded u p.step) ∧
      (s.whistled = false → s.splitOwned = [] → ∃ u : State, exec (.decide p true) s = .next u ∧ s.committed u p.step ∧
        (∀ (g : Page) (x : Shadow), s.keeper.shadows = [x] → x.page = g.base → s.pageAt g.base = some g → s.fabric.waiting = [] →
          s.allPages.all (fun x => x.life != 3) = true → s.upd.bufs.all (fun x => x.2.all (fun b => !b.running)) = true →
          (∃ h : Page, Tab.get u.keeper.pages none (pageKey g.base) = some h ∧ h.loc = x.loc ∧ h.place = x.place ∧
            h.sepoch = if g.sealed then (g.sepoch + 1) % 2 ^ 16 else g.sepoch) ∧
          ∀ a, g.base ≤ a → a < g.base + g.bytes →
          Tab.get u.mem 0 a = Tab.get s.shadow 0 a ∧ (l.lead ≠ s.ownDev → Tab.get u.prev 0 a = Tab.get s.mem 0 a)))) ∧
    (∀ p : PassPkt, s.passFate p = .current → l.lead = s.ownDev → s.pass.flipStep = p.step → s.pass.flippedFrom.elem p.dev = false →
      l.devices.elem p.dev = true →
      ∃ u : State, exec (.flipped p) s = .next u ∧ u.pass.flippedFrom = p.dev :: s.pass.flippedFrom ∧
        (l.devices.all (fun d => (p.dev :: s.pass.flippedFrom).elem d) = true → ∀ f ∈ u.keeper.flipped, f.step ≠ p.step) ∧
        (l.devices.all (fun d => (p.dev :: s.pass.flippedFrom).elem d) = false → u.keeper = s.keeper)) ∧
    (∀ p : PassPkt, s.passFate p = .current →
      ∃ u : State, exec (.release p) s = .next u ∧ (∀ f ∈ u.keeper.flipped, f.step ≠ p.step) ∧ u.mem = s.mem) ∧
    (∀ (layer : Nat) (stats : List PartStats), s.pass.commitWait = true →
      let s1 : State := { s with pass := { s.pass with
        readys := s.pass.readys ++ [(s.openStep, 0xFFFF, true, stats.filter (fun p => p.layer == layer))] } }
      (s.splitOwned.any (fun p => (s1.layerTotals s.openStep p.1).isNone) = true →
        exec (.splitStatsFetch layer stats) s = .next { s1 with pass := { s1.pass with commitWait := true } }) ∧
      (s.splitOwned.any (fun p => (s1.layerTotals s.openStep p.1).isNone) = false →
        ∃ u : State, exec (.splitStatsFetch layer stats) s = .next u ∧ s.committed u s.openStep))

/-- R259, R326: a device without a decision asks the others; a device answers with its decision or none; an undecided lead discards; the
answers, or the time's end, decide without the lead, which is then fenced. The model's own choices here: assumptions 44 and 129. -/
def Obligations.QueriesDecideWithoutTheLead : Prop :=
  ∀ (s : State) (l : Layout), s.pass.layout = some l → s.pass.heldPkts = [] → s.pass.heldPass = [] →
    (l.lead ≠ s.ownDev → s.pass.ready.any (fun r => r.1 == s.openStep) = true → s.decisionOf s.openStep = none → s.pass.query = none →
      ∃ u : State, exec .queryStart s = .next u ∧ u.pass.query = some { step := s.openStep } ∧ u.mem = s.mem) ∧
    (∀ p : PassPkt, s.passFate p = .current →
      (∀ d : Bool, s.decisionOf p.step = some d → ∃ u : State, exec (.query p) s = .next u ∧
        u.pass = { s.pass with seqs := u.pass.seqs, engines := u.pass.engines } ∧
        Tab.get u.pass.seqs 0 p.dev = (Tab.get s.pass.seqs 0 p.dev + 1) % 2 ^ 32 ∧ u.mem = s.mem) ∧
      (s.decisionOf p.step = none → l.lead = s.ownDev → p.step = s.openStep →
        ∃ u : State, exec (.query p) s = .next u ∧ s.discarded u p.step) ∧
      (s.decisionOf p.step = none → l.lead ≠ s.ownDev →
        ∃ u : State, exec (.query p) s = .next u ∧ u.pass.answeredNone = some p.step ∧
          Tab.get u.pass.seqs 0 p.dev = (Tab.get s.pass.seqs 0 p.dev + 1) % 2 ^ 32 ∧ u.mem = s.mem)) ∧
    (∀ q : Query, s.pass.query = some q → q.step = s.openStep → s.decisionOf q.step = none →
      (∃ u : State, exec .queryRepeat s = .next u ∧ u.pass = { s.pass with seqs := u.pass.seqs, engines := u.pass.engines } ∧
        (∀ d ∈ s.others l, q.answers.any (fun a => a.1 == d) = false →
          Tab.get u.pass.seqs 0 d = (Tab.get s.pass.seqs 0 d + 1) % 2 ^ 32) ∧ u.mem = s.mem) ∧
      (∀ (p : PassPkt) (dec : Option Bool), s.passFate p = .current → p.step = q.step → l.devices.elem p.dev = true →
        (dec = some false → p.dev = l.lead → ∃ u : State, exec (.answer p dec) s = .next u ∧ s.discarded u q.step) ∧
        (dec = some true → p.dev = l.lead → s.splitOwned = [] → ∃ u : State, exec (.answer p dec) s = .next u ∧ s.committed u q.step) ∧
        (q.leadSilent = false → p.dev ≠ l.lead → ∃ u : State, exec (.answer p dec) s = .next u ∧
          u.pass.query = some { q with answers := q.answers.filter (fun a => a.1 != p.dev) ++ [(p.dev, dec)] } ∧ u.mem = s.mem)) ∧
      (q.answers.any (fun a => a.1 == l.lead) = false → q.answers.any (fun a => a.2 == some true) = false →
        (((s.others l).filter (fun d => d != l.lead)).all (fun d => q.answers.any (fun a => a.1 == d)) = false →
          ∃ u : State, exec .leadSilence s = .next u ∧ u.pass.query = some { q with leadSilent := true } ∧ u.mem = s.mem) ∧
        (((s.others l).filter (fun d => d != l.lead)).all (fun d => q.answers.any (fun a => a.1 == d)) = true →
          ∃ u : State, exec .leadSilence s = .next u ∧ s.discarded u q.step ∧ u.leagueFenced l.lead l.league = true)) ∧
      (q.answers.any (fun a => a.2 == some true) = false → ∃ u : State, exec .queryTimeout s = .next u ∧ s.discarded u q.step ∧
        ∀ d ∈ s.others l, q.answers.any (fun a => a.1 == d) = false → u.leagueFenced d l.league = true) ∧
      (q.answers.any (fun a => a.2 == some true) = true → s.splitOwned = [] →
        ∃ u : State, exec .queryTimeout s = .next u ∧ s.committed u q.step))

/-- R243, R244, R262, R263, R273: layouts and update tables are armed through their objects, the first becomes current at once; packets of
an unknown epoch are let go after their time; the state of parts moves to its new owners. The model's own choices here: assumptions 34 and
132. -/
def Obligations.LayoutsAndTablesAreArmed : Prop :=
  ∀ (s : State) (sess v : Nat) (peer : PeerRead),
    (s.writeCheck sess oLayAddr (numBytes oLayAddr v) = dOk → s.pass.armed = none →
      exec (.layoutAddressWrite sess v) s = .next ((s.setObj oLayAddr v).emit (.opStatus sess dOk))) ∧
    (s.writeCheck sess oLayStep (numBytes oLayStep v) = dOk → s.pass.armed = none →
      exec (.layoutStepWrite sess v) s = .next ((s.setObj oLayStep v).emit (.opStatus sess dOk))) ∧
    (s.writeCheck sess oLayEpoch (numBytes oLayEpoch v) = dOk →
      (v = s.obj oLayCur → exec (.layoutEpochWrite sess v peer) s =
        .next (({ s with pass := { s.pass with armed := none } }.setObj oLayEpoch v).emit (.opStatus sess dOk))) ∧
      (∀ (l : Layout) (t : UTable), v ≠ s.obj oLayCur → s.pass.layout = none → s.parseLayout (s.obj oLayAddr) peer = some l →
        s.upd.table = some t → l.epoch = v → s.inSquads l = true → s.obj oLayStep ≠ 0 →
        (l.owned s.ownDev).all (fun p => (t.entry? l.epoch p.1.layer).any (fun u => s.partOk u p.1 p.2)) = true →
        ∃ u : State, exec (.layoutEpochWrite sess v peer) s = .next u ∧ u.pass.layout = some l ∧
          u.pass.lastHuddle = s.obj oLayStep - 1 ∧ u.obj oLayCur = min v (objMax oLayCur) ∧ u.mem = s.mem) ∧
      (∀ l : Layout, v ≠ s.obj oLayCur → s.pass.layout ≠ none → v = (s.obj oLayCur + 1) % 2 ^ 16 → v ≠ 0 →
        s.parseLayout (s.obj oLayAddr) peer = some l → l.epoch = v → s.inSquads l = true →
        s.pass.unknown.all (fun e => e.2.epoch != v) = true → s.pass.lastHuddle + 1 < s.obj oLayStep →
        (s.tableAt (s.obj oLayStep)).any (fun t => t.entries.any (fun e => e.epoch == v)) = true →
        ∃ u : State, exec (.layoutEpochWrite sess v peer) s = .next u ∧ u.pass.armed = some (l, s.obj oLayStep) ∧
          u.pass.layout = s.pass.layout ∧ u.out = .opStatus sess dOk :: s.out ∧ u.mem = s.mem)) ∧
    (s.writeCheck sess oTabNext (numBytes oTabNext v) = dOk → s.upd.armed = none →
      exec (.updateTableAddressWrite sess v) s = .next ((s.setObj oTabNext v).emit (.opStatus sess dOk))) ∧
    (s.writeCheck sess oTabStep (numBytes oTabStep v) = dOk →
      (v = 0xFFFFFFFF → exec (.updateTableStepWrite sess v peer) s =
        .next (({ s with upd := { s.upd with armed := none } }.setObj oTabStep v).emit (.opStatus sess dOk))) ∧
      (∀ t : UTable, v ≠ 0xFFFFFFFF → s.parseTable (s.obj oTabNext) peer = some t → s.pass.layout = none → v ≠ 0 →
        ∃ u : State, exec (.updateTableStepWrite sess v peer) s = .next u ∧ u.upd.table = some t ∧
          u.obj oTabCur = min t.addr (objMax oTabCur) ∧ u.mem = s.mem) ∧
      (∀ (t : UTable) (l : Layout), v ≠ 0xFFFFFFFF → s.parseTable (s.obj oTabNext) peer = some t → s.pass.layout = some l →
        s.pass.lastHuddle + 1 < v → s.tableFits t l = true → s.pass.armed.all (fun a => s.tableFits t a.1) = true →
        exec (.updateTableStepWrite sess v peer) s =
          .next (({ s with upd := { s.upd with armed := some (t, v) } }.setObj oTabStep v).emit (.opStatus sess dOk)))) ∧
    (∀ epoch : Nat, s.pass.unknown.any (fun e => e.2.epoch == epoch) = true →
      ∃ u : State, exec (.unknownEpochHoldExpire epoch) s = .next u ∧ u.pass.failed = true ∧
        u.pass.unknown = s.pass.unknown.filter (fun e => e.2.epoch != epoch) ∧ u.mem = s.mem) ∧
    (∀ o l : Layout, s.pass.old = some o → s.pass.layout = some l → s.pass.moving = true → s.oldInFlight o = 0 →
      ∃ u : State, exec .oldEpochDrained s = .next u ∧ u.pass.moving = false ∧ u.pass.handover = s.pass.handover ∧ u.mem = s.mem) ∧
    (∀ (p : PassPkt) (part field off : Nat) (last : Bool), s.passFate p = .armed → s.pass.heldPkts = [] → s.pass.heldPass = [] →
      ∃ u : State, exec (.handover p part field off last) s = .next u ∧ u.pass.heldPass = [(.handover part field off last, p)] ∧
        u.mem = s.mem) ∧
    (∀ (p : PassPkt) (part field off : Nat) (last : Bool) (l : Layout) (e : LayerEntry) (x : UEntry) (a : Nat × Nat),
      s.passFate p = .current → s.pass.layout = some l → s.pass.handover.elem (p.layer, part) = true →
      s.updEntry l p.layer = some (e, x) → (handoverArrays x (s.partBlk x part) (e.count part))[field]? = some a →
      off + p.payload.length ≤ a.2 → s.pass.heldPkts = [] → s.pass.heldPass = [] →
      ∃ u : State, exec (.handover p part field off last) s = .next u ∧ u.readMem (a.1 + off) p.payload.length = p.payload ∧
        u.pass.handover = (if last then s.pass.handover.filter (fun y => y != (p.layer, part)) else s.pass.handover) ∧
        ∀ b, b < a.1 + off ∨ a.1 + off + p.payload.length ≤ b → Tab.get u.mem 0 b = Tab.get s.mem 0 b)

/-- R268–R270, R275–R286: the oldest waiting chunk of an engine gets an update sequence on a core of its cluster; a chunk's update leaves
its results in the shadows and its statistics, and its buffer is free. The model's own choices here: assumptions 49, 89 and 90. -/
def Obligations.UpdatesRunOnBufferedChunks : Prop :=
  ∀ (s : State) (e : EngId) (l : Layout) (b : BufChunk) (x : LayerEntry) (x' : UEntry), s.pass.layout = some l →
    s.updEntry l b.layer = some (x, x') →
    (∀ c slot : Nat, (s.buf e).find? (fun (y : BufChunk) => !y.running) = some b →
      let q : Seq := { ctx := x'.ctx, kind := 3, pc := BitVec.ofNat 64 (Config.freeNat s.fresh), cores := 1, tpc := 1, win := 4, eng := 2
                       step := b.step, number := b.layer, nextBatch := x.partOf b.chunk, prio := 256, engine := e }
      ((List.range 12).map (fun i => 12 * e.val + i)).find? (fun c => (s.fitCore q c).isSome) = some c → s.freeSlotNo = some slot →
      ∃ (u : State) (y : Seq), exec (.updateSequenceStart e) s = .next u ∧ u.slot slot = some y ∧ y.kind = 3 ∧ y.ctx = x'.ctx ∧
        y.step = b.step ∧ y.number = b.layer ∧ (∀ t ∈ y.live, t.1 = c ∧ (u.thread c t.2).pc = q.pc) ∧
        (u.buf e).any (fun z => z.step == b.step && z.layer == b.layer && z.chunk == b.chunk && z.running && z.slot == slot) = true ∧
        u.mem = s.mem) ∧
    (∀ (t : UTable) (s1 : State), (s.buf e).find? (fun (y : BufChunk) => y.running) = some b → s.upd.table = some t →
      let j := x.partOf b.chunk
      let o := s.chunkOut t x x' j b
      (s.chunkReads x x' j b.chunk).all (fun r => !poisonedIn s.poison r.1 r.2) = true → s.mustWait o.writes = false →
      s.bare.shadowWrites o.writes = some s1 → s.pass.reds = [] → s.pass.heldPkts = [] →
      (s.slot b.slot).all (fun q => !q.eval) = true →
      ((s.upd.chunks ++ [o.stats]).filter (fun (y : ChunkStats) =>
        y.step == b.step && y.layer == b.layer && y.part == j)).length ≠ x.nChunks j →
      ∃ u : State, exec (.updateChunkDone e) s = .next u ∧ u.shadow = s1.shadow ∧ u.upd.chunks = s.upd.chunks ++ [o.stats] ∧
        u.buf e = (s.buf e).filter (fun (y : BufChunk) => !(y.step == b.step && y.layer == b.layer && y.chunk == b.chunk)) ∧
        u.obj (objKey 0x2720 0x0A) = min (s.obj (objKey 0x2720 0x0A) + 1) (objMax (objKey 0x2720 0x0A)))

/-! ## The fabric (chapter 10) -/

/-- R129, R141, R180, R303, R308, R317: a peer's read, write and atomic are checked and served at this home and answered, a read of a
sector that the deck's check cannot correct with the poison status; a refused one changes no memory; an allocation asked for by a peer
places its pages here; before the fabric is enabled none is served. The model's own choices here: assumptions 55 and 135. -/
def Obligations.PeersRequestsAreServed : Prop :=
  ∀ (s : State) (l : LinkId) (p : Pkt) (g : Page),
    let a := localOf p.addr
    let attr : W16 := BitVec.ofNat 16 ((if g.big then 0x4000 else 0) + (if g.wr && g.ctx == p.ctx then 0x2000 else 0))
    let r : Pkt := { dst := p.src, src := s.ownDev, vc := 2, tag := p.tag, attr := attr, league := p.league, addr := p.addr, ctx := p.ctx,
                     epoch := if s.sealsTo p.src then g.sepoch else 0 }
    (s.pageAt a = some g → g.away = false → g.lost = false → g.sealed = false →
      (s.homeCheck p false = 0 → s.waitsFlip g p = false → s.prevFor g p.fstep = none → s.deadLine a = false → g.unread = false →
        g.cls ≠ 2 → g.cls ≠ 3 → s.lineBusy g a = false → s.obj oFabricOn = 1 →
        (poisonedIn s.poison a p.attr.toNat = false →
          ∃ u : State, exec (.rd l { p := p }) s = .next u ∧ u.mem = s.mem ∧ u.keeper = { s.keeper with traffic := u.keeper.traffic } ∧
            s.sends u { r with type := 0x18, payload := s.readMem a p.attr.toNat }) ∧
        (g.loc = 1 → symbolClass g.cls = true → 0 < p.attr.toNat →
          ∃ u : State, exec (.rd l ⟨p, some true, []⟩) s = .next u ∧ u.mem = s.mem ∧ Tab.get u.poison false (a / 64) = true ∧
            s.sends u { r with type := 0x18, attr := 0, epoch := 0, status := 3 })) ∧
      (s.homeCheck p true = 0 → s.writeHeld g.base a = false → s.lineBusy g a = false → s.obj oFabricOn = 1 →
        (p.attr.toNat.testBit 15 = false →
          ∃ u : State, exec (.wr l { p := p }) s = .next u ∧ u.readMem a p.payload.length = p.payload ∧ s.sends u { r with type := 0x19 } ∧
            ∀ b, b < a ∨ a + p.payload.length ≤ b → Tab.get u.mem 0 b = Tab.get s.mem 0 b) ∧
        (poisonedIn s.poison a 8 = false →
          let old := BitVec.ofNat 64 (s.memNat a 8)
          let new := amoResult (p.attr.toNat % 8) old (BitVec.ofNat 64 (fieldAt p.payload 0 8)) (BitVec.ofNat 64 (fieldAt p.payload 8 8))
          ∃ u : State, exec (.amoPacket l { p := p }) s = .next u ∧ u.memNat a 8 = new.toNat ∧
            s.sends u { r with type := 0x19, payload := s.readMem a 8 } ∧
            ∀ b, b < a ∨ a + 8 ≤ b → Tab.get u.mem 0 b = Tab.get s.mem 0 b))) ∧
    (∀ (wr : Bool) (deck : Option Bool) (bad : List BadBytes), s.homeCheck p wr ≠ 0 →
      ∃ u : State, exec (if wr then .wr l ⟨p, deck, bad⟩ else .rd l ⟨p, deck, bad⟩) s = .next u ∧ u.mem = s.mem ∧ u.keeper = s.keeper ∧
        s.sends u { dst := p.src, src := s.ownDev, vc := 2, type := if wr then 0x19 else 0x18, tag := p.tag, league := p.league
                    addr := p.addr, ctx := p.ctx, status := s.homeCheck p wr }) ∧
    (∀ (deck : Option Bool) (bad : List BadBytes) (frames : List Nat), s.obj oFabricOn = 0 →
      ∀ i ∈ [Instr.rd l ⟨p, deck, bad⟩, .wr l ⟨p, deck, bad⟩, .amoPacket l ⟨p, deck, bad⟩, .keep l p frames],
        ∃ u : State, exec i s = .next u ∧ u.mem = s.mem ∧ u.keeper = s.keeper) ∧
    (∀ (frames : List Nat) (d : Desc) (base : Nat), s.obj oFabricOn = 1 → s.rebuilding = false → parseDesc 0 2 p.payload = (d, 0) → d.op = 0x30 → s.fencedReq p.src p.league = false →
      (s.ctx? (d.f 18 2)).isSome = true → p.league ≠ 0 → s.leagueOf (d.f 18 2) = p.league →
      s.allocCheck { d with body := d.body.take 16 ++ [0xFF, 0xFF] ++ d.body.drop 18 } true = 0 → d.f 0 8 ≠ 0 →
      ((s.bare.arrive l p).allocate d (d.f 18 2) frames).2 = (0, base) →
      ∃ u : State, exec (.keep l p frames) s = .next u ∧ u.keeper = ((s.bare.arrive l p).allocate d (d.f 18 2) frames).1.keeper ∧
        u.mem = s.mem)

/-- R180, R235, R303, R316: an answer ends the request of its tag: a thread's request gets its data or its fault, a carried allocation its
record, a shipped snapshot's seal installs it or fails; an answer without its request changes nothing but the link's counts; a request
unanswered in its time ends in error. The model's own choices here: assumptions 38, 48 and 126. -/
def Obligations.AnswersEndRequests : Prop :=
  ∀ (s : State) (l : LinkId) (p : Pkt) (o : Outstanding),
    (s.fabric.outs.find? (fun o => o.tag == p.tag && devOf o.addr == p.src) = none →
      ∀ i ∈ [Instr.rdr l p, .ackw l p, .keepr l p], ∃ u : State, exec i s = .next u ∧ u.cores = s.cores ∧ u.keeper = s.keeper ∧ u.mem = s.mem ∧
        u.fabric.outs = s.fabric.outs) ∧
    (s.fabric.outs.find? (fun o => o.tag == p.tag && devOf o.addr == p.src) = some o →
      (∀ f : FarReq, o.id < 2 ^ 32 → s.keeper.dying = [] → (s.core o.core).req o.id = some f → ∀ i ∈ [Instr.rdr l p, .ackw l p],
        ∃ u : State, exec i s = .next u ∧ u.fabric.outs = s.fabric.outs.filter (fun x => x.tag != o.tag) ∧ u.mem = s.mem ∧
          (u.core o.core).req o.id = some { f with stage := .served p.payload (statusFault p.status) }) ∧
      (∀ (q n : Nat) (d : Desc) (x : Snap), o.id = idKeep → o.keep = some (q, n) → s.hostOpen = true →
        (s.queue q).descs.find? (fun e => e.n == n) = some d → s.shipOf (q, n) = some x → x.stage ≠ 0 →
        ∃ u : State, exec (.keepr l p) s = .next u ∧ u.fabric.outs = s.fabric.outs.filter (fun x => x.tag != o.tag) ∧
          (p.status = 0 → fieldAt p.payload 8 2 = 0 → s.recorded u q d 0 x.dst ∧ { x with ready := true } ∈ u.sched.snaps) ∧
          (p.status ≠ 0 ∨ fieldAt p.payload 8 2 ≠ 0 → s.recorded u q d 0x0405 0)) ∧
      (∀ (q n : Nat) (d : Desc), o.id = idKeep → o.keep = some (q, n) → s.hostOpen = true →
        (s.queue q).descs.find? (fun e => e.n == n) = some d → s.shipOf (q, n) = none →
        ∃ u : State, exec (.keepr l p) s = .next u ∧ u.fabric.outs = s.fabric.outs.filter (fun x => x.tag != o.tag) ∧
          (p.status = 0 → s.recorded u q d (fieldAt p.payload 8 2) (fieldAt p.payload 24 8)) ∧
          (p.status ≠ 0 → s.recorded u q d kPeer 0))) ∧
    (∀ (tag : Nat) (f : FarReq), s.fabric.outs.find? (fun o => o.tag == tag) = some o → o.id < 2 ^ 32 → s.keeper.dying = [] →
      (s.core o.core).req o.id = some f →
      ∃ u : State, exec (.requestTimeout tag) s = .next u ∧ u.fabric.outs = s.fabric.outs.filter (fun x => x.tag != o.tag) ∧
        u.obj (objKey 0x2440 8) = min (s.obj (objKey 0x2440 8) + 1) (objMax (objKey 0x2440 8)) ∧
        (u.core o.core).req o.id = some { f with stage := .served [] 0x05 } ∧ u.mem = s.mem)

/-- R293–R301, R305–R312: a link whose partner's HELLO shares a generation comes up with its lanes, else goes down; frames are accepted in
sequence or counted; acknowledgements and credits move the sender's buffers; a packet for another device goes on or is discarded. The
model's own choices here: assumptions 45, 84 and 121. -/
def Obligations.LinksTrainAndCarryFrames : Prop :=
  ∀ (s : State) (l : LinkId),
    let x := s.link l
    (s.lnState l = lnTraining →
      (∀ lanes : Nat, ∃ (u : State) (h : Hello), exec (.frameLock l lanes) s = .next u ∧ (u.link l).trained = min 2 lanes ∧
        u.out = .hello l h :: s.out ∧ h.link = l.val ∧ h.devid = s.obj oDevId ∧ h.rank = s.obj (oLink l 8) ∧ h.lanes = min 2 lanes) ∧
      (∀ h : Hello,
        (s.commonGen l h = 0 → ∃ u : State, exec (.hello l false h) s = .next u ∧ u.lnState l = lnDown ∧ u.mem = s.mem) ∧
        (s.commonGen l h ≠ 0 → min x.trained h.lanes ≠ 0 → ∃ u : State, exec (.hello l false h) s = .next u ∧
          u.lnState l = (if min x.trained h.lanes = 1 then lnOne else lnUp) ∧ u.obj (oLink l 2) = s.commonGen l h ∧
          u.obj (oLink l 3) = min (min x.trained h.lanes) 255 ∧ u.obj (oLink l 5) = min h.devid 65535 ∧
          (u.link l).replay = [] ∧ (u.link l).expect = 0 ∧ (u.link l).credits = [] ∧ u.mem = s.mem))) ∧
    (∀ (fseq : Nat) (crc : Byte) (data : List Byte) (errs : List (Nat × BitVec 10)), s.lnIsUp l = true →
      let wrong := ((errs.filter (fun e => e.2 != 0 && decide (e.1 < 544))).map Prod.fst).eraseDups
      (wrong.length ≤ 15 →
        frameDecode fseq crc data errs = if crc8 (leBytes 2 fseq ++ data) = crc.toNat then some (wrong.length, fseq % 4096) else none) ∧
      (∀ fixed seq : Nat, frameDecode fseq crc data errs = some (fixed, seq) →
        ∃ u : State, exec (.frameReceive l fseq crc data errs) s = .next u ∧
          u.link l = (if seq = x.expect then { x with expect := (x.expect + 1) % 4096 } else x) ∧
          (seq = x.expect → (seq + 1) % 16 = 0 → .linkCtl l 2 [seq, 0] ∈ u.out) ∧
          u.obj (oLink l 0x0C) = min (s.obj (oLink l 0x0C) + fixed) (objMax (oLink l 0x0C)) ∧ u.mem = s.mem) ∧
      (frameDecode fseq crc data errs = none →
        ∃ u : State, exec (.frameReceive l fseq crc data errs) s = .next u ∧ (u.link l).expect = x.expect ∧
          .linkCtl l 2 [x.expect, 1] ∈ u.out ∧ u.obj (oLink l 0x0D) = min (s.obj (oLink l 0x0D) + 1) (objMax (oLink l 0x0D)) ∧ u.mem = s.mem)) ∧
    (∀ fseq : Nat, x.queued = [] →
      (∃ u : State, exec (.ack l fseq false) s = .next u ∧ u.link l = { x with replay := ackUpTo (fseq % 4096) x.replay } ∧ u.out = s.out) ∧
      (x.replay.any (fun e => e.1 == fseq % 4096) = true → ∃ u : State, exec (.ack l fseq true) s = .next u ∧
        (u.link l).replay = x.replay.dropWhile (fun e => e.1 != fseq % 4096) ∧
        u.out = .linkCtl l 0x100 ((x.replay.dropWhile (fun e => e.1 != fseq % 4096)).map Prod.fst) :: s.out)) ∧
    (∀ (counts : List Nat) (v : Nat), v < 10 → x.queued = [] →
      (∃ u : State, exec (.credit l counts true) s = .next u ∧ Tab.get (u.link l).credits 0 v = counts.getD v 0) ∧
      (∃ u : State, exec (.credit l counts false) s = .next u ∧
        Tab.get (u.link l).credits 0 v = min (Tab.get x.credits 0 v + counts.getD v 0) 65535)) ∧
    (x.freed ≠ [] → exec (.creditReturn l) s = .next ((s.setLink l { x with freed := [] }).emit
      (.linkCtl l 1 ((List.range 10).map (fun v => Tab.get x.freed 0 v) ++ [0])))) ∧
    (∀ counts : List Nat, s.lnIsUp l = true → x.replay = [] → x.queued = [] →
      ((∀ v, v < 10 → Tab.get x.credits 0 v = counts.getD v 0) →
        ∃ u : State, exec (.creditAudit l counts) s = .next u ∧ u.link l = { x with freed := [] } ∧ u.lnState l = s.lnState l) ∧
      ((∃ v, v < 10 ∧ Tab.get x.credits 0 v ≠ counts.getD v 0) →
        ∃ u : State, exec (.creditAudit l counts) s = .next u ∧ u.lnState l = lnRetrain ∧ (u.link l).cause = 4)) ∧
    (∀ p : Pkt, s.obj oFabricOn = 1 → routedType p.type = true → p.dst ≠ s.ownDev →
      (3 ≤ p.hops → ∃ u : State, exec (.packetForward l p) s = .next u ∧
        u.obj (objKey 0x2440 7) = min (s.obj (objKey 0x2440 7) + 1) (objMax (objKey 0x2440 7)) ∧ u.mem = s.mem) ∧
      (∀ out : Nat, p.hops < 3 → (s.routeRow p.dst).testBit 31 = true → s.pickLink p.dst (pktHash p) = some out →
        let keep := decide (s.obj (oLink l 8) < s.obj (oLink out 8))
        let q : Pkt := { p with hops := p.hops + 1, vc := if keep then p.vc else p.vc + 1 }
        (keep = false → p.vc % 2 = 0) → (sealType p.type = true → (s.link out).fabric ≠ 1) → (s.link out).queued = [] →
        (s.canSend out q = true → ∃ u : State, exec (.packetForward l p) s = .next u ∧ .packet out q ∈ u.out ∧ u.mem = s.mem) ∧
        (s.canSend out q = false → ∃ u : State, exec (.packetForward l p) s = .next u ∧
          { link := l, out := out, came := p, sent := q } ∈ u.fabric.transit ∧ (u.link out).queued = [q] ∧ u.mem = s.mem)))

/-- R308, R326–R329: a link retrains when a lane loses lock, its replay buffer stays full or it is asked to, keeps its frames when it
comes back, and fails for good at the time's end; the fabric's settings are written where they may be. The model's own choices here:
assumptions 45 and 84. -/
def Obligations.LinksRetrainAndSettingsAreWritten : Prop :=
  ∀ (s : State) (l : LinkId),
    let x := s.link l
    (∀ lane : Nat, s.lnIsUp l = true → ∃ u : State, exec (.laneLockLoss l lane) s = .next u ∧ u.lnState l = lnRetrain ∧
      (u.link l).cause = 2 ∧ (u.link l).lane = lane ∧ (u.link l).replay = x.replay ∧ u.mem = s.mem) ∧
    (256 ≤ x.replay.length → s.lnIsUp l = true → ∃ u : State, exec (.replayFullTimeout l) s = .next u ∧ u.lnState l = lnRetrain ∧
      (u.link l).cause = 3 ∧ (u.link l).replay = x.replay ∧ u.mem = s.mem) ∧
    (∀ (lanes : Nat) (h : Hello) (counts : List Nat), s.lnState l = lnRetrain → s.commonGen l h ≠ 0 → min (min 2 lanes) h.lanes ≠ 0 →
      h.serial = x.serial → x.queued = [] →
      ∃ u : State, exec (.retrainLanesTrained l lanes false h counts) s = .next u ∧
        u.lnState l = (if min (min 2 lanes) h.lanes = 1 then lnOne else lnUp) ∧
        (∃ more, (u.link l).replay = x.replay ++ more) ∧
        u.obj (oLink l 0x0E) = min (s.obj (oLink l 0x0E) + 1) (objMax (oLink l 0x0E)) ∧ u.mem = s.mem) ∧
    (s.lnState l = lnRetrain → x.replay.all (fun e => e.2 == 0) = true →
      ∃ u : State, exec (.retrainFailure l) s = .next u ∧ u.lnState l = lnFailed ∧ (u.link l).replay = [] ∧ u.mem = s.mem) ∧
    (∀ sess v : Nat,
      (s.writeCheck sess (oLink l 0x0B) (numBytes (oLink l 0x0B) v) = dOk → s.dev.act = none →
        (s.lnIsUp l = true → ∃ u : State, exec (.retrainRequestWrite sess l v) s = .next u ∧ u.lnState l = lnRetrain ∧
          (u.link l).cause = 5 ∧ u.out = .opStatus sess dOk :: s.out) ∧
        (s.lnState l = lnFailed → ∃ u : State, exec (.retrainRequestWrite sess l v) s = .next u ∧ u.lnState l = lnTraining ∧
          u.out = .opStatus sess dOk :: s.out)) ∧
      (s.writeCheck sess (oLink l 0x0A) (numBytes (oLink l 0x0A) v) = dOk →
        (v = 0 → x.replay.all (fun e => e.2 == 0) = true → ∃ u : State, exec (.linkEnableWrite sess l v) s = .next u ∧ u.lnState l = 0 ∧
          (u.link l).replay = [] ∧ u.mem = s.mem) ∧
        (v ≠ 0 → s.lnState l = 0 ∨ s.lnState l = lnFailed → ∃ u : State, exec (.linkEnableWrite sess l v) s = .next u ∧
          u.lnState l = (if 0x60 ≤ s.dev.phase then lnTraining else lnDown) ∧ u.out = .opStatus sess dOk :: s.out)) ∧
      (s.writeCheck sess (oLink l 8) (numBytes (oLink l 8) v) = dOk → s.obj oFabricOn ≠ 1 →
        exec (.linkRankWrite sess l v) s = .next ((s.setObj (oLink l 8) v).emit (.opStatus sess dOk))) ∧
      (s.writeCheck sess oDevId (numBytes oDevId v) = dOk → s.obj oFabricOn ≠ 1 →
        (∀ k : Nat, k < 64 → s.obj (oLink k 5) = v → v = 0xFFFF) → s.obj (objKey 0x2500 0x0C) = 0 → s.sched.ctxs = [] →
        exec (.deviceIdWrite sess v) s = .next ((s.setObj oDevId v).emit (.opStatus sess dOk))) ∧
      (s.writeCheck sess oFabricOn (numBytes oFabricOn v) = dOk → (v = 1 → s.obj oDevId ≠ 0xFFFF) →
        exec (.fabricEnableWrite sess v) s = .next ((s.setObj oFabricOn v).emit (.opStatus sess dOk))) ∧
      (s.writeCheck sess (objKey 0x2440 0x0C) (numBytes (objKey 0x2440 0x0C) v) = dOk →
        ∃ u : State, exec (.clearLeagueFenceWrite sess v) s = .next u ∧ u.mem = s.mem ∧
          u.fabric.fences = s.fabric.fences.filter (fun (f : Fence) => !(f.kind == 2 && f.dev == v))))

/-- R169, R319–R325, R478: a range is sealed under an epoch one above the highest its pages held, once no request under its old leaves is
open; unsealing asks its readers, or ends at once where there are none; a freed page goes once its readers have answered; INV and FENCE
drop the copies of a peer's memory; readers that do not answer in time are fenced. The model's own choices here: assumption 47. -/
def Obligations.SealsAndFences : Prop :=
  ∀ (s : State),
    (∀ (q : QueueId) (n : Nat) (d : Desc),
      let lo := d.f 0 8
      let size := d.f 8 8
      (s.runs q n 0x34 d → s.keeperCheck d = 0 → size ≠ 0 → s.keeper.regions.length < 4096 →
        (s.pagesIn lo (lo + size)).all (fun p => (s.openOn p).isEmpty) = true →
        let e := ((s.pagesIn lo (lo + size)).foldl (fun m p => max m p.sepoch) 0 + 1) % 2 ^ 16
        ∃ u : State, exec (.seal q n) s = .next u ∧ s.recorded u q d 0 e ∧ u.mem = s.mem ∧
          u.keeper.regions = s.keeper.regions ++ [{ base := lo, size := size, epoch := e, ctx := d.ctx }] ∧
          ∀ p ∈ s.pagesIn lo (lo + size), ∃ g : Page, Tab.get u.keeper.pages none (pageKey p.base) = some g ∧ g.sealed = true ∧
            g.wr = false ∧ g.sepoch = e) ∧
      (∀ r : Region, s.runs q n 0x35 d → size ≠ 0 → s.keeper.regions.any (fun r => r.cmd == some (q.val, n)) = false →
        s.wholeRegions d.ctx lo size = some [r] → (s.pagesIn lo (lo + size)).any (fun p => s.shadowed p.base) = false →
        let ps := s.pagesIn r.base (r.base + r.size)
        let e := (ps.foldl (fun m p => max m p.sepoch) r.epoch + 1) % 2 ^ 16
        let rd := r.readers.filter s.sealsTo
        (rd ≠ [] → ∃ u : State, exec (.unseal q n) s = .next u ∧ u.mem = s.mem ∧ (u.queue q).d = (s.queue q).d ∧
          { r with unsealing := true, awaited := rd, invEpoch := e, cmd := some (q.val, n) } ∈ u.keeper.regions) ∧
        (rd = [] → ps.all (fun p => (s.openOn p).isEmpty) = true → r.freeing = [] → r.frees = [] → ∃ u : State, exec (.unseal q n) s = .next u ∧ s.recorded u q d 0 e ∧ u.mem = s.mem ∧
          ∀ p ∈ ps, ∃ g : Page, Tab.get u.keeper.pages none (pageKey p.base) = some g ∧ g.sealed = false))) ∧
    (∀ (l : LinkId) (p : Pkt),
      let apart (lo hi : Nat) (u : State) : Prop :=
        (∀ r ∈ u.keeper.remote, r.page + (if r.big then 2097152 else 65536) ≤ lo ∨ hi ≤ r.page) ∧
        ∀ (c : Nat), ∀ x ∈ (u.core c).nc, (x.line + 1) * 1024 ≤ lo ∨ hi ≤ x.line * 1024
      (∃ u : State, exec (.inv l p) s = .next u ∧ u.mem = s.mem ∧
        apart p.addr.toNat (p.addr.toNat + fieldAt p.payload 0 8) u) ∧
      (∃ u : State, exec (.fencePacket l p) s = .next u ∧ u.mem = s.mem ∧ apart (p.src * 2 ^ 48) ((p.src + 1) * 2 ^ 48) u ∧
        s.sends u { type := 0x33, vc := 6, dst := p.src, src := s.ownDev, addr := p.addr }) ∧
      (∃ u : State, exec (.fencea l p) s = .next u ∧ u.mem = s.mem ∧ u.fabric.fences = s.fabric.fences.filter (fun (f : Fence) =>
        !(f.kind == 1 && f.dev == p.src && f.key == localOf p.addr))) ∧
      (∀ r : Region, s.keeper.regions.find? (fun r => r.base == localOf p.addr) = some r → r.invEpoch = p.epoch →
        r.awaited.elem p.src = true →
        (r.awaited.filter (fun d => d != p.src) ≠ [] → ∃ u : State, exec (.inva l p) s = .next u ∧ u.mem = s.mem ∧
          u.keeper.regions = s.keeper.regions.map (fun x => if x.base = r.base then
            { r with awaited := r.awaited.filter (fun d => d != p.src) } else x)) ∧
        (∀ (q n : Nat) (d : Desc) (g : Page), r.awaited.filter (fun d => d != p.src) = [] → r.unsealing = false → r.freeing = [g.base] →
          r.frees = [(q, n)] → s.pageAt g.base = some g → s.keeper.regions = [r] → s.hostOpen = true →
          (s.queue q).descs.find? (fun e => e.n == n) = some d →
          ∃ u : State, exec (.inva l p) s = .next u ∧ Tab.get u.keeper.pages none (pageKey g.base) = none ∧ s.recorded u q d 0 0) ∧
        (∀ (q n : Nat) (d : Desc), r.awaited.filter (fun d => d != p.src) = [] → r.unsealing = true → r.cmd = some (q, n) →
          r.freeing = [] → r.frees = [] → (s.pagesIn r.base (r.base + r.size)).all (fun p => (s.openOn p).isEmpty) = true →
          s.keeper.regions = [r] → s.hostOpen = true → (s.queue q).descs.find? (fun e => e.n == n) = some d →
          ∃ u : State, exec (.inva l p) s = .next u ∧ u.keeper.regions = [] ∧ s.recorded u q d 0 r.invEpoch ∧ u.mem = s.mem)) ∧
      (∀ dev : Nat, s.routed dev = false ∨ s.pickLink dev 0 = none → ∃ u : State, exec (.homeUnreachable dev) s = .next u ∧ u.mem = s.mem ∧
        apart (dev * 2 ^ 48) ((dev + 1) * 2 ^ 48) u)) ∧
    (∀ r : Region, s.keeper.regions.find? (fun x => x.base == r.base) = some r → r.awaited ≠ [] →
      s.fabric.fences.length + r.awaited.length ≤ 256 →
      ∃ u : State, exec (.fenceTimeExpire r.base) s = .next u ∧
        u.fabric.fences = s.fabric.fences ++ r.awaited.map (fun d => ({ dev := d, kind := 1, key := r.base } : Fence)) ∧
        u.obj (objKey 0x2440 0x0B) = min (s.obj (objKey 0x2440 0x0B) + r.awaited.length) (objMax (objKey 0x2440 0x0B))) ∧
    (∀ f : Fence, s.fabric.fences = [f] → f.kind = 1 → s.sealsTo f.dev = true →
      ∃ u : State, exec .fenceResend s = .next u ∧ u.fabric.fences = [f] ∧ u.mem = s.mem ∧
        s.sends u { type := 0x32, vc := 6, dst := f.dev, src := s.ownDev, addr := globalOf s.ownDev f.key })

/-! ## The host attachment (chapter 11) -/

/-- R332–R336, R345, R346, R348, R465: the link trains, configuration space answers, and every host-side reset leaves the queues gone, the
Command register's bits clear, the apertures and the mailbox as after reset. The model's own choices here: assumptions 40 and 68. -/
def Obligations.HostLinkAndItsResets : Prop :=
  ∀ (s : State),
    let gone (u : State) : Prop :=
      u.host.memSpace = false ∧ u.host.busMaster = false ∧ u.host.aps = [] ∧ u.host.mb = {} ∧ u.sched.queues = [] ∧
        u.obj (objKey 0x2300 0x0D) = min (s.obj (objKey 0x2300 0x0D) + 1) (objMax (objKey 0x2300 0x0D)) ∧ u.mem = s.mem
    (s.host.up = true →
      (∃ u : State, exec .flr s = .next u ∧ gone u ∧ u.host.up = true ∧ u.access.spdm = 0) ∧
      (∃ u : State, exec .hotReset s = .next u ∧ gone u ∧ u.host.up = false ∧ u.host.training = true) ∧
      (∃ u : State, exec .hostLinkDown s = .next u ∧ gone u ∧ u.host.up = false ∧ u.host.training = true) ∧
      exec (.configRequest 0 4 none) s = .next (s.emit (.completion 0 (leBytes 4 0x79601FD4))) ∧
      (∀ v : W32, ∃ (u : State) (more : List Output), exec (.configRequest 4 4 (some v)) s = .next u ∧
        u.host.memSpace = v.toNat.testBit 1 ∧ u.host.busMaster = v.toNat.testBit 2 ∧ u.out = .completion 0 [] :: more ∧ u.mem = s.mem)) ∧
    (s.strap 2 = false →
      (s.host.perst = false → ∃ u : State, exec .perstNAssert s = .next u ∧ gone u ∧ u.host.up = false ∧ u.host.training = false ∧
        u.host.perst = true) ∧
      (s.host.perst = true → exec .perstNDeassert s = .next { s with host := { s.host with perst := false, training := true } })) ∧
    (s.strap 2 = true → exec .perstNAssert s = .next s ∧ exec .perstNDeassert s = .next s) ∧
    (∀ (rate width : Nat) (flit : Bool), s.host.training = true → rate ∈ [2, 5, 8, 16, 32, 64] → width ∈ [1, 2, 4, 8, 16] → rate ≤ s.obj oCap →
      ∃ u : State, exec (.hostLinkTrained rate width flit) s = .next u ∧ u.host.up = true ∧ u.host.training = false ∧
        u.obj (objKey 0x2300 1) = rate ∧ u.obj (objKey 0x2300 2) = width ∧
        u.obj (objKey 0x2300 3) = (if flit ∨ rate = 64 then 1 else 0) ∧ u.mem = s.mem) ∧
    (∀ sess v : Nat, s.writeCheck sess (objKey 0x2300 5) (numBytes (objKey 0x2300 5) v) = dOk → s.host.up = true →
      exec (.retrainToCapWrite sess v) s = .next ({ s with host := { s.host with training := true } }.emit (.opStatus sess dOk))) ∧
    (∀ status : Nat, exec (.hostLinkError false status) s =
        .next (({ s with host := { s.host with cfg := Tab.upd s.host.cfg 0 0x110 (fun v => v ||| status % 2 ^ 32) } } : State).bump (objKey 0x2300 6) 1) ∧
      ∃ u : State, exec (.hostLinkError true status) s = .next u ∧
        u.obj (objKey 0x2300 7) = min (s.obj (objKey 0x2300 7) + 1) (objMax (objKey 0x2300 7)) ∧ u.mem = s.mem)

/-- R8, R338–R344, R347: BAR0 accesses reach the registers of Table 11.4, a res field reads 0; BAR2 accesses reach the memory under an
enabled aperture, a refused access none; what comes behind a write that waits is held behind it; host pool regions are lent and revoked;
DOE discovery is answered. The model's own choices here: assumptions 40, 41, 55, 69, 133 and 136. -/
def Obligations.HostReachesRegistersAndMemory : Prop :=
  ∀ (s : State),
    let first : Prop := s.host.posted.any Posted.writes = false
    (∀ (a : Fin 8) (ctl : W64), s.barOpen = true → first →
      let x := s.aperture a
      let ok := x.base.toNat % 2 ^ 48 % s.apBytes = 0 ∧ (s.ctx? (ctl.toNat % 2 ^ 14)).isSome = true
      (ctl.toNat.testBit 31 = true → x.en = false →
        (ok → exec (.apertureEnable a ctl) s = .next (s.setAperture a { x with ctl := BitVec.ofNat 64 (ctl.toNat % 2 ^ 14 + 2 ^ 31) })) ∧
        (¬ok → exec (.apertureEnable a ctl) s = .next (s.setAperture a { x with ctl := BitVec.ofNat 64 (ctl.toNat % 2 ^ 14 + 2 ^ 30) }))) ∧
      (ctl.toNat.testBit 31 = false → x.ctl.toNat.testBit 30 = false → exec (.apertureDisable a ctl) s =
        .next (s.setAperture a { x with ctl := BitVec.ofNat 64 (if x.en then x.ctx else ctl.toNat % 2 ^ 14) }))) ∧
    (∀ offset n : Nat, s.barOpen = true → offset < s.obj oBar2 * 2 ^ 30 →
      let a := (s.bar2 offset n false).1
      (first → (s.bar2 offset n false).2 = 0 → poisonedIn s.poison a n = false →
        (linePieces a n).all (fun p => !s.deadLine p.1 && (s.pageAt p.1).all (fun g => !g.away && !s.lineBusy g p.1 && !g.unread && g.cls != 2 &&
          g.cls != 3)) = true →
        ∃ u : State, exec (.bar2Read offset { n := n }) s = .next u ∧ u.out = .completion 0 (s.readMem a n) :: s.out ∧ u.mem = s.mem ∧
          u.poison = s.poison) ∧
      (first → (s.bar2 offset n false).2 ≠ 0 → ∃ u : State, exec (.bar2Read offset { n := n }) s = .next u ∧ u.out = .completion 4 [] :: s.out ∧
        u.obj (objKey 0x2300 0x0A) = min (s.obj (objKey 0x2300 0x0A) + 1) (objMax (objKey 0x2300 0x0A)) ∧ u.mem = s.mem) ∧
      (¬first → ∃ u : State, exec (.bar2Read offset { n := n }) s = .next u ∧ u.host.posted = s.host.posted ++ [.bar2 offset n none false] ∧
        u.out = s.out ∧ u.mem = s.mem)) ∧
    (∀ (offset : Nat) (data : List Byte) (ep : Bool), s.barOpen = true → offset < s.obj oBar2 * 2 ^ 30 → data ≠ [] →
      let n := data.length
      let a := (s.bar2 offset n true).1
      (first → (s.bar2 offset n true).2 = 0 →
        (linePieces a n).all (fun p => (s.pageAt p.1).all (fun g => !g.away && !s.lineBusy g p.1 && !g.lost && !s.writeHeld g.base p.1)) = true →
        s.keeper.offs.all (fun o => (s.pageAt o.page).all (fun p => p.base == o.page)) = true →
        ∃ u : State, exec (.bar2Write offset data { ep := ep }) s = .next u ∧ u.readMem a n = data ∧
          (ep = true → poisonedIn u.poison a n = true) ∧ ∀ b, b < a ∨ a + n ≤ b → Tab.get u.mem 0 b = Tab.get s.mem 0 b) ∧
      (first → (s.bar2 offset n true).2 ≠ 0 → ∃ u : State, exec (.bar2Write offset data { ep := ep }) s = .next u ∧
        u.obj (objKey 0x2300 0x0A) = min (s.obj (objKey 0x2300 0x0A) + 1) (objMax (objKey 0x2300 0x0A)) ∧ u.mem = s.mem)) ∧
    (∀ (r : Fin 64) (ctl : W64), s.barOpen = true → first →
      let x := s.region r
      (ctl.toNat.testBit 31 = true → x.state = 0 → exec (.hostPoolLend r ctl) s =
        .next ((s.setHostRegion r { x with slots := ctl.toNat % 2 ^ 24, state := 1 }).modPool 3
          (fun p => { p with total := p.total + ctl.toNat % 2 ^ 24, free := p.free + ctl.toNat % 2 ^ 24 }))) ∧
      (ctl.toNat.testBit 31 = false → x.state = 1 → x.used = [] → exec (.hostPoolRevoke r ctl) s =
        .next ((s.setHostRegion r { x with state := 0 }).modPool 3 (fun p => { p with total := p.total - x.slots, free := p.free - x.slots }))) ∧
      (ctl.toNat.testBit 31 = false → x.state = 1 → x.used ≠ [] →
        ∃ u : State, exec (.hostPoolRevoke r ctl) s = .next u ∧ u.region r = { x with state := 2 } ∧ u.mem = s.mem)) ∧
    (∀ (q : QueueId) (v : W64) (peers : List PeerRead), s.barOpen = true → first →
      ((s.queue q).ctl.toNat.testBit 31 = false → exec (.registerWrite (q.val * 0x1000) 8 v peers) s =
        .next (s.setQueue q { s.queue q with base := v &&& ~~~(0x3E : W64) })) ∧
      exec (.registerWrite (q.val * 0x1000 + 0x20) 8 v peers) s = exec (.doorbell q v) s ∧
      exec (.registerWrite (q.val * 0x1000 + 0x24) 8 v peers) s = .next (s.bump (objKey 0x2300 8) 1)) ∧
    (∀ (off : Nat) (peers : List PeerRead), s.barOpen = true → first →
      let reads (size v : Nat) : Prop := exec (.registerWrite off size none peers) s = .next (s.emit (.completion 0 (leBytes size v)))
      (∀ q < 256, let x := s.queue q
        (off = q * 0x1000 → reads 8 x.base.toNat) ∧ (off = q * 0x1000 + 8 → reads 8 (x.ctl.toNat &&& 0x801F0300)) ∧
        (off = q * 0x1000 + 0x28 → reads 4 (x.halt * 2 ^ 16 + x.state)) ∧
        (off = q * 0x1000 + 0x2C → x.halt * 2 ^ 16 + x.state < 2 ^ 32 → reads 4 x.c) ∧ (∀ k, 0x30 ≤ k → k < 0x1000 → k % 8 = 0 → off = q * 0x1000 + k → reads 8 0)) ∧
      (off = 0x100000 → reads 4 s.devState) ∧ (off = 0x100004 → s.devState < 2 ^ 32 → reads 4 s.flash.boot) ∧
      (∀ a < 8, off = 0x101008 + a * 16 → reads 8 ((s.aperture a).ctl.toNat &&& 0xC0003FFF)) ∧
      (∀ r < 64, off = 0x200010 + r * 32 → (s.region r).used.length < 2 ^ 24 →
        reads 8 ((s.region r).used.length * 2 ^ 16 + (s.region r).state)) ∧
      (∀ size : Nat, ¬((size = 4 ∨ size = 8) ∧ off % size = 0) → exec (.registerWrite off size none peers) s =
        .next ((s.bump (objKey 0x2300 8) 1).emit (.completion 0 (leBytes size 0)))) ∧
      (0x210000 ≤ off → off % 4 = 0 → reads 4 0)) ∧
    (∀ (off size : Nat) (v : Option W64) (peers : List PeerRead), s.barOpen = true → ¬first →
      exec (.registerWrite off size v peers) s =
        .next { s with host := { s.host with posted := s.host.posted ++ [.reg off size v (if v = none then [] else peers)] } }) ∧
    (∀ req : List Byte, s.host.up = true →
      (fieldAt req 0 1 = 0 → exec (.doeDiscovery req) s = .next (s.emit (.doe [1, 0, 0, 0, 3, 0, 0, 0, 1, 0, 0, 1]))) ∧
      (fieldAt req 0 1 = 1 → exec (.doeDiscovery req) s = .next (s.emit (.doe [1, 0, 0, 0, 3, 0, 0, 0, 1, 0, 1, 0]))))

/-- R447, R448, Tables 15.4–15.6: the SPDM connection is negotiated in order; digests, certificates, challenges, measurements, evidence and the
second chain are answered in it; an unlisted request gets an error. The formats are the model's (assumption 41). -/
def Obligations.SpdmRequestsAreAnswered : Prop :=
  ∀ (s : State) (req : List Byte), s.host.up = true → s.dictServes = true →
    let tells (u : State) (r : List Byte) : Prop := u.out = .doe (leBytes 2 1 ++ leBytes 1 1 ++ leBytes 1 0 ++
      leBytes 4 ((8 + (pad4 r).length) / 4) ++ pad4 r) :: s.out ∧ u = { s with access := u.access, fresh := u.fresh, out := u.out }
    let code := fieldAt req 1 1
    (code = 0x84 → fieldAt req 0 1 = 0x10 →
      ∃ u : State, exec (.getVersion req) s = .next u ∧ tells u [0x10, 0x04, 0, 0, 0, 1, 0x00, 0x12] ∧ u.access.spdm = 1) ∧
    (fieldAt req 0 1 = 0x12 →
      (code = 0xE1 → s.access.spdm = 1 → ∃ (u : State) (r : List Byte), exec (.getCapabilities req) s = .next u ∧ tells u r ∧
        r.take 2 = [0x12, 0x61] ∧ fieldAt r 8 4 = spdmCaps ∧ u.access.spdm = 2) ∧
      (code = 0xE3 → s.access.spdm = 2 → (fieldAt req 6 1).testBit 0 = true → (fieldAt req 8 4).testBit 10 = true →
        (fieldAt req 12 4).testBit 1 = true → ∃ (u : State) (r : List Byte), exec (.negotiateAlgorithms req) s = .next u ∧ tells u r ∧
          r.take 2 = [0x12, 0x63] ∧ u.access.spdm = 3) ∧
      (3 ≤ s.access.spdm →
        (code = 0x81 → ∃ u : State, exec (.getDigests req) s = .next u ∧
          tells u ([0x12, 0x01, 0, 1] ++ padBytes 48 (Config.sha384 Config.edChain))) ∧
        (code = 0x82 → fieldAt req 2 1 = 0 →
          let off := fieldAt req 4 2
          let k := min (min (fieldAt req 6 2) (Config.edChain.length - off)) (spdmMost - 8)
          ∃ u : State, exec (.getCertificate req) s = .next u ∧
            (off < Config.edChain.length → tells u ([0x12, 0x02, 0, 0] ++ leBytes 2 k ++ leBytes 2 (Config.edChain.length - off - k) ++
              (Config.edChain.drop off).take k)) ∧
            (Config.edChain.length ≤ off → tells u [0x12, 0x7F, 0x01, 0])) ∧
        (code = 0x83 → fieldAt req 2 1 = 0 → 36 ≤ req.length → ∃ (u : State) (r : List Byte), exec (.challenge req) s = .next u ∧
          tells u r ∧ r.take 4 = [0x12, 0x03, 0, 1] ∧ u.fresh = s.fresh + 1 ∧ u.access.spdm = 3) ∧
        (code = 0xE0 → fieldAt req 2 1 % 2 = 0 →
          (fieldAt req 3 1 = 0 → ∃ (u : State) (r : List Byte), exec (.getMeasurements req) s = .next u ∧ tells u r ∧
            r.take 8 = [0x12, 0x60, 11, 0, 0, 0, 0, 0]) ∧
          (1 ≤ fieldAt req 3 1 → fieldAt req 3 1 ≤ 11 → ∃ (u : State) (r : List Byte), exec (.getMeasurements req) s = .next u ∧ tells u r ∧
            r.take 5 = [0x12, 0x60, 0, 0, 1] ∧
            ((r.drop 8).take (s.measureBlock (fieldAt req 3 1)).length) = s.measureBlock (fieldAt req 3 1))) ∧
        (code = 0xFE → isPadobel req = true →
          let b := vendorBody req
          (fieldAt b 0 1 = 1 → b.length = 33 → ∃ u : State, exec (.evidence req) s = .next u ∧
            tells u (vendorAnswer (s.evidenceBlock (b.drop 1)))) ∧
          (fieldAt b 0 1 = 2 → b.length = 5 → fieldAt b 1 2 ≤ Config.mlChain.length → ∃ u : State, exec (.postQuantumChain req) s = .next u ∧
            tells u (vendorAnswer (chainPart (fieldAt b 1 2) (fieldAt b 3 2))))))) ∧
    (spdmListed.elem code = false → ∃ u : State, exec (.spdmUnsupportedRequest req) s = .next u ∧
      tells u ([0x12, 0x7F, 0x07] ++ leBytes 1 code) ∧ u.access = s.access)

/-! ## The dictionary (chapter 12) -/

/-- R353–R369, Tables 12.2, 12.3: a frame with one operation is performed and answered: reads, rows, descriptions and the order of
addresses; writes with their subject's effect; sessions open and close. The model's own choices here: assumptions 70, 71 and 139. -/
def Obligations.DictionaryOperationsAreAnswered : Prop :=
  ∀ (s : State) (h : FrameHdr) (o : OpArgs) (peers : List PeerRead), s.hears h → o.status = 0 → o.res = 0 →
    let op (code : Nat) : DictOp := { op := code, sub := o.sub, idx := o.idx, data := o.data }
    let ans (code : Nat) (b : List Byte) : DictOp := { op := code, sub := o.sub, idx := o.idx, data := b }
    let key := objKey o.idx o.sub
    let counted (u : State) : Prop := u.obj (objKey 0x1100 0x0C) = min (s.obj (objKey 0x1100 0x0C) + 1) (objMax (objKey 0x1100 0x0C))
    (∀ r : ObjRow, h.session = 0 → findRow o.idx o.sub = some r →
      (h.asks (op 0x01) → r.acc ≠ 4 → r.ty ≠ 10 → o.data = [] → s.readBusy o.idx o.sub = false →
        (pad4 (s.value 0 r key)).length ≤ roomOf h →
        ∃ u : State, exec (.read h o [] peers) s = .next u ∧ s.replied u h 0 (ans 0x01 (s.value 0 r key)) ∧ counted u ∧
          u.mem = s.mem) ∧
      (∀ first count : Nat, h.asks (op 0x03) → r.acc ≠ 4 → r.ty = 10 → o.data.length = 8 → first = fieldAt o.data 0 4 →
        count = fieldAt o.data 4 2 → fieldAt o.data 6 2 = 0 → first + count ≤ (s.rows key).length → s.readBusy o.idx o.sub = false →
        8 ≤ roomOf h → count ≤ (roomOf h / 4 * 4 - 8) / r.size →
        ∃ u : State, exec (.readRows h o [] peers) s = .next u ∧ counted u ∧ u.mem = s.mem ∧
          s.replied u h 0 (ans 0x03 (leBytes 4 first ++ leBytes 2 count ++ leBytes 2 r.size ++
            (((s.rows key).drop first).take count).flatten))) ∧
      (h.asks (op 0x05) → o.data = [] → 12 ≤ roomOf h → ∃ u : State, exec (.describe h o [] peers) s = .next u ∧ counted u ∧ u.mem = s.mem ∧
        s.replied u h 0 (ans 0x05 (leBytes 1 r.ty ++ leBytes 1 r.acc ++ leBytes 2 0 ++ leBytes 2 r.size ++ leBytes 2 0 ++
          leBytes 4 (if r.ty = 10 then (s.rows key).length else 0))))) ∧
    (∀ k : Nat, h.session = 0 → h.asks (op 0x06) → nextObj o.idx o.sub = some k → o.data = [] → 4 ≤ roomOf h →
      ∃ u : State, exec (.next h o [] peers) s = .next u ∧ counted u ∧ u.mem = s.mem ∧
        s.replied u h 0 (ans 0x06 (leBytes 2 (k / 256) ++ leBytes 1 (k % 256) ++ leBytes 1 0))) ∧
    (s.inTurn h →
      (h.asks (op 0x02) →
        (∀ t : State, s.writeCheck h.session key o.data = dOk → (s.bare.hear h.session).writeObj (peers.headD {}) h.session key o.data = (t, dOk) →
          t.out = [] → t.mgmt.restart = false →
          ∃ u : State, exec (.write h o [] peers) s = .next u ∧ s.replied u h h.session (ans 0x02 ([])) ∧ u.mem = t.mem ∧
            u.keeper = t.keeper ∧ u.pass = t.pass ∧ ∀ k, k ≠ objKey 0x1100 0x0C → u.obj k = t.obj k) ∧
        (s.writeCheck h.session key o.data ≠ dOk → ∃ u : State, exec (.write h o [] peers) s = .next u ∧ counted u ∧
          s.replied u h h.session { (op 0x02) with status := s.writeCheck h.session key o.data, data := [] } ∧ u.mem = s.mem ∧
          u.keeper = s.keeper ∧ u.pass = s.pass ∧ ∀ k, k ≠ objKey 0x1100 0x0C → u.obj k = s.obj k)) ∧
      (∀ (r : ObjRow) (first v : Nat), h.asks (op 0x04) → o.idx = 0x2441 → o.sub = 0 → findRow 0x2441 0 = some r →
        o.data = leBytes 4 first ++ leBytes 2 1 ++ leBytes 2 4 ++ leBytes 4 v → v < 2 ^ 32 → v / 2 ^ 26 % 4 = 0 → first < 16384 →
        s.accessCode h.session r key = dOk → s.started 0x2441 = true →
        ∃ u : State, exec (.writeRows h o [] peers) s = .next u ∧ u.routeRow first = v ∧ s.replied u h h.session (ans 0x04 ([])) ∧
          u.mem = s.mem) ∧
      (h.asks (op 0x11) → o.data = [] → ∃ u : State, exec (.closeSession h o [] peers) s = .next u ∧
        s.replied u h h.session (op 0x11) ∧ u.session h.session = none ∧ u.mem = s.mem) ∧
      (h.asks (op 0x12) → o.data = [] → ∃ u : State, exec (.ping h o [] peers) s = .next u ∧ s.replied u h h.session (op 0x12) ∧
        counted u ∧ u.mem = s.mem)) ∧
    (∀ k : Nat, h.session = 0 → h.asks (op 0x10) → o.data = [] → o.idx = 0 → o.sub = 0 → s.freeSession = some k →
      ∃ u : State, exec (.openSession h o [] peers) s = .next u ∧ s.replied u h (s.nextOpens k * 32 + k) (op 0x10) ∧
        Tab.get u.mgmt.sessions {} k = { isOpen := true, opens := s.nextOpens k, path := h.path, heard := s.dev.ctlCyc } ∧ u.mem = s.mem)

/-- R353–R356, R364, R372–R376: relayed frames wait for their answer, which goes back to its asker, or is refused at the time's end;
frames of profile 1 reach the aliases; the port's settings are written, its addresses and messages answered, idle sessions closed. The
model's own choices here: assumptions 72, 73 and 138. -/
def Obligations.RelaysAliasesAndThePort : Prop :=
  ∀ (s : State),
    (∀ (h : FrameHdr) (o : OpArgs) (peers : List PeerRead),
      let op : DictOp := { op := 1, status := o.status, sub := o.sub, res := o.res, idx := o.idx, data := o.data }
      (∃ addr udp, h.path = .port addr udp) → s.portOpen = true → h.asks op → h.route ≠ 0xFFFF → s.routeUsable h = true →
      ∃ u : State, exec (.read h o [] peers) s = .next u ∧ u.mgmt.relays = s.mgmt.relays ++ [{ hdr := h }] ∧ u.mem = s.mem) ∧
    (∀ (l : LinkId) (p : Pkt) (peers : List PeerRead), p.dst = s.ownDev → p.dst ≠ 0xFFFF →
      (∀ x : Relay, fieldAt p.payload 1 1 = 2 →
        s.mgmt.relays.find? (fun x => x.answeredBy l p.src (parseHdr .mailbox p.payload)) = some x →
        (∃ addr udp, x.hdr.path = .port addr udp) →
        ∃ (u : State) (more : List Output), exec (.mgt l p peers) s = .next u ∧ u.mgmt.relays = s.mgmt.relays.erase x ∧
          u.out = .frame x.hdr.path s.udpPort (p.payload.take 16 ++ leBytes 2 x.hdr.route ++ p.payload.drop 18) :: (more ++ s.out) ∧
          u.mem = s.mem) ∧
      (∀ ops : List DictOp,
        let h := parseHdr (.relayDev p.src) p.payload
        s.dictServes = true → h.proto = 3 → h.kind = 1 → h.ctl < 2 → h.res = 0 → h.len = h.rx → h.len ≤ 2016 → h.nops ≤ 64 →
        h.route = 0xFFFF → h.session = 0 → parseOps h.nops (p.payload.drop 20) = some ops → ops.all (fun o => o.op != 0x10) = true →
        ∃ u : State, exec (.mgt l p peers) s = .next u ∧ u.mem = s.mem ∧
          u.obj (objKey 0x1100 0x0C) = min (s.obj (objKey 0x1100 0x0C) + 1) (objMax (objKey 0x1100 0x0C)))) ∧
    (∀ (seq : Nat) (x : Relay), s.mgmt.relays.find? (fun x => x.hdr.seq == seq) = some x →
      ∃ u : State, exec (.relayTimeout seq) s = .next u ∧ u.mgmt.relays = s.mgmt.relays.erase x ∧
        u.obj (objKey 0x1100 0x0D) = min (s.obj (objKey 0x1100 0x0D) + 1) (objMax (objKey 0x1100 0x0D)) ∧ u.mem = s.mem) ∧
    (∀ (seq obj : Nat) (val : List Byte) (r : ObjRow), s.dictServes = true → s.host.mb.go = false → s.host.mb.done = false →
      s.mgmt.restart = false → findRow (0x5000 + obj) 0 = some r →
      let key := objKey (0x5000 + obj) 0
      let n := 16 + (pad4 val).length
      let s0 : State := { s.bare with host := { s.host with mb := { s.host.mb with go := true, reqLen := n } } }
      (r.acc ≠ 4 → r.ty ≠ 10 → s.readBusy (0x5000 + obj) 0 = false → (pad4 (s.value 0 r key)).length ≤ 2016 →
        ∃ u : State, exec (.n40Read .mailbox seq obj []) s = .next u ∧ u.host.mb.done = true ∧ u.host.mb.go = false ∧ u.mem = s.mem ∧
          (let body := ({ op := 1, idx := obj, data := s.value 0 r key } : DictOp).n40Bytes
           u.out = .frame .mailbox 0 (n40Hdr 1 seq (8 + body.length) 0 ++ body) :: s.out)) ∧
      (∀ t : State, r.acc = 3 ∨ r.acc = 4 → n ≤ 2032 → s.valueCheck 0 key val = dOk → s0.writeObj {} 0 key val = (t, dOk) → t.out = [] →
        t.host = s0.host → t.mgmt.restart = false →
        ∃ u : State, exec (.n40Write .mailbox seq obj val []) s = .next u ∧ u.host.mb.done = true ∧ u.mem = t.mem ∧
          (∀ k, k ≠ objKey 0x1100 0x0C → u.obj k = t.obj k) ∧
          (let body := ({ op := 2, idx := obj } : DictOp).n40Bytes
           u.out = .frame .mailbox 0 (n40Hdr 1 seq (8 + body.length) 0 ++ body) :: s.out))) ∧
    (∀ cause : Nat, exec (.udpDatagramDiscard cause) s = .next (s.bump (objKey 0x1100 0x0D) 1)) ∧
    (s.dictServes = true → s.mgmt.dadDone = false →
      exec (.addressDetection false) s = .next { s with mgmt := { s.mgmt with dadDone := true } } ∧
      ∃ u : State, exec (.addressDetection true) s = .next u ∧ u.obj (objKey 0x1100 0x0F) = 3 ∧ u.mgmt = s.mgmt ∧ u.mem = s.mem) ∧
    (∀ (src : Nat) (data : List Byte), s.mgmt.dadDone = true → s.obj (objKey 0x1100 9) ≠ 0 →
      (fieldAt data 0 1 = 135 → (data.drop 8).take 16 = linkLocal s.mgmt.mac → ∃ b : List Byte,
        exec (.neighborDiscovery src data) s = .next (s.emit (.message 0 (if src = 0 then allNodes else src) b)) ∧ fieldAt b 0 1 = 136) ∧
      (fieldAt data 0 1 = 128 → ∃ b : List Byte, exec (.echoRequest src data) s = .next (s.emit (.message 1 src b)) ∧
        fieldAt b 0 1 = 129 ∧ b.drop 4 = data.drop 4)) ∧
    (∀ sess v : Nat, ∀ e ∈ [(3, Instr.udpPortWrite sess v), (4, .plcaNodeIdWrite sess v), (5, .plcaNodeCountWrite sess v),
        (6, .plcaTimerWrite sess v), (7, .plcaBurstCountWrite sess v), (8, .plcaBurstTimerWrite sess v), (9, .portEnableWrite sess v)],
      let key := objKey 0x1100 e.1
      s.writeCheck sess key (numBytes key v) = dOk →
      (e.1 = 4 → v ≤ 15 → v < s.obj (objKey 0x1100 5)) → (e.1 = 5 → s.obj (objKey 0x1100 4) ≤ 15 → s.obj (objKey 0x1100 4) < v) →
      ∃ (u : State) (more : List Output), exec e.2 s = .next u ∧ u.obj key = min v (objMax key) ∧
        u.out = more ++ .opStatus sess dOk :: s.out ∧ u.mem = s.mem) ∧
    (∀ slot : Fin 32,
      let x := Tab.get s.mgmt.sessions {} slot
      x.isOpen = true → x.opens ≤ 2 ^ 26 → ∃ u : State, exec (.sessionIdleTimeout slot) s = .next u ∧
        Tab.get u.mgmt.sessions {} slot = { opens := x.opens } ∧ u.mem = s.mem)

/-! ## Reset and start-up (chapter 13) -/

/-- R379, R380, R386, R410, R411, R461, R463, R464: power-good and RESET_N reset the device: what the flash holds stays, but for the copy
of a record whose write they cut short, and with the rails held what HBM keeps; the straps are sampled once. The model's own choices here:
assumptions 65 and 134. -/
def Obligations.PowerResetAndStraps : Prop :=
  ∀ (s : State),
    let cleared (u : State) (cutBoot cutOwner : Bool) : Prop := u.devState = stReset ∧ u.dev.phase = 0 ∧ u.dev.straps = none ∧ u.cores = [] ∧ u.pass = {} ∧ u.upd = {} ∧
      u.fabric = {} ∧ u.mgmt = {} ∧ u.access = {} ∧ u.book = {} ∧ u.flash = { (s.cutWrites cutBoot cutOwner).flash with heldRetire := [], retireFailed := false }
    s.cutWrites false false = s ∧
    (∀ a b : BootRec, s.flash.bootA = some a → s.flash.bootB = some b →
      (b.seq < a.seq → (s.cutWrites true false).flash = { s.flash with bootA := none }) ∧
      (a.seq < b.seq → (s.cutWrites true false).flash = { s.flash with bootB := none })) ∧
    (∀ a b : Nat × OwnerRec, s.flash.ownerA = some a → s.flash.ownerB = some b →
      (b.1 < a.1 → (s.cutWrites false true).flash = { s.flash with ownerA := none }) ∧
      (a.1 < b.1 → (s.cutWrites false true).flash = { s.flash with ownerB := none })) ∧
    (∀ cutBoot cutOwner : Bool, s.dev.pwrgd = true → ∃ (u : State) (more : List Output), exec (.powerGoodFall ⟨cutBoot, cutOwner⟩) s = .next u ∧ cleared u cutBoot cutOwner ∧
      u.dev.pwrgd = false ∧ u.mem = [] ∧ u.keeper = {} ∧ u.sched = {} ∧ u.power = {} ∧ u.out = more ++ .pin "SPI" false :: s.out ∧
      (s.power.tripped = true → more = [.pin "THERMTRIP_N" true])) ∧
    (∀ (torn : List Nat) (cutBoot cutOwner : Bool), s.dev.resetN = true → ∃ (u : State) (more : List Output), exec (.resetNAssert ⟨torn, cutBoot, cutOwner⟩) s = .next u ∧ cleared u cutBoot cutOwner ∧
      u.dev.resetN = false ∧ u.dev.pwrgd = s.dev.pwrgd ∧ u.power.tripped = s.power.tripped ∧ u.out = .pin "SPI" false :: (more ++ s.out) ∧
      (0x40 ≤ s.dev.phase → u.keeper.selfRefresh = true ∧ u.mem = s.mem ∧ u.shadow = s.shadow ∧ u.sched.ctxs = s.sched.ctxs) ∧
      (s.dev.phase < 0x40 → s.keeper.selfRefresh = false → u.mem = [] ∧ u.keeper = {} ∧ u.sched = {})) ∧
    exec .powerGoodRise s = .next { s with dev := { s.dev with pwrgd := true }, power := { s.power with diodeArmed := true } } ∧
    (s.dev.resetN = false → exec .resetNRelease s =
      .next { s with dev := { s.dev with resetN := true }, power := { s.power with request := s.vcoreFor 1800 } }) ∧
    (∀ v : BitVec 4, (s.dev.pwrgd = true → s.dev.resetN = true → s.dev.straps = none → ∃ u : State, exec (.strapSample v) s = .next u ∧
        u.dev.straps = some v ∧ (v.toNat.testBit 2 = true → u.host.up = false ∧ u.host.training = false) ∧
        (v.toNat.testBit 2 = false → u.host.up = s.host.up ∧ (s.host.up = false → s.host.perst = false → u.host.training = true)) ∧
        u = { s with dev := u.dev, host := u.host }) ∧
      (s.dev.straps ≠ none → exec (.strapSample v) s = .next s))

/-- R379, R383, R384, R386, R389, R391, R423, R442: each phase follows the one before it, does its work and ends in FAULT where the spec
says so; ROM reads the newer copy of the boot and owner records and writes its change into the other; a whistle that waited is taken in
its place. The model's own choices here: assumptions 65, 66, 78, 83 and 134. -/
def Obligations.StartUpPhases : Prop :=
  ∀ (s : State),
    let after (p : Nat) : Prop := s.devState = p ∧ s.power.tripped = false ∧ s.dev.pendingWhistle = 0
    let faulted (u : State) (cause : Nat) : Prop := u.devState = stFault ∧ u.obj oCause = cause
    (∀ (diode : Option Int) (raw : List (Nat × Int)), s.devState = stReset → s.power.tripped = false → s.dev.straps ≠ none →
      ∃ u : State, exec (.rom diode raw) s = .next u ∧ u.devState = 0x10 ∧ u.dev.phase = 0x10 ∧ u.mem = s.mem ∧
        (let r := s.flash.bootRec
         u.flash.boot = r.boot + 1 ∧ u.flash.active = r.active ∧ u.flash.fallbacks = r.fallbacks ∧ u.flash.slotA.state = r.stateA ∧
           u.flash.slotB.state = r.stateB ∧ u.flash.owner = s.flash.ownerRec.2 ∧
           (r.seq + 1 < 2 ^ 32 → u.flash.bootRec = { r with seq := r.seq + 1, boot := r.boot + 1 }) ∧
           (s.flash.bootA = some r → u.flash.bootA = some r) ∧ (s.flash.bootA ≠ some r → u.flash.bootB = s.flash.bootB)) ∧
        u.out = .pin "SIG3" true :: s.out ∧
        (5 ≤ s.flash.ownerRec.2.failures → u.access.lockoutMs = lockoutFor s.flash.ownerRec.2.failures * 1000) ∧
        (∀ k ∈ ringOscillators, ∀ v : Int, diode = some v → ∀ e : Nat × Int, raw.find? (fun e => e.1 == k) = some e →
          Tab.get u.power.offsets 0 k + e.2 = v)) ∧
    (let a := s.flash.active
     let sound (x : FwSlot) : Prop := (x.state = 2 ∨ x.state = 3) ∧ x.set.check = 0
     let listed (x : FwSlot) : Bool := x.set.tuples.any (fun t => t.1 == stepping)
     let runs (x : FwSlot) : Prop := sound x ∧ (listed x = true → x.set.tested = true)
     after stRom → ∃ u : State, exec .imageCheck s = .next u ∧ u.mem = s.mem ∧
      (runs (s.fwSlot a) → u.devState = 0x20 ∧ u.dev.slot = a ∧ u.dev.running = (s.fwSlot a).set ∧ u.dev.safe = (!listed (s.fwSlot a))) ∧
      (¬runs (s.fwSlot a) → runs (s.fwSlot (1 - a)) → u.devState = 0x20 ∧ u.dev.slot = 1 - a ∧ u.dev.running = (s.fwSlot (1 - a)).set ∧
        u.flash.active = 1 - a ∧ u.flash.fallbacks = s.flash.fallbacks + 1) ∧
      (¬runs (s.fwSlot a) → ¬runs (s.fwSlot (1 - a)) → faulted u 0x2902 ∧ u.dev.noSlot = true)) ∧
    (∀ (badCores : List (Nat × Nat)) (badBanks : List (Nat × Nat × Nat)) (badTiers : List Nat), after 0x20 →
      ∃ u : State, exec (.tierTest badCores badBanks badTiers) s = .next u ∧ u.dev.phase = 0x30 ∧ u.dev.warm = s.isWarm badTiers ∧
        u.dev.tierMark = [] ∧ u.dev.torn = [] ∧ (∀ x ∈ badCores, x.1 < 96 → u.obj (oCore x.1 1) = 2) ∧
        (∀ t ∈ badTiers, t < 4 → u.obj (oTier t 0x12) = 1) ∧
        (u.tiersUp.length < 2 ∨ (∃ e, e < 8 ∧ u.coresUp e < 2) → faulted u 0x1011) ∧
        (2 ≤ u.tiersUp.length → (∀ e, e < 8 → 2 ≤ u.coresUp e) → u.devState = 0x30)) ∧
    (∀ (badStacks : List (Nat × Nat)) (lanes : List (Nat × Nat × Nat)), after 0x30 →
      let up := (List.range 8).filter (fun k => badStacks.all (fun x => x.1 != k))
      let now := up.foldl (fun m k => m + 2 ^ k) 0
      ∃ u : State, exec (.memTrain badStacks lanes) s = .next u ∧ u.dev.phase = 0x40 ∧ u.obj (objKey 0x2400 2) = now ∧
        u.obj (objKey 0x2400 1) = 49152 * up.length ∧ (up.length < 4 → faulted u 0x2451) ∧
        (4 ≤ up.length → u.devState = 0x40 ∧
          (s.keeper.selfRefresh = true → s.keeper.keptStacks = now → u.sched.ctxs = s.sched.ctxs ∧
            u.obj (objKey 0x2500 5) = min s.sched.ctxs.length (objMax (objKey 0x2500 5))) ∧
          (s.keeper.selfRefresh = true → s.keeper.keptStacks ≠ now → u.sched.ctxs = [] ∧ u.keeper.pages = [] ∧ u.mem = []))) ∧
    (after 0x40 → ∃ u : State, exec .hostLink s = .next u ∧ u.devState = 0x50 ∧ u.dev.phase = 0x50 ∧ u.mem = s.mem ∧
      u.host.training = (s.host.training || (s.host.up && !s.strap 2 && s.obj oLinkRate != s.obj oCap))) ∧
    (after 0x50 → ∃ u : State, exec .pitchLink s = .next u ∧ u.devState = 0x60 ∧ u.dev.phase = 0x60 ∧ u.mem = s.mem ∧
      ∀ l, l < 64 → u.lnState l = if s.obj (oLink l 0x0A) = 1 then lnTraining else s.lnState l) ∧
    (after 0x60 →
      let ready (u : State) : Prop := u.devState = stReady ∧ u.dev.phase = stReady ∧ u.mem = s.mem ∧
        ((s.fwSlot s.dev.slot).state = 2 → (u.fwSlot s.dev.slot).state = 3)
      (∃ u : State, exec .pitchLinkTimeout s = .next u ∧ ready u) ∧
      ((∀ l, l < 64 → s.lnState l ≠ lnTraining) → ∃ u : State, exec .readyEntry s = .next u ∧ ready u)) ∧
    (∀ l, l < 64 → s.lnState l = lnTraining → exec .readyEntry s = .next s) ∧
    (s.devState = 0x40 → s.power.tripped = false → s.dev.pendingWhistle ≠ 0 → ∃ u : State, exec .hostLink s = .next u ∧
      u.devState = stStopping ∧ u.dev.stop = some { cause := s.dev.pendingWhistle, step := 1 } ∧ u.mem = s.mem) ∧
    (0x10 ≤ s.devState → s.devState ≤ 0x60 →
      (∃ u : State, exec .startupWatchdog s = .next u ∧ faulted u 0x1002 ∧ u.mem = s.mem ∧ u.out = s.out) ∧
      (∀ ms : Nat, exec (.phaseOverMax ms) s =
        .next (s.event 0x1002 (if s.devState ≤ 0x20 then srcRom else srcRole 0) [(1, s.devState), (4, ms)])))

/-- R392–R402: a bundle is staged, verified and written; a staged set is activated at reset or live, role by role through the bench and
engine by engine, or abandoned. The model's own choices here: assumption 79. -/
def Obligations.FirmwareIsStagedAndActivated : Prop :=
  ∀ (s : State),
    let may (sess v : Nat) : Prop := s.writeCheck sess oUpdCmd (numBytes oUpdCmd v) = dOk
    (∀ sess : Nat, may sess 1 →
      let a := s.obj oUpdAddr
      let n := s.obj oUpdSize
      let go : Prop := (s.obj oUpdState = 0 ∨ s.obj oUpdState = 4) ∧ s.running = true ∧ s.oneContext a n = true
      (go → n ≠ 0 → s.awayIn a n = [] → exec (.stage sess) s =
        .next (({ s with dev := { s.dev with staging := some (a, n) } }.setObj oUpdState 1).emit (.opStatus sess dOk))) ∧
      (¬go → exec (.stage sess) s = .next (s.emit (.opStatus sess dState)))) ∧
    (∀ a n : Nat, s.dev.staging = some (a, n) → s.awayIn a n = [] →
      let failed (ok : Bool) : Prop := ∃ u : State, exec (.stagingDone ok) s = .next u ∧ u.obj oUpdState = 4 ∧ u.dev.staging = none ∧
        u.fwSlot s.otherSlot = {} ∧ u.fwSlot (1 - s.otherSlot) = s.fwSlot (1 - s.otherSlot) ∧ u.mem = s.mem ∧ u.out = s.out
      failed false ∧
      (poisonedIn s.poison a n = true ∨ parseBundle (s.readMem a n) s.dev.running = none → failed true) ∧
      (∀ (f : FwSet) (carried : List Nat), poisonedIn s.poison a n = false → parseBundle (s.readMem a n) s.dev.running = some (f, carried) →
        (f.checkKeys ≠ 0 ∨ f.tested = false ∨ f.check ≠ 0 → failed true) ∧
        (f.checkKeys = 0 → f.tested = true → f.check = 0 →
          f.images.all (fun i => !carried.elem i.id || Config.sha384 i.bytes == i.digest) = true →
          ∃ u : State, exec (.stagingDone true) s = .next u ∧ u.obj oUpdState = 2 ∧ u.dev.staging = none ∧
            u.fwSlot s.otherSlot = { state := 1, set := f } ∧ u.fwSlot (1 - s.otherSlot) = s.fwSlot (1 - s.otherSlot) ∧ u.mem = s.mem ∧
            u.out = s.out))) ∧
    (∀ sess : Nat, may sess 3 →
      (s.obj oUpdState = 2 → ∃ u : State, exec (.activateAtReset sess) s = .next u ∧ u.flash.active = s.otherSlot ∧
        (u.fwSlot s.otherSlot).state = 2 ∧ (u.fwSlot s.otherSlot).set = (s.fwSlot s.otherSlot).set ∧ u.dev = s.dev ∧ u.objs = s.objs ∧
        u.out = .opStatus sess dOk :: s.out) ∧
      (s.obj oUpdState ≠ 2 → exec (.activateAtReset sess) s = .next (s.emit (.opStatus sess dState)))) ∧
    (∀ sess : Nat, may sess 2 →
      let f := (s.fwSlot s.otherSlot).set
      let go : Prop := s.obj oUpdState = 2 ∧ s.devState = stReady ∧ s.dev.changes = [] ∧ (∀ l, l < 64 → s.obj (oLink l 1) ≠ 5) ∧ s.bench ≠ none ∧
        f.determ = s.dev.running.determ ∧ s.dev.safe = false ∧ (intermediates s.dev.running f).all f.lists = true
      (go → ∃ u : State, exec (.activateLive sess) s = .next u ∧ u.obj oUpdState = 3 ∧ u.dev.act = some {} ∧ u.devState = stService ∧
        u.dev.changes = [chgLive] ∧ u.flash = s.flash ∧ u.out = .opStatus sess dOk :: s.out) ∧
      (¬go → exec (.activateLive sess) s = .next (s.emit (.opStatus sess dState)))) ∧
    (∀ a : Activation, s.dev.act = some a →
      let abandons (u : State) : Prop := u.dev.act.all (fun b => b.reverting) = true ∧ u.mem = s.mem ∧
        (a.handed = [] → a.updated = [] → u.dev.act = none ∧ u.obj oUpdState = 4 ∧ u.flash.active = s.dev.slot)
      (∀ b f : Nat, a.stage = .load → a.reverting = false → a.role < 4 → ¬(a.role = 2 ∧ s.readyPending = true) → s.coreOfRole a.role = some f →
        s.bench = some b → ∃ u : State, exec .roleImageLoaded s = .next u ∧ u.roleOf b = a.role ∧ u.roleOf f = 4 ∧ u.isSilent f = true ∧
          u.dev.act.any (fun x => x.handed == a.handed ++ [a.role]) = true ∧ u.mem = s.mem) ∧
      (a.stage = .load → a.role = 2 → s.readyPending = true → exec .roleImageLoaded s = .next (s.setAct { a with stage := .freeze })) ∧
      (a.stage = .freeze → a.reverting = false → ∃ u : State, exec .freezeWaitTimeout s = .next u ∧ abandons u) ∧
      (∀ k : Nat, s.coreOfRole 4 = some k → a.stage = .restart → s.dev.pendingWhistle = 0 →
        exec .benchHeartbeatLive s = .next ((s.setSilent k false).setAct { a with stage := .load })) ∧
      (a.stage = .micro →
        (a.retried = false → exec (.microcodeLoadDone false) s = .next (s.setAct { a with retried := true })) ∧
        (a.retried = true → a.reverting = false → ∃ u : State, exec (.microcodeLoadDone false) s = .next u ∧ abandons u) ∧
        (s.pass.layout ≠ none → exec (.microcodeLoadDone true) s = .next (s.setAct { a with stage := .back })) ∧
        (s.pass.layout = none → a.engine = 7 → a.reverting = false → s.dev.pendingWhistle = 0 → s.dev.stop = none →
          ∃ u : State, exec (.microcodeLoadDone true) s = .next u ∧ u.dev.act = none ∧ u.dev.slot = s.otherSlot ∧ u.flash.active = s.otherSlot ∧
            u.dev.running = (s.fwSlot s.otherSlot).set ∧ u.obj oUpdState = 0 ∧ (u.engine 7).version = (s.fwSlot s.otherSlot).set.version 4 ∧
            u.mem = s.mem)) ∧
      (∀ sess : Nat, may sess 4 → s.obj oUpdState = 3 → a.reverting = false →
        ∃ u : State, exec (.abandon sess) s = .next u ∧ abandons u ∧ u.out = .opStatus sess dOk :: s.out)) ∧
    (∀ sess : Nat, may sess 4 →
      (s.obj oUpdState = 1 ∨ s.obj oUpdState = 2 → ∃ u : State, exec (.abandon sess) s = .next u ∧ u.obj oUpdState = 0 ∧
        u.fwSlot s.otherSlot = {} ∧ (s.obj oUpdState = 1 → u.dev.staging = none ∧ u.flash.active = s.flash.active) ∧
        (s.obj oUpdState = 2 → u.flash.active = s.dev.slot) ∧ u.out = .opStatus sess dOk :: s.out) ∧
      (s.obj oUpdState = 0 ∨ s.obj oUpdState = 4 → exec (.abandon sess) s = .next ((s.setObj oUpdState 0).emit (.opStatus sess dOk))))

/-- R21, R397, R403–R405: a core leaves service and its work is stopped, returns after its self-test; control cores beat, and the bench
takes a silent one's role; a book's rebuild ends. The model's own choices here: assumptions 61, 80 and 81. -/
def Obligations.CoresLeaveAndReturn : Prop :=
  ∀ (s : State),
    (∀ (sess : Nat) (c : CoreId), s.writeCheck sess (oCore c 2) (numBytes (oCore c 2) 1) = dOk →
      let st := s.obj (oCore c 1)
      (st = 2 ∨ s.othersUp c < 2 ∨ s.dev.act ≠ none → exec (.quarantineRequest sess c) s = .next (s.emit (.opStatus sess dState))) ∧
      (st = 0 → 2 ≤ s.othersUp c → s.dev.act = none → c.val ∉ s.dev.quar → ∃ u : State, exec (.quarantineRequest sess c) s = .next u ∧
        ((s.core c).noThreads = true → u.obj (oCore c 1) = 1 ∧ (u.core c).sp = [] ∧ c.val ∉ u.dev.quar) ∧
        ((s.core c).noThreads = false → c.val ∈ u.dev.quar ∧ chgCore c ∈ u.dev.changes ∧ u.obj (oCore c 1) = 0 ∧ u.obj (oCore c 2) = 1 ∧
          (s.devState = stReady → u.devState = stService) ∧ u.cores = s.cores ∧ u.out = .opStatus sess dOk :: s.out))) ∧
    (∀ c : CoreId,
      (c.val ∈ s.dev.quar → ∃ u : State, exec (.quarantineWaitExpire c) s = .next u ∧ u.obj (oCore c 1) = 1 ∧ (u.core c).sp = [] ∧
        (u.core c).nc = [] ∧ (u.core c).ic = [] ∧ (u.core c).tlb = [] ∧ c.val ∉ u.dev.quar ∧ chgCore c ∉ u.dev.changes) ∧
      (c.val ∉ s.dev.quar → exec (.quarantineWaitExpire c) s = .next s)) ∧
    (∀ (sess : Nat) (c : CoreId), s.writeCheck sess (oCore c 2) (numBytes (oCore c 2) 0) = dOk →
      (s.obj (oCore c 1) = 1 → ∃ u : State, exec (.quarantineRelease sess c) s = .next u ∧ c.val ∈ u.dev.testing ∧
        u.objs = s.objs ∧ u.out = .opStatus sess dOk :: s.out) ∧
      (s.obj (oCore c 1) = 2 → exec (.quarantineRelease sess c) s = .next (s.emit (.opStatus sess dState)))) ∧
    (∀ (c : CoreId) (failed : Option Nat), c.val ∈ s.dev.testing → ∃ u : State, exec (.coreSelfTestDone c failed) s = .next u ∧
      c.val ∉ u.dev.testing ∧ u.obj (oCore c 1) = (if failed = none then 0 else 2) ∧ (failed = none → u.obj (oCore c 2) = 0) ∧
      u.mem = s.mem ∧ u.cores = s.cores ∧ u.out = s.out) ∧
    (∀ k : CtlId, exec (.heartbeat k) s =
      .next { s with dev := { s.dev with beats := Tab.set s.dev.beats 0 k ((Tab.get s.dev.beats 0 k + 1) % 2 ^ 32) } }) ∧
    (∀ k : CtlId, s.isSilent k = false → s.roleOf k ≠ 5 → 0x30 ≤ s.dev.phase →
      (∃ j, j < 5 ∧ j ≠ k.val ∧ s.isSilent j = false ∧ s.roleOf j ≠ 5) →
      ∃ u : State, exec (.controlCoreSilent k) s = .next u ∧
        (s.roleOf k = 4 → u.roleOf k = 5) ∧
        (s.roleOf k ≠ 4 → (s.setSilent k true).bench = none → u.devState = stFault ∧ (s.devState ≠ stFault → u.obj oCause = 0x2910)) ∧
        (∀ c : Nat, s.roleOf k ≠ 4 → (s.setSilent k true).bench = some c → u.roleOf c = s.roleOf k ∧ u.roleOf k = 5) ∧
        (s.book.entries.length + 8 ≤ bookSize → ∀ j, j < 5 → j ≠ k.val → s.isSilent j = false → s.roleOf j < 5 →
          (∀ i, i < 5 → s.roleOf i = s.roleOf j → i = j) →
          ∃ e ∈ u.book.entries, e.code = 0x2910 ∧ e.source = srcRole (s.roleOf j) ∧ s.obj oLastSeq < e.seq)) ∧
    (∀ (i : Fin 4), chgFrames i ∈ s.dev.changes → s.keeper.keepWaits = [] → ∃ u : State, exec (.bookRebuildComplete (.frames i)) s = .next u ∧
      u.pool i = { s.pool i with free := (s.pool i).total - s.mapped i - s.inflightOf i, allocated := s.mapped i, inflight := s.inflightOf i } ∧
      chgFrames i ∉ u.dev.changes ∧ u.mem = s.mem) ∧
    (∀ (c : Nat), chgMshr c ∈ s.dev.changes → s.keeper.keepWaits = [] → ∃ u : State, exec (.bookRebuildComplete (.mshr c)) s = .next u ∧
      u.col c = { s.col c with freeMshr := 64 - (s.col c).mshrs.length, held := false } ∧ chgMshr c ∉ u.dev.changes ∧ u.mem = s.mem) ∧
    (chgSched ∈ s.dev.changes → s.keeper.keepWaits = [] → ∃ u : State, exec (.bookRebuildComplete .sched) s = .next u ∧
      u.obj oSlots = min s.slotsUsed (objMax oSlots) ∧ u.obj oCtxs = min s.sched.ctxs.length (objMax oCtxs) ∧ u.sched.freeSlots = 4096 - s.slotsUsed ∧
      chgSched ∉ u.dev.changes) ∧
    (∀ e : Nat, chgBufs e ∈ s.dev.changes → s.keeper.keepWaits = [] →
      let n := (s.pass.reds.filter (fun r => s.engineOf r.layer == e)).foldl (fun n r => n + r.held.length) 0
      ∃ u : State, exec (.bookRebuildComplete (.pass e)) s = .next u ∧ u.engine e = { s.engine e with held := n, free := 1024 - n } ∧
        chgBufs e ∉ u.dev.changes ∧ u.mem = s.mem)

/-! ## Power, clock and temperature (chapter 14) -/

/-- R412–R433: the power loop, the limiter, the sensors with the hard trip, the thermal loop with throttling and its whistle, and the
clusters' clocks. The model's own choices here: assumptions 77, 78 and 137. -/
def Obligations.PowerAndThermalLoops : Prop :=
  ∀ (s : State),
    (∀ rails : List (Nat × Nat), s.loopsRun = true → rails.length = 7 →
      let rows : Tab (Nat × Nat) := (List.range 7).foldl (fun t r => Tab.set t (0, 0) r (railMv r (rails.getD r (0, 0)).1, (rails.getD r (0, 0)).2)) s.power.rails
      let p : Nat := rows.foldl (fun n e => n + e.2.1 * e.2.2) 0
      let ls : Int := s.sustained * 1000000
      let a := min s.allowMax (s.power.allow.getD s.allowMax + (ls - p))
      let n := if ls < p then s.power.overRun + 1 else 0
      let amps := (rails.getD 0 (0, 0)).2
      let m := if 2000000 < amps then s.power.amps + 1 else 0
      let next := powerStep s.power.fpw p ls (s.obj oLp * 1000000) a n (s.obj oPeak) (decide (2600000 < amps) || decide (5 ≤ m))
      ∃ u : State, exec (.powerLoopIteration rails []) s = .next u ∧ u.power.fpw = next.1 ∧ 600 ≤ u.power.fpw ∧ u.power.fpw ≤ 1800 ∧
        u.power.allow = some next.2 ∧ u.power.overRun = n ∧ u.power.amps = m ∧ u.power.rails = rows ∧
        u.obj (objKey 0x2000 1) = min (p / 1000000) (objMax (objKey 0x2000 1)) ∧ s.vcoreFor (topCluster s.clockOf) ≤ u.power.request ∧
        u.mem = s.mem ∧ u.out = s.out) ∧
    (s.power.raising = true → ∃ u : State, exec (.avsbusRaiseTimeout 0) s = .next u ∧
      Tab.get u.power.avsFails 0 0 = Tab.get s.power.avsFails 0 0 + 1 ∧
      (Tab.get s.power.avsFails 0 0 = 2 → Tab.get u.power.avsLost false 0 = true) ∧ u.mem = s.mem ∧ u.out = s.out) ∧
    exec (.avsbusRaiseTimeout 1) s = .next s ∧
    (∀ k : ClusterId, s.loopsRun = true → s.devState ≠ stStopped →
      let f := s.clusterTarget k
      (f ≤ s.clockOf k ∨ (s.power.raising = false ∧ s.vcoreFor f ≤ s.power.request) →
        exec (.clusterClockChange k) s = .next (s.setPower { s.power with clock := Tab.set s.power.clock 1800 k f })) ∧
      (s.clockOf k < f → s.power.raising = true → exec (.clusterClockChange k) s = .next s)) ∧
    (∀ mv amps : Nat, s.power.vrAlert = false → ∃ u : State, exec (.vrAlertAssert mv amps) s = .next u ∧ u.power.vrAlert = true ∧
      u.power.limiter = true ∧ u.power.fpw = s.power.fpw ∧ u.mem = s.mem ∧ u.out = s.out) ∧
    (∀ amps : Nat, (amps ≤ 2600 → exec (.currentLimiterSample amps) s = .next (s.setPower { s.power with estimate := amps })) ∧
      (2600 < amps → ∃ u : State, exec (.currentLimiterSample amps) s = .next u ∧ u.power.limiter = true ∧ u.power.estimate = amps ∧
        u.mem = s.mem ∧ u.out = s.out)) ∧
    (s.power.limiter = true → s.power.estimate < 2400 →
      exec .currentLimiterRelease s = .next (s.setPower { s.power with limiter := false, vrAlert := false })) ∧
    (∀ k : Nat, isSensor k = true → s.isBroken k = false →
      (∃ u : State, exec (.sensorSample k none) s = .next u ∧ u.isBroken k = true ∧ u.mem = s.mem ∧ u.out = s.out) ∧
      (∀ r : Int,
        let t : Int := r + Tab.get s.power.offsets 0 k
        ∃ u : State, exec (.sensorSample k (some r)) s = .next u ∧ u.mem = s.mem ∧ (t < degrees (-20) ∨ degrees 150 < t → u.isBroken k = true) ∧
          (k = diode → s.power.diodeArmed = true → s.power.tripped = false →
            (degrees 118 ≤ t → Tab.get s.power.tripOnce false k = true → u.power.tripped = true ∧ u.power.request = 600 ∧
              u.out = .pin "THERMTRIP_N" false :: s.out) ∧
            (degrees 118 ≤ t → Tab.get s.power.tripOnce false k = false → Tab.get u.power.tripOnce false k = true ∧ u.power.tripped = false) ∧
            (t < degrees 118 → Tab.get u.power.tripOnce false k = false ∧ u.power.tripped = false)))) ∧
    (∀ (readings : List (Nat × Option Int)) (power : List (Nat × Int)), s.loopsRun = true →
      ∃ u : State, exec (.thermalLoopIteration readings power) s = .next u ∧ u.mem = s.mem ∧
        (u.dev = s.dev → s.devState ≠ stStopping → ∀ k, k < 8 →
          let vs := u.clusterValues k
          let f := Tab.get s.power.fth 1800 k
          ((∃ v ∈ vs, v.2.2.2 ≤ v.2.2.1) → Tab.get u.power.fth 1800 k = max 600 (f - 100) ∧ Tab.get u.power.hot false k = true) ∧
          ((∀ v ∈ vs, v.2.2.1 + degrees 2 ≤ v.2.2.2) → Tab.get u.power.fth 1800 k = min 1800 (f + 50) ∧ Tab.get u.power.hot false k = false) ∧
          ((∀ v ∈ vs, v.2.2.1 < v.2.2.2) → (∃ v ∈ vs, v.2.2.2 < v.2.2.1 + degrees 2) →
            Tab.get u.power.fth 1800 k = f ∧ Tab.get u.power.hot false k = false)) ∧
        (s.devState = stReady → s.dev.act = none → s.dev.stop = none → s.dev.pendingWhistle = 0 →
          (∃ t c, t < 4 ∧ c < 96 ∧ fixOf (s.obj (objKey 0x2100 6)) ≤ u.valueUsed t c) →
          u.devState = stStopping ∧ u.dev.stop = some { cause := 3, step := 1 } ∧ ∀ k, k < 8 → Tab.get u.power.fth 1800 k = 600))

/-- R406, R434–R436, R466: a whistle by write or by WHISTLE_N begins the orderly stop, or waits, or is rejected; its steps end or are
abandoned, and the last one is STOPPED. The model's own choices here: assumption 83. -/
def Obligations.WhistleAndOrderlyStop : Prop :=
  ∀ (s : State),
    let begins (u : State) (cause : Nat) : Prop := u.devState = stStopping ∧ u.dev.stop = some { cause := cause, step := 1 } ∧ u.mem = s.mem ∧
      ∀ q : QueueId, (s.queue q).state = 1 →
        (u.queue q).state = (if (s.queue q).descs = [] then 0 else 3) ∧ (u.queue q).ctl.toNat.testBit 31 = false
    (∀ (sess : Nat) (n40 : Bool),
      let key := if n40 then objKey 0x5007 0 else objKey 0x1001 2
      s.writeCheck sess key (numBytes key 1) = dOk →
      (s.running = true → s.actBusy = false →
        ∃ u : State, exec (.whistle sess n40 1) s = .next u ∧ begins u 1 ∧ u.out = .opStatus sess dOk :: s.out) ∧
      (s.devState = stFault → exec (.whistle sess n40 1) s = .next (s.emit (.opStatus sess dState))) ∧
      (s.running = true → s.actBusy = true → s.dev.pendingWhistle = 0 → exec (.whistle sess n40 1) s =
        .next ({ s with dev := { s.dev with pendingWhistle := 1 } }.emit (.opStatus sess dOk)))) ∧
    (s.dev.resetN = true →
      exec (.whistleNSample true) s = .next { s with dev := { s.dev with whistleLow := 0 } } ∧
      (s.dev.whistleLow < 9 → exec (.whistleNSample false) s = .next { s with dev := { s.dev with whistleLow := s.dev.whistleLow + 1 } }) ∧
      (s.dev.whistleLow = 9 → s.running = true → s.actBusy = false →
        ∃ u : State, exec (.whistleNSample false) s = .next u ∧ begins u 2 ∧ u.out = s.out)) ∧
    (∀ x : Stop, s.dev.stop = some x → s.devState = stStopping →
      let ended (u : State) : Prop := u.devState = stStopped ∧ u.obj oPowerOff = 1 ∧ u.power.request = 600 ∧ u.mem = s.mem ∧
        ∀ l, l < 64 → u.lnState l = if s.lnState l = 0 then 0 else 1
      (s.stopDone x.step = true →
        (x.step < 4 → exec .stopStepComplete s = .next { s with dev := { s.dev with stop := some { x with step := x.step + 1 } } }) ∧
        (x.step = 4 → ∃ u : State, exec .stopStepComplete s = .next u ∧ ended u ∧ u.out = s.out)) ∧
      (s.stopDone x.step = false → exec .stopStepComplete s = .next s) ∧
      (1 ≤ x.step → x.step < 4 → ∃ u : State, exec .stopStepBudgetExpire s = .next u ∧ u.devState = stStopping ∧
        u.dev.stop = some { x with step := x.step + 1, abandoned := x.abandoned + 1 } ∧
        (x.step = 1 → ∀ q : QueueId, (u.queue q).state = 0 ∧ (u.queue q).descs = [])) ∧
      (x.step = 4 → ∃ u : State, exec .stopStepBudgetExpire s = .next u ∧ ended u ∧ u.out = s.out))

/-! ## Access control and the scorebook (chapter 15) -/

/-- R439–R446: passwords are compared, counted and locked out; a new password is stored; vendor scopes are asked for, and opened or
refused; test access opens and stays open. The model's own choices here: assumption 67. -/
def Obligations.AccessIsControlled : Prop :=
  ∀ (s : State) (sess : Nat),
    let o := s.flash.owner
    let kept (u : State) : Prop := u.mem = s.mem ∧ u.cores = s.cores ∧ u.keeper = s.keeper ∧ u.out = .opStatus sess dOk :: s.out
    let stored (u : State) : Prop := s.flash.ownerRec.1 + 2 < 2 ^ 32 → u.flash.ownerRec.2 = u.flash.owner
    (∀ entry : List Byte, s.writeCheck sess (objKey 0x1200 2) entry = dOk →
      (s.lockoutLeft ≠ 0 → exec (.ownerPasswordEntry sess entry) s = .next (s.emit (.opStatus sess dState))) ∧
      (s.lockoutLeft = 0 → ∃ u : State, exec (.ownerPasswordEntry sess entry) s = .next u ∧ kept u ∧ stored u ∧
        (o.accepts entry = true → u.level sess = max 1 (s.level sess) ∧ u.flash.owner = { o with failures := 0 }) ∧
        (o.accepts entry = false →
          let f := min (o.failures + 1) (2 ^ 32 - 1)
          u.level sess = s.level sess ∧ u.flash.owner = { o with failures := f } ∧
          (f < 5 → u.access = s.access) ∧ (5 ≤ f → u.access.lockoutMs = lockoutFor f * 1000 ∧ u.access.lockoutAt = s.dev.ctlCyc)))) ∧
    exec .lockoutExpire s = .next (s.setLockout 0) ∧ (s.setLockout 0).lockoutLeft = 0 ∧
    (∀ entry : List Byte, s.writeCheck sess (objKey 0x1200 3) entry = dOk →
      (entry.length < 8 → exec (.newOwnerPassword sess entry) s = .next (s.emit (.opStatus sess dState))) ∧
      (8 ≤ entry.length → ∃ u : State, exec (.newOwnerPassword sess entry) s = .next u ∧ kept u ∧ stored u ∧ u.flash.owner.state = 1 ∧
        u.flash.owner.salt = s.random 32 ∧ u.flash.owner.failures = 0 ∧ u.flash.owner.accepts entry = true ∧ u.lockoutLeft = 0)) ∧
    (∀ v : Nat, s.writeCheck sess (objKey 0x1200 6) (numBytes (objKey 0x1200 6) v) = dOk →
      exec (.vendorScopeRequest sess v) s = .next ({ s with
        fresh := s.fresh + 1
        access := { s.access with
          challenge := some { sess := sess, scope := v, bytes := s.random 32 ++ serial ++ leBytes 4 v ++ leBytes 4 0 } } }.emit (.opStatus sess dOk))) ∧
    exec .vendorChallengeExpire s = .next { s with access := { s.access with challenge := none } } ∧
    (∀ v : Nat, s.writeCheck sess (objKey 0x1200 9) (numBytes (objKey 0x1200 9) v) = dOk →
      ((∀ c : Challenge, s.access.challenge = some c → c.sess ≠ sess) →
        exec (.vendorResponseLength sess v) s = .next (s.emit (.opStatus sess dState))) ∧
      (∀ c : Challenge, s.access.challenge = some c → c.sess = sess → ∃ u : State, exec (.vendorResponseLength sess v) s = .next u ∧ kept u ∧
        u.access.challenge = none ∧
        (s.responseOk c v = true → u.level sess = 2 ∧ u.obj oScopes = min (s.obj oScopes ||| c.scope) (objMax oScopes) ∧
          u.flash.owner = { o with failures := 0 }) ∧
        (s.responseOk c v = false → u.level sess = s.level sess ∧ u.obj oScopes = s.obj oScopes ∧ u.flash = s.flash))) ∧
    (∀ v : Nat, ∀ e ∈ [(0x0B, Instr.testAccessEnable sess v), (0x0C, .jtagEnable sess v)],
      let key := objKey 0x2900 e.1
      s.writeCheck sess key (numBytes key v) = dOk →
      (v = 1 → ∃ u : State, exec e.2 s = .next u ∧ kept u ∧ u.obj key = 1) ∧
      (v = 0 → s.obj key = 1 → exec e.2 s = .next (s.emit (.opStatus sess dState))))

/-- R17, R449–R454: events spend tokens and enter the scorebook in order; the flash ring takes the severe ones; a clear leaves its own
entry and the earlier clears; the host time mark is written. The model's own choices here: assumptions 74, 75 and 76. -/
def Obligations.ScorebookAndMarks : Prop :=
  ∀ (s : State),
    (∀ (code src : Nat) (fields : List EvField),
      let b := Tab.get s.book.buckets {} code
      let u := s.event code src fields
      (5 ≤ sevOf code ∨ b.missing < s.obj oBurst → s.book.entries.length < bookSize →
        ∃ e : Entry, u.book.entries = s.book.entries ++ [e] ∧ e.code = code ∧ e.sev = sevOf code ∧ e.source = src ∧ e.seq = s.obj oLastSeq + 1 ∧
          e.data = packEvent 0 fields ∧ e.suppressed = min b.suppressed 31 ∧ (Tab.get u.book.buckets {} code).suppressed = 0 ∧
          u.book.toFlash = (if 5 ≤ sevOf code then s.book.toFlash ++ [e] else s.book.toFlash)) ∧
      (sevOf code < 5 → s.obj oBurst ≤ b.missing → u.book.entries = s.book.entries ∧
        (Tab.get u.book.buckets {} code).suppressed = b.suppressed + 1 ∧ u.obj oSuppressed = min (s.obj oSuppressed + 1) (objMax oSuppressed)) ∧
      u.out = s.out ∧ u.mem = s.mem ∧ u.dev = s.dev) ∧
    (∀ code : Nat, ∃ u : State, exec (.tokenRefill code) s = .next u ∧ u = { s with book := { s.book with buckets := u.book.buckets } } ∧
      (Tab.get u.book.buckets {} code).missing = (Tab.get s.book.buckets {} code).missing - 1 ∧
      ∀ k, k ≠ code → Tab.get u.book.buckets {} k = Tab.get s.book.buckets {} k) ∧
    (∀ sess v : Nat, s.writeCheck sess oBurst (numBytes oBurst v) = dOk → ∃ u : State, exec (.burstWrite sess v) s = .next u ∧
      u.obj oBurst = min v (objMax oBurst) ∧ u.out = .opStatus sess dOk :: s.out ∧ u.mem = s.mem ∧
      ∀ e ∈ eventTable, e.2 < 5 →
        v - (Tab.get u.book.buckets {} e.1).missing = min v (s.obj oBurst - (Tab.get s.book.buckets {} e.1).missing)) ∧
    (∀ (e : Entry) (r : List Entry), s.ringOpen = true → s.book.toFlash = e :: r →
      let stored : State := { s with
        flash := { s.flash with ring := ringPush s.flash.ring e }, book := { s.book with toFlash := r, retrying := false } }
      let failed (u : State) : Prop := u.flash = s.flash ∧ u.book.retrying = true ∧ e ∈ u.book.toFlash ∧ u.mem = s.mem ∧ u.out = s.out
      (s.book.retrying = false → exec (.flashRingWrite true) s = .next stored ∧
        ∃ u : State, exec (.flashRingWrite false) s = .next u ∧ failed u) ∧
      (s.book.retrying = true → exec (.flashRingRetry true) s = .next stored ∧
        ∃ u : State, exec (.flashRingRetry false) s = .next u ∧ failed u)) ∧
    (∀ sess v : Nat, s.writeCheck sess (objKey 0x2800 6) (numBytes (objKey 0x2800 6) v) = dOk →
      (s.book.erasing = true → exec (.clearScorebook sess v) s = .next (s.emit (.opStatus sess dState))) ∧
      (s.book.erasing = false → ∃ u : State, exec (.clearScorebook sess v) s = .next u ∧ u.book.erasing = true ∧ u.obj oDropped = 0 ∧
        u.obj oSuppressed = 0 ∧ (∀ e ∈ u.book.entries, e.isClear = true ∨ s.obj oLastSeq < e.seq) ∧
        (s.book.entries.length < bookSize → ∃ e ∈ u.book.entries, e.isClear = true ∧ e.seq = s.obj oLastSeq + 1) ∧
        u.out = .opStatus sess dOk :: s.out ∧ u.mem = s.mem)) ∧
    (s.book.erasing = true → s.dev.stop = none → exec .scorebookEraseDone s = .next { s with
      flash := { s.flash with ring := s.flash.ring.filter (Entry.kept s.book.clearSeq) }, book := { s.book with erasing := false } }) ∧
    (∀ sess v : Nat, s.writeCheck sess (objKey 0x1010 1) (numBytes (objKey 0x1010 1) v) = dOk →
      exec (.hostTimeMarkWrite sess v) s =
        .next (((s.setObj (objKey 0x1010 1) v).setObj (objKey 0x1010 2) s.dev.ctlCyc).emit (.opStatus sess dOk)))

/-- R59, R444: a write of n from 0 to 255 to 2600:04 clears the four counters of slot n on every core, clears bit n of 2600:05 and re-arms event
0x2602 for slot n; 0xFFFF does so for every slot; any other value is rejected; the clear is one step, and every other slot keeps its counts, so
a drain's counts land wholly before or after it. A write of 1 to 1200:0B returns its session to level 0 and changes no object, the vendor
scopes of 1200:0A among them. -/
def Obligations.SlotClearsAndLevelReturn : Prop :=
  ∀ (s : State) (sess v : Nat),
    (s.writeCheck sess (objKey 0x2600 4) (numBytes (objKey 0x2600 4) v) = dOk →
      ∃ u : State, exec (.clearSlotWrite sess v) s = .next u ∧ u.out = .opStatus sess dOk :: s.out ∧ u.mem = s.mem ∧
        (v = 0xFFFF → u.obj (objKey 0x2600 5) = 0 ∧ u.nanSeen = [] ∧ u.cores = s.cores.map (fun e => (e.1, { e.2 with stats := [] }))) ∧
        (v ≠ 0xFFFF →
          (s.obj (objKey 0x2600 5) ≤ objMax (objKey 0x2600 5) →
            ∀ k, (u.obj (objKey 0x2600 5)).testBit k = if k = v then false else (s.obj (objKey 0x2600 5)).testBit k) ∧
          (∀ k, Tab.get u.nanSeen false k = if k = v then false else Tab.get s.nanSeen false k) ∧
          u.cores = s.cores.map (fun e => (e.1, { e.2 with stats := Tab.set e.2.stats {} v {} })))) ∧
    (∀ (t : Tab SlotStats) (k : Nat), Tab.get (Tab.set t {} v {}) {} k = if k = v then {} else Tab.get t {} k) ∧
    (255 < v → v ≠ 0xFFFF → ∃ x : Nat, x ≠ dOk ∧ exec (.clearSlotWrite sess v) s = .next (s.emit (.opStatus sess x))) ∧
    (s.writeCheck sess (objKey 0x1200 0x0B) (numBytes (objKey 0x1200 0x0B) v) = dOk →
      v = 1 ∧ ∃ u : State, exec (.leaveLevel sess v) s = .next u ∧ u.level sess = 0 ∧ u.objs = s.objs ∧ u.flash = s.flash ∧ u.mem = s.mem ∧
        u.cores = s.cores ∧ u.keeper = s.keeper ∧ u.out = .opStatus sess dOk :: s.out)

/-! ## The whole machine -/

/-- R362, R364, R368, R441, Table 12.5, Table 12.7: a write that its checks refuse changes nothing and is answered with the code; the
checks ask for an open session, an object, access and level, in this order. The model's own choices here: assumptions 7 and 66. -/
def Obligations.RefusedWritesChangeNothing : Prop :=
  ∀ (s : State) (sess key : Nat) (data : List Byte),
    (∀ i : Instr, i.written = some (sess, key, data) → s.mgmt.restart = false → s.writeCheck sess key data ≠ dOk →
      exec i s = .next (s.emit (.opStatus sess (s.writeCheck sess key data)))) ∧
    (sess = 0 ∨ s.session sess = none → s.writeCheck sess key data = dSession) ∧
    (sess ≠ 0 → ∀ x : Session, s.session sess = some x →
      (findRow (key / 256) (key % 256) = none → s.writeCheck sess key data = dNoobj) ∧
      (∀ r : ObjRow, findRow (key / 256) (key % 256) = some r →
        (r.acc ≤ 2 → s.writeCheck sess key data = dAccess) ∧
        (r.acc = 5 → x.level = 0 → s.writeCheck sess key data = dLevel) ∧
        (r.acc = 6 → (s.obj oScopes).testBit (scopeBit key) = false → s.writeCheck sess key data = dLevel) ∧
        (r.acc = 3 ∨ r.acc = 4 → lenOk r data.length = false → s.writeCheck sess key data = dType) ∧
        (r.acc = 3 ∨ r.acc = 4 → r.ty ≠ 10 → lenOk r data.length = true → resBits key (leNat data) = false → rangeOk r data = false →
          s.writeCheck sess key data = dRange)))

/-- Every step answers a next state, takes one command from the queue's front and takes back no output; with no command waiting it counts
one control-complex cycle (assumption 2). The model's own choices here: assumption 100. -/
def Obligations.StepsTakeOneCommandAndKeepOutputs : Prop :=
  ∀ s : State, ∃ t : State, step s = .next t ∧ t.pending = s.pending.tail ∧ s.out <:+ t.out ∧
    (s.pending = [] → t.dev.ctlCyc = s.dev.ctlCyc + 1 ∧ t.out = s.out ∧ t.mem = s.mem ∧ t.flash = s.flash)

/-- Every step keeps the device-local memories in canonical form: addresses rising, and no byte listed that an unlisted address reads as.
The model's own choices here: assumption 10. -/
def Obligations.StepsKeepMemoryCanonical : Prop :=
  ∀ s t : State, s.memoryOk = true → step s = .next t → t.memoryOk = true

/-- R20, R178, R350, R364, R379, R385, R416, R461, R474 and the Default columns: right after reset the block is in RESET with no straps
sampled; every object of the dictionary has its default; no page, thread, context, queue, session, link, route or aperture is in use;
every clock is at 1,800 MHz; VCORE is confirmed at 800 mV and VMEM at 750 mV; the host is not reached; the scorebook is empty and the
owner record unset. The model's own choices here: assumptions 8 and 9. -/
def Obligations.ResetState : Prop :=
  let s := State.reset
  s.memoryOk = true ∧ s.pending = [] ∧ s.out = [] ∧ s.devState = stReset ∧ s.dev.phase = 0 ∧ s.dev.straps = none ∧
    (∀ k : Nat, s.obj k = objDefault k) ∧
    s.obj (objKey 0x2000 2) = 1800 ∧ s.obj (objKey 0x2000 3) = 2100 ∧ s.obj (objKey 0x2000 4) = 10 ∧ s.obj oDevId = 0xFFFF ∧ s.obj oFabricOn = 0 ∧
    (∀ a : Nat, Tab.get s.mem 0 a = 0 ∧ s.pageAt a = none) ∧
    (∀ c t : Nat, (s.thread c t).st = .free) ∧ (∀ c k : Nat, Tab.get (s.core c).stats {} k = {}) ∧
    (∀ q : Nat, (s.queue q).state = 0) ∧ (∀ x : Nat, s.ctx? x = none) ∧
    (∀ n : Nat, n ≠ mailboxSession → s.session n = none) ∧ s.level mailboxSession = 0 ∧
    (∀ l, l < 64 → s.lnState l = 0) ∧ (∀ d : Nat, s.routed d = false) ∧
    (∀ k : Nat, s.clockOf k = 1800) ∧ s.power.request = 800 ∧ s.confirmed 0 = 800 ∧ s.confirmed 1 = 750 ∧
    s.barOpen = false ∧ s.hostOpen = false ∧ s.host.mb = {} ∧ (∀ a : Nat, (s.aperture a).en = false) ∧
    s.book.entries = [] ∧ s.access.spdm = 0 ∧ s.access.challenge = none ∧ s.flash.owner.state = 0
end

