-- ==== Sys2Proof/Laws/Tab.lean ====
section
/-! SUPPORT. What the operations on sparse tables do: a read after a set, sets of one key and of different keys, and the
canonical form. -/

namespace Sys2Proof

variable {α : Type}

theorem Tab.get_erase_self (t : Tab α) (d : α) (k : Nat) : Tab.get (Tab.erase t k) d k = d := by
  induction t with
  | nil => rfl
  | cons e r ih =>
    unfold Tab.erase at ih ⊢
    by_cases h : e.1 = k <;> simp [Tab.get, h, ih]

theorem Tab.get_erase_ne (t : Tab α) (d : α) {j k : Nat} (h : j ≠ k) :
    Tab.get (Tab.erase t k) d j = Tab.get t d j := by
  induction t with
  | nil => rfl
  | cons e r ih =>
    unfold Tab.erase at ih ⊢
    by_cases hk : e.1 = k
    · have : e.1 ≠ j := fun he => h (he.symm.trans hk)
      simp [Tab.get, hk, ih, Ne.symm h]
    · simp [Tab.get, hk, ih]

theorem Tab.get_place_ne (t : Tab α) (d x : α) {j k : Nat} (h : j ≠ k) :
    Tab.get (Tab.place t k x) d j = Tab.get t d j := by
  induction t with
  | nil => simp [Tab.place, Tab.get, Ne.symm h]
  | cons e r ih =>
    unfold Tab.place
    split <;> simp [Tab.get, Ne.symm h, ih]

theorem Tab.get_place_self (t : Tab α) (d x : α) (k : Nat) (h : ∀ e ∈ t, e.1 ≠ k) :
    Tab.get (Tab.place t k x) d k = x := by
  induction t with
  | nil => simp [Tab.place, Tab.get]
  | cons e r ih =>
    unfold Tab.place
    have he := h e (by simp)
    have hr := ih (fun e' h' => h e' (by simp [h']))
    split <;> simp [Tab.get, he, hr]

theorem Tab.erase_keys (t : Tab α) (k : Nat) : ∀ e ∈ Tab.erase t k, e.1 ≠ k := by
  intro e he
  simpa using (List.mem_filter.mp he).2

theorem Tab.get_insert_self (t : Tab α) (d x : α) (k : Nat) : Tab.get (Tab.insert t k x) d k = x :=
  Tab.get_place_self _ _ _ _ (Tab.erase_keys t k)

theorem Tab.get_insert_ne (t : Tab α) (d x : α) {j k : Nat} (h : j ≠ k) :
    Tab.get (Tab.insert t k x) d j = Tab.get t d j := by
  rw [Tab.insert, Tab.get_place_ne _ _ _ h, Tab.get_erase_ne _ _ h]

theorem Tab.erase_erase (t : Tab α) (k : Nat) : Tab.erase (Tab.erase t k) k = Tab.erase t k := by
  simp [Tab.erase, List.filter_filter]

theorem Tab.erase_place (t : Tab α) (k : Nat) (x : α) : Tab.erase (Tab.place t k x) k = Tab.erase t k := by
  induction t with
  | nil => simp [Tab.place, Tab.erase]
  | cons e r ih =>
    unfold Tab.erase at ih ⊢
    unfold Tab.place
    by_cases h : k < e.1
    · simp [h, List.filter_cons]
    · simp [h, List.filter_cons, ih]

theorem Tab.erase_insert (t : Tab α) (k : Nat) (x : α) : Tab.erase (Tab.insert t k x) k = Tab.erase t k := by
  rw [Tab.insert, Tab.erase_place, Tab.erase_erase]

variable [DecidableEq α]

/-- A key reads the value last set. -/
@[simp] theorem Tab.get_set_self (t : Tab α) (d x : α) (k : Nat) : Tab.get (Tab.set t d k x) d k = x := by
  unfold Tab.set
  split
  · rename_i h; rw [h]; exact Tab.get_erase_self t d k
  · exact Tab.get_insert_self t d x k

/-- Every other key reads as before. -/
theorem Tab.get_set_ne (t : Tab α) (d d' x : α) {j k : Nat} (h : j ≠ k) :
    Tab.get (Tab.set t d k x) d' j = Tab.get t d' j := by
  unfold Tab.set
  split
  · exact Tab.get_erase_ne t d' h
  · exact Tab.get_insert_ne t d' x h

theorem Tab.get_set (t : Tab α) (d x : α) (j k : Nat) :
    Tab.get (Tab.set t d k x) d j = if j = k then x else Tab.get t d j := by
  split
  · rename_i h; rw [h]; exact Tab.get_set_self t d x k
  · rename_i h; exact Tab.get_set_ne t d d x h

/-- The last of two sets of a key stays. -/
@[simp] theorem Tab.set_set (t : Tab α) (d x y : α) (k : Nat) : Tab.set (Tab.set t d k x) d k y = Tab.set t d k y := by
  unfold Tab.set
  by_cases hx : x = d <;> by_cases hy : y = d <;>
    simp [hx, hy, Tab.insert, Tab.erase_erase, Tab.erase_place]

/-! ## The canonical form -/

omit [DecidableEq α] in
theorem Tab.rising_mono {lo lo' : Nat} (h : lo' ≤ lo) {t : Tab α} (ht : Tab.rising lo t = true) :
    Tab.rising lo' t = true := by
  cases t with
  | nil => rfl
  | cons e r =>
    simp only [Tab.rising, Bool.and_eq_true, decide_eq_true_eq] at ht ⊢
    exact ⟨h.trans ht.1, ht.2⟩

omit [DecidableEq α] in
theorem Tab.rising_erase {lo : Nat} {t : Tab α} (k : Nat) (ht : Tab.rising lo t = true) :
    Tab.rising lo (Tab.erase t k) = true := by
  induction t generalizing lo with
  | nil => rfl
  | cons e r ih =>
    simp only [Tab.rising, Bool.and_eq_true, decide_eq_true_eq] at ht
    by_cases h : e.1 = k
    · have : Tab.erase (e :: r) k = Tab.erase r k := by simp [Tab.erase, h]
      rw [this]
      exact ih (Tab.rising_mono (by omega) ht.2)
    · have : Tab.erase (e :: r) k = e :: Tab.erase r k := by simp [Tab.erase, h]
      rw [this]
      simp only [Tab.rising, Bool.and_eq_true, decide_eq_true_eq]
      exact ⟨ht.1, ih ht.2⟩

omit [DecidableEq α] in
theorem Tab.rising_place {lo : Nat} {t : Tab α} {k : Nat} (x : α) (hlo : lo ≤ k) (hk : ∀ e ∈ t, e.1 ≠ k)
    (ht : Tab.rising lo t = true) : Tab.rising lo (Tab.place t k x) = true := by
  induction t generalizing lo with
  | nil => simp [Tab.place, Tab.rising, hlo]
  | cons e r ih =>
    simp only [Tab.rising, Bool.and_eq_true, decide_eq_true_eq] at ht
    have he := hk e (by simp)
    unfold Tab.place
    split
    · rename_i h
      have h' : k < e.1 := h
      simp only [Tab.rising, Bool.and_eq_true, decide_eq_true_eq]
      exact ⟨hlo, by omega, ht.2⟩
    · rename_i h
      have h' : ¬ k < e.1 := h
      simp only [Tab.rising, Bool.and_eq_true, decide_eq_true_eq]
      exact ⟨ht.1, ih (by omega) (fun e' h' => hk e' (by simp [h'])) ht.2⟩

omit [DecidableEq α] in
theorem Tab.mem_place {t : Tab α} {k : Nat} {x : α} {e : Nat × α} (h : e ∈ Tab.place t k x) : e = (k, x) ∨ e ∈ t := by
  induction t with
  | nil => simpa [Tab.place] using h
  | cons a r ih =>
    unfold Tab.place at h
    split at h
    · simpa using h
    · rcases List.mem_cons.mp h with h | h
      · right; simp [h]
      · rcases ih h with h | h
        · left; exact h
        · right; simp [h]

/-- A set keeps the canonical form. -/
theorem Tab.wf_set {d : Nat → α} {t : Tab α} (k : Nat) (x : α) (ht : Tab.wf d t = true) :
    Tab.wf d (Tab.set t (d k) k x) = true := by
  simp only [Tab.wf, Bool.and_eq_true, List.all_eq_true, decide_eq_true_eq] at ht ⊢
  obtain ⟨hr, hd⟩ := ht
  unfold Tab.set
  split
  · refine ⟨Tab.rising_erase k hr, fun e he => hd e ?_⟩
    exact (List.mem_filter.mp he).1
  · rename_i hx
    refine ⟨Tab.rising_place x (Nat.zero_le k) (Tab.erase_keys t k) (Tab.rising_erase k hr), fun e he => ?_⟩
    rcases Tab.mem_place he with rfl | he
    · exact hx
    · exact hd e (List.mem_filter.mp he).1

/-! ## Bytes -/

theorem Tab.get_writeBytes_out (m : Tab Byte) (bs : List Byte) (a j : Nat) (h : j < a ∨ a + bs.length ≤ j) :
    Tab.get (Tab.writeBytes m a bs) 0 j = Tab.get m 0 j := by
  induction bs generalizing m a with
  | nil => rfl
  | cons b r ih =>
    simp only [List.length_cons] at h
    rw [Tab.writeBytes, ih _ _ (by omega), Tab.get_set_ne _ _ _ _ (by omega)]

theorem Tab.wf_writeBytes (m : Tab Byte) (bs : List Byte) (a : Nat) (h : Tab.wf (fun _ => 0) m = true) :
    Tab.wf (fun _ => 0) (Tab.writeBytes m a bs) = true := by
  induction bs generalizing m a with
  | nil => exact h
  | cons b r ih => exact ih _ _ (Tab.wf_set (d := fun _ => (0 : Byte)) a b h)

/-- Bytes written are read back. -/
theorem Tab.readBytes_writeBytes (m : Tab Byte) (bs : List Byte) (a : Nat) :
    Tab.readBytes (Tab.writeBytes m a bs) a bs.length = bs := by
  induction bs generalizing m a with
  | nil => rfl
  | cons b r ih =>
    simp only [Tab.writeBytes, List.length_cons, Tab.readBytes]
    rw [ih, Tab.get_writeBytes_out _ _ _ _ (by omega), Tab.get_set_self]

theorem Tab.readBytes_writeBytes_out (m : Tab Byte) (bs : List Byte) (a b n : Nat) (h : b + n ≤ a ∨ a + bs.length ≤ b) :
    Tab.readBytes (Tab.writeBytes m a bs) b n = Tab.readBytes m b n := by
  induction n generalizing b with
  | zero => rfl
  | succ n ih => simp only [Tab.readBytes]; rw [ih _ (by omega), Tab.get_writeBytes_out _ _ _ _ (by omega)]

theorem leBytes_length (n v : Nat) : (leBytes n v).length = n := by
  induction n generalizing v with
  | zero => rfl
  | succ n ih => simp [leBytes, ih]

/-- A value written as n little-endian bytes reads back modulo 2^(8n) (R7). -/
theorem leNat_leBytes (n v : Nat) : leNat (leBytes n v) = v % 256 ^ n := by
  induction n generalizing v with
  | zero => simp [leBytes, leNat, Nat.mod_one]
  | succ n ih =>
    have h : (BitVec.ofNat 8 v).toNat = v % 256 := BitVec.toNat_ofNat v 8
    rw [leBytes, leNat, ih, h, Nat.pow_succ', Nat.mod_mul]

end Sys2Proof
end

