-- ==== Sys2Proof/Laws/Cores.lean ====
section
/-! SUPPORT. What the operations on cores, threads, registers, objects, pages, queues and slots do to each other: a read after a write,
and two writes of one place. -/

namespace Sys2Proof.Machine

/-! ## Cores and threads -/

@[simp] theorem core_setCore (s : State) (c : Nat) (k : Core) : (s.setCore c k).core c = k := by
  simp [State.core, State.setCore]

theorem core_setCore_ne (s : State) (k : Core) {c d : Nat} (h : d ≠ c) : (s.setCore c k).core d = s.core d := by
  simp [State.core, State.setCore, Tab.get_set_ne _ _ _ _ h]

@[simp] theorem setCore_setCore (s : State) (c : Nat) (k l : Core) : (s.setCore c k).setCore c l = s.setCore c l := by
  simp [State.setCore]

@[simp] theorem core_modCore (s : State) (c : Nat) (f : Core → Core) : (s.modCore c f).core c = f (s.core c) := by
  simp [State.modCore]

@[simp] theorem Core.thread_setThread (k : Core) (t : Nat) (x : Thread) : (k.setThread t x).thread t = x := by
  simp [Core.thread, Core.setThread]

theorem Core.thread_setThread_ne (k : Core) (x : Thread) {t u : Nat} (h : u ≠ t) : (k.setThread t x).thread u = k.thread u := by
  simp [Core.thread, Core.setThread, Tab.get_set_ne _ _ _ _ h]

@[simp] theorem Core.setThread_setThread (k : Core) (t : Nat) (x y : Thread) :
    (k.setThread t x).setThread t y = k.setThread t y := by
  simp [Core.setThread]

@[simp] theorem thread_setThread (s : State) (c t : Nat) (x : Thread) : (s.setThread c t x).thread c t = x := by
  simp [State.thread, State.setThread]

theorem thread_setThread_ne (s : State) (x : Thread) {c d t u : Nat} (h : d ≠ c ∨ u ≠ t) :
    (s.setThread c t x).thread d u = s.thread d u := by
  unfold State.thread State.setThread State.modCore
  by_cases hd : d = c
  · subst hd
    rw [core_setCore, Core.thread_setThread_ne _ _ (by tauto)]
  · rw [core_setCore_ne _ _ hd]

@[simp] theorem setThread_setThread (s : State) (c t : Nat) (x y : Thread) :
    (s.setThread c t x).setThread c t y = s.setThread c t y := by
  simp [State.setThread, State.modCore]

theorem setThread_eq (s : State) (c t : Nat) (x : Thread) : s.setThread c t x = s.setCore c ((s.core c).setThread t x) := rfl

theorem modThread_eq (s : State) (c t : Nat) (f : Thread → Thread) : s.modThread c t f = s.setThread c t (f (s.thread c t)) := rfl

theorem thread_eq (s : State) (c t : Nat) : s.thread c t = (s.core c).thread t := rfl

/-! ## Registers (R93) -/

theorem Thread.sreg_setS (x : Thread) (r q : Nat) (v : W64) :
    (x.setS r v).sreg q = if q = r ∧ r ≠ 0 then v else x.sreg q := by
  unfold Thread.setS Thread.sreg
  by_cases hr : r = 0
  · simp [hr]
  · by_cases hq : q = 0
    · simp [hr, hq, Ne.symm hr]
    · by_cases h : q = r
      · simp [h, hr]
      · simp [hr, hq, h, Tab.get_set_ne _ _ _ _ h]

theorem Thread.preg_setP (x : Thread) (r q : Nat) (v : W64) :
    (x.setP r v).preg q = if q = r ∧ r ≠ 0 then v else x.preg q := by
  unfold Thread.setP Thread.preg
  by_cases hr : r = 0
  · simp [hr]
  · by_cases hq : q = 0
    · simp [hr, hq, Ne.symm hr]
    · by_cases h : q = r
      · simp [h, hr]
      · simp [hr, hq, h, Tab.get_set_ne _ _ _ _ h]

theorem Thread.vreg_setV (x : Thread) (r q : Nat) (v : VReg) :
    (x.setV r v).vreg q = if q = r then v else x.vreg q := by
  unfold Thread.setV Thread.vreg
  split
  · rename_i h; subst h; simp
  · rename_i h; simp [Tab.get_set_ne _ _ _ _ h]

@[simp] theorem Thread.setS_st (x : Thread) (r : Nat) (v : W64) : (x.setS r v).st = x.st := by unfold Thread.setS; split <;> rfl
@[simp] theorem Thread.setP_st (x : Thread) (r : Nat) (v : W64) : (x.setP r v).st = x.st := by unfold Thread.setP; split <;> rfl
@[simp] theorem Thread.setV_st (x : Thread) (r : Nat) (v : VReg) : (x.setV r v).st = x.st := rfl

/-! ## Objects -/

@[simp] theorem obj_setObj (s : State) (k v : Nat) : (s.setObj k v).obj k = min v (objMax k) := by
  simp [State.obj, State.setObj]

theorem obj_setObj_ne (s : State) (v : Nat) {j k : Nat} (h : j ≠ k) : (s.setObj k v).obj j = s.obj j := by
  simp [State.obj, State.setObj, Tab.get_set_ne _ _ _ _ h]

@[simp] theorem obj_bump (s : State) (k n : Nat) : (s.bump k n).obj k = min (s.obj k + n) (objMax k) := by
  simp [State.bump]

theorem obj_bump_ne (s : State) (n : Nat) {j k : Nat} (h : j ≠ k) : (s.bump k n).obj j = s.obj j := by
  simp [State.bump, obj_setObj_ne _ _ h]

/-! ## Queues, slots -/

@[simp] theorem queue_setQueue (s : State) (q : Nat) (x : Queue) : (s.setQueue q x).queue q = x := by
  simp [State.queue, State.setQueue]

theorem queue_setQueue_ne (s : State) (x : Queue) {p q : Nat} (h : p ≠ q) : (s.setQueue q x).queue p = s.queue p := by
  simp [State.queue, State.setQueue, Tab.get_set_ne _ _ _ _ h]

@[simp] theorem slot_setSlot (s : State) (n : Nat) (x : Option Seq) : (s.setSlot n x).slot n = x := by
  simp [State.slot, State.setSlot]

theorem slot_setSlot_ne (s : State) (x : Option Seq) {m n : Nat} (h : m ≠ n) : (s.setSlot n x).slot m = s.slot m := by
  simp [State.slot, State.setSlot, Tab.get_set_ne _ _ _ _ h]

end Sys2Proof.Machine
end

