-- ==== Sys2Proof/Laws/State.lean ====
section
/-! SUPPORT. Each update of the state leaves every other field as it was: one lemma per field per update. -/

namespace Sys2Proof.Machine

@[simp] theorem emit_pending (s : State) (o : Output) : (s.emit o).pending = s.pending := rfl
@[simp] theorem emit_objs (s : State) (o : Output) : (s.emit o).objs = s.objs := rfl
@[simp] theorem emit_dev (s : State) (o : Output) : (s.emit o).dev = s.dev := rfl
@[simp] theorem emit_cores (s : State) (o : Output) : (s.emit o).cores = s.cores := rfl
@[simp] theorem emit_mem (s : State) (o : Output) : (s.emit o).mem = s.mem := rfl
@[simp] theorem emit_poison (s : State) (o : Output) : (s.emit o).poison = s.poison := rfl
@[simp] theorem emit_shadow (s : State) (o : Output) : (s.emit o).shadow = s.shadow := rfl
@[simp] theorem emit_prev (s : State) (o : Output) : (s.emit o).prev = s.prev := rfl
@[simp] theorem emit_shadowPoison (s : State) (o : Output) : (s.emit o).shadowPoison = s.shadowPoison := rfl
@[simp] theorem emit_prevPoison (s : State) (o : Output) : (s.emit o).prevPoison = s.prevPoison := rfl
@[simp] theorem emit_cols (s : State) (o : Output) : (s.emit o).cols = s.cols := rfl
@[simp] theorem emit_keeper (s : State) (o : Output) : (s.emit o).keeper = s.keeper := rfl
@[simp] theorem emit_sched (s : State) (o : Output) : (s.emit o).sched = s.sched := rfl
@[simp] theorem emit_pass (s : State) (o : Output) : (s.emit o).pass = s.pass := rfl
@[simp] theorem emit_upd (s : State) (o : Output) : (s.emit o).upd = s.upd := rfl
@[simp] theorem emit_fabric (s : State) (o : Output) : (s.emit o).fabric = s.fabric := rfl
@[simp] theorem emit_host (s : State) (o : Output) : (s.emit o).host = s.host := rfl
@[simp] theorem emit_mgmt (s : State) (o : Output) : (s.emit o).mgmt = s.mgmt := rfl
@[simp] theorem emit_access (s : State) (o : Output) : (s.emit o).access = s.access := rfl
@[simp] theorem emit_book (s : State) (o : Output) : (s.emit o).book = s.book := rfl
@[simp] theorem emit_flash (s : State) (o : Output) : (s.emit o).flash = s.flash := rfl
@[simp] theorem emit_power (s : State) (o : Output) : (s.emit o).power = s.power := rfl
@[simp] theorem emit_nanSeen (s : State) (o : Output) : (s.emit o).nanSeen = s.nanSeen := rfl
@[simp] theorem emit_fresh (s : State) (o : Output) : (s.emit o).fresh = s.fresh := rfl

@[simp] theorem setCore_pending (s : State) (c : Nat) (k : Core) : (s.setCore c k).pending = s.pending := rfl
@[simp] theorem setCore_objs (s : State) (c : Nat) (k : Core) : (s.setCore c k).objs = s.objs := rfl
@[simp] theorem setCore_dev (s : State) (c : Nat) (k : Core) : (s.setCore c k).dev = s.dev := rfl
@[simp] theorem setCore_mem (s : State) (c : Nat) (k : Core) : (s.setCore c k).mem = s.mem := rfl
@[simp] theorem setCore_poison (s : State) (c : Nat) (k : Core) : (s.setCore c k).poison = s.poison := rfl
@[simp] theorem setCore_shadow (s : State) (c : Nat) (k : Core) : (s.setCore c k).shadow = s.shadow := rfl
@[simp] theorem setCore_prev (s : State) (c : Nat) (k : Core) : (s.setCore c k).prev = s.prev := rfl
@[simp] theorem setCore_shadowPoison (s : State) (c : Nat) (k : Core) : (s.setCore c k).shadowPoison = s.shadowPoison := rfl
@[simp] theorem setCore_prevPoison (s : State) (c : Nat) (k : Core) : (s.setCore c k).prevPoison = s.prevPoison := rfl
@[simp] theorem setCore_cols (s : State) (c : Nat) (k : Core) : (s.setCore c k).cols = s.cols := rfl
@[simp] theorem setCore_keeper (s : State) (c : Nat) (k : Core) : (s.setCore c k).keeper = s.keeper := rfl
@[simp] theorem setCore_sched (s : State) (c : Nat) (k : Core) : (s.setCore c k).sched = s.sched := rfl
@[simp] theorem setCore_pass (s : State) (c : Nat) (k : Core) : (s.setCore c k).pass = s.pass := rfl
@[simp] theorem setCore_upd (s : State) (c : Nat) (k : Core) : (s.setCore c k).upd = s.upd := rfl
@[simp] theorem setCore_fabric (s : State) (c : Nat) (k : Core) : (s.setCore c k).fabric = s.fabric := rfl
@[simp] theorem setCore_host (s : State) (c : Nat) (k : Core) : (s.setCore c k).host = s.host := rfl
@[simp] theorem setCore_mgmt (s : State) (c : Nat) (k : Core) : (s.setCore c k).mgmt = s.mgmt := rfl
@[simp] theorem setCore_access (s : State) (c : Nat) (k : Core) : (s.setCore c k).access = s.access := rfl
@[simp] theorem setCore_book (s : State) (c : Nat) (k : Core) : (s.setCore c k).book = s.book := rfl
@[simp] theorem setCore_flash (s : State) (c : Nat) (k : Core) : (s.setCore c k).flash = s.flash := rfl
@[simp] theorem setCore_power (s : State) (c : Nat) (k : Core) : (s.setCore c k).power = s.power := rfl
@[simp] theorem setCore_nanSeen (s : State) (c : Nat) (k : Core) : (s.setCore c k).nanSeen = s.nanSeen := rfl
@[simp] theorem setCore_out (s : State) (c : Nat) (k : Core) : (s.setCore c k).out = s.out := rfl
@[simp] theorem setCore_fresh (s : State) (c : Nat) (k : Core) : (s.setCore c k).fresh = s.fresh := rfl

@[simp] theorem modCore_pending (s : State) (c : Nat) (f : Core → Core) : (s.modCore c f).pending = s.pending := rfl
@[simp] theorem modCore_objs (s : State) (c : Nat) (f : Core → Core) : (s.modCore c f).objs = s.objs := rfl
@[simp] theorem modCore_dev (s : State) (c : Nat) (f : Core → Core) : (s.modCore c f).dev = s.dev := rfl
@[simp] theorem modCore_mem (s : State) (c : Nat) (f : Core → Core) : (s.modCore c f).mem = s.mem := rfl
@[simp] theorem modCore_poison (s : State) (c : Nat) (f : Core → Core) : (s.modCore c f).poison = s.poison := rfl
@[simp] theorem modCore_shadow (s : State) (c : Nat) (f : Core → Core) : (s.modCore c f).shadow = s.shadow := rfl
@[simp] theorem modCore_prev (s : State) (c : Nat) (f : Core → Core) : (s.modCore c f).prev = s.prev := rfl
@[simp] theorem modCore_shadowPoison (s : State) (c : Nat) (f : Core → Core) : (s.modCore c f).shadowPoison = s.shadowPoison := rfl
@[simp] theorem modCore_prevPoison (s : State) (c : Nat) (f : Core → Core) : (s.modCore c f).prevPoison = s.prevPoison := rfl
@[simp] theorem modCore_cols (s : State) (c : Nat) (f : Core → Core) : (s.modCore c f).cols = s.cols := rfl
@[simp] theorem modCore_keeper (s : State) (c : Nat) (f : Core → Core) : (s.modCore c f).keeper = s.keeper := rfl
@[simp] theorem modCore_sched (s : State) (c : Nat) (f : Core → Core) : (s.modCore c f).sched = s.sched := rfl
@[simp] theorem modCore_pass (s : State) (c : Nat) (f : Core → Core) : (s.modCore c f).pass = s.pass := rfl
@[simp] theorem modCore_upd (s : State) (c : Nat) (f : Core → Core) : (s.modCore c f).upd = s.upd := rfl
@[simp] theorem modCore_fabric (s : State) (c : Nat) (f : Core → Core) : (s.modCore c f).fabric = s.fabric := rfl
@[simp] theorem modCore_host (s : State) (c : Nat) (f : Core → Core) : (s.modCore c f).host = s.host := rfl
@[simp] theorem modCore_mgmt (s : State) (c : Nat) (f : Core → Core) : (s.modCore c f).mgmt = s.mgmt := rfl
@[simp] theorem modCore_access (s : State) (c : Nat) (f : Core → Core) : (s.modCore c f).access = s.access := rfl
@[simp] theorem modCore_book (s : State) (c : Nat) (f : Core → Core) : (s.modCore c f).book = s.book := rfl
@[simp] theorem modCore_flash (s : State) (c : Nat) (f : Core → Core) : (s.modCore c f).flash = s.flash := rfl
@[simp] theorem modCore_power (s : State) (c : Nat) (f : Core → Core) : (s.modCore c f).power = s.power := rfl
@[simp] theorem modCore_nanSeen (s : State) (c : Nat) (f : Core → Core) : (s.modCore c f).nanSeen = s.nanSeen := rfl
@[simp] theorem modCore_out (s : State) (c : Nat) (f : Core → Core) : (s.modCore c f).out = s.out := rfl
@[simp] theorem modCore_fresh (s : State) (c : Nat) (f : Core → Core) : (s.modCore c f).fresh = s.fresh := rfl

@[simp] theorem setThread_pending (s : State) (c t : Nat) (x : Thread) : (s.setThread c t x).pending = s.pending := rfl
@[simp] theorem setThread_objs (s : State) (c t : Nat) (x : Thread) : (s.setThread c t x).objs = s.objs := rfl
@[simp] theorem setThread_dev (s : State) (c t : Nat) (x : Thread) : (s.setThread c t x).dev = s.dev := rfl
@[simp] theorem setThread_mem (s : State) (c t : Nat) (x : Thread) : (s.setThread c t x).mem = s.mem := rfl
@[simp] theorem setThread_poison (s : State) (c t : Nat) (x : Thread) : (s.setThread c t x).poison = s.poison := rfl
@[simp] theorem setThread_shadow (s : State) (c t : Nat) (x : Thread) : (s.setThread c t x).shadow = s.shadow := rfl
@[simp] theorem setThread_prev (s : State) (c t : Nat) (x : Thread) : (s.setThread c t x).prev = s.prev := rfl
@[simp] theorem setThread_shadowPoison (s : State) (c t : Nat) (x : Thread) : (s.setThread c t x).shadowPoison = s.shadowPoison := rfl
@[simp] theorem setThread_prevPoison (s : State) (c t : Nat) (x : Thread) : (s.setThread c t x).prevPoison = s.prevPoison := rfl
@[simp] theorem setThread_cols (s : State) (c t : Nat) (x : Thread) : (s.setThread c t x).cols = s.cols := rfl
@[simp] theorem setThread_keeper (s : State) (c t : Nat) (x : Thread) : (s.setThread c t x).keeper = s.keeper := rfl
@[simp] theorem setThread_sched (s : State) (c t : Nat) (x : Thread) : (s.setThread c t x).sched = s.sched := rfl
@[simp] theorem setThread_pass (s : State) (c t : Nat) (x : Thread) : (s.setThread c t x).pass = s.pass := rfl
@[simp] theorem setThread_upd (s : State) (c t : Nat) (x : Thread) : (s.setThread c t x).upd = s.upd := rfl
@[simp] theorem setThread_fabric (s : State) (c t : Nat) (x : Thread) : (s.setThread c t x).fabric = s.fabric := rfl
@[simp] theorem setThread_host (s : State) (c t : Nat) (x : Thread) : (s.setThread c t x).host = s.host := rfl
@[simp] theorem setThread_mgmt (s : State) (c t : Nat) (x : Thread) : (s.setThread c t x).mgmt = s.mgmt := rfl
@[simp] theorem setThread_access (s : State) (c t : Nat) (x : Thread) : (s.setThread c t x).access = s.access := rfl
@[simp] theorem setThread_book (s : State) (c t : Nat) (x : Thread) : (s.setThread c t x).book = s.book := rfl
@[simp] theorem setThread_flash (s : State) (c t : Nat) (x : Thread) : (s.setThread c t x).flash = s.flash := rfl
@[simp] theorem setThread_power (s : State) (c t : Nat) (x : Thread) : (s.setThread c t x).power = s.power := rfl
@[simp] theorem setThread_nanSeen (s : State) (c t : Nat) (x : Thread) : (s.setThread c t x).nanSeen = s.nanSeen := rfl
@[simp] theorem setThread_out (s : State) (c t : Nat) (x : Thread) : (s.setThread c t x).out = s.out := rfl
@[simp] theorem setThread_fresh (s : State) (c t : Nat) (x : Thread) : (s.setThread c t x).fresh = s.fresh := rfl

@[simp] theorem modThread_pending (s : State) (c t : Nat) (f : Thread → Thread) : (s.modThread c t f).pending = s.pending := rfl
@[simp] theorem modThread_objs (s : State) (c t : Nat) (f : Thread → Thread) : (s.modThread c t f).objs = s.objs := rfl
@[simp] theorem modThread_dev (s : State) (c t : Nat) (f : Thread → Thread) : (s.modThread c t f).dev = s.dev := rfl
@[simp] theorem modThread_mem (s : State) (c t : Nat) (f : Thread → Thread) : (s.modThread c t f).mem = s.mem := rfl
@[simp] theorem modThread_poison (s : State) (c t : Nat) (f : Thread → Thread) : (s.modThread c t f).poison = s.poison := rfl
@[simp] theorem modThread_shadow (s : State) (c t : Nat) (f : Thread → Thread) : (s.modThread c t f).shadow = s.shadow := rfl
@[simp] theorem modThread_prev (s : State) (c t : Nat) (f : Thread → Thread) : (s.modThread c t f).prev = s.prev := rfl
@[simp] theorem modThread_shadowPoison (s : State) (c t : Nat) (f : Thread → Thread) : (s.modThread c t f).shadowPoison = s.shadowPoison := rfl
@[simp] theorem modThread_prevPoison (s : State) (c t : Nat) (f : Thread → Thread) : (s.modThread c t f).prevPoison = s.prevPoison := rfl
@[simp] theorem modThread_cols (s : State) (c t : Nat) (f : Thread → Thread) : (s.modThread c t f).cols = s.cols := rfl
@[simp] theorem modThread_keeper (s : State) (c t : Nat) (f : Thread → Thread) : (s.modThread c t f).keeper = s.keeper := rfl
@[simp] theorem modThread_sched (s : State) (c t : Nat) (f : Thread → Thread) : (s.modThread c t f).sched = s.sched := rfl
@[simp] theorem modThread_pass (s : State) (c t : Nat) (f : Thread → Thread) : (s.modThread c t f).pass = s.pass := rfl
@[simp] theorem modThread_upd (s : State) (c t : Nat) (f : Thread → Thread) : (s.modThread c t f).upd = s.upd := rfl
@[simp] theorem modThread_fabric (s : State) (c t : Nat) (f : Thread → Thread) : (s.modThread c t f).fabric = s.fabric := rfl
@[simp] theorem modThread_host (s : State) (c t : Nat) (f : Thread → Thread) : (s.modThread c t f).host = s.host := rfl
@[simp] theorem modThread_mgmt (s : State) (c t : Nat) (f : Thread → Thread) : (s.modThread c t f).mgmt = s.mgmt := rfl
@[simp] theorem modThread_access (s : State) (c t : Nat) (f : Thread → Thread) : (s.modThread c t f).access = s.access := rfl
@[simp] theorem modThread_book (s : State) (c t : Nat) (f : Thread → Thread) : (s.modThread c t f).book = s.book := rfl
@[simp] theorem modThread_flash (s : State) (c t : Nat) (f : Thread → Thread) : (s.modThread c t f).flash = s.flash := rfl
@[simp] theorem modThread_power (s : State) (c t : Nat) (f : Thread → Thread) : (s.modThread c t f).power = s.power := rfl
@[simp] theorem modThread_nanSeen (s : State) (c t : Nat) (f : Thread → Thread) : (s.modThread c t f).nanSeen = s.nanSeen := rfl
@[simp] theorem modThread_out (s : State) (c t : Nat) (f : Thread → Thread) : (s.modThread c t f).out = s.out := rfl
@[simp] theorem modThread_fresh (s : State) (c t : Nat) (f : Thread → Thread) : (s.modThread c t f).fresh = s.fresh := rfl

@[simp] theorem setObj_pending (s : State) (k v : Nat) : (s.setObj k v).pending = s.pending := rfl
@[simp] theorem setObj_dev (s : State) (k v : Nat) : (s.setObj k v).dev = s.dev := rfl
@[simp] theorem setObj_cores (s : State) (k v : Nat) : (s.setObj k v).cores = s.cores := rfl
@[simp] theorem setObj_mem (s : State) (k v : Nat) : (s.setObj k v).mem = s.mem := rfl
@[simp] theorem setObj_poison (s : State) (k v : Nat) : (s.setObj k v).poison = s.poison := rfl
@[simp] theorem setObj_shadow (s : State) (k v : Nat) : (s.setObj k v).shadow = s.shadow := rfl
@[simp] theorem setObj_prev (s : State) (k v : Nat) : (s.setObj k v).prev = s.prev := rfl
@[simp] theorem setObj_shadowPoison (s : State) (k v : Nat) : (s.setObj k v).shadowPoison = s.shadowPoison := rfl
@[simp] theorem setObj_prevPoison (s : State) (k v : Nat) : (s.setObj k v).prevPoison = s.prevPoison := rfl
@[simp] theorem setObj_cols (s : State) (k v : Nat) : (s.setObj k v).cols = s.cols := rfl
@[simp] theorem setObj_keeper (s : State) (k v : Nat) : (s.setObj k v).keeper = s.keeper := rfl
@[simp] theorem setObj_sched (s : State) (k v : Nat) : (s.setObj k v).sched = s.sched := rfl
@[simp] theorem setObj_pass (s : State) (k v : Nat) : (s.setObj k v).pass = s.pass := rfl
@[simp] theorem setObj_upd (s : State) (k v : Nat) : (s.setObj k v).upd = s.upd := rfl
@[simp] theorem setObj_fabric (s : State) (k v : Nat) : (s.setObj k v).fabric = s.fabric := rfl
@[simp] theorem setObj_host (s : State) (k v : Nat) : (s.setObj k v).host = s.host := rfl
@[simp] theorem setObj_mgmt (s : State) (k v : Nat) : (s.setObj k v).mgmt = s.mgmt := rfl
@[simp] theorem setObj_access (s : State) (k v : Nat) : (s.setObj k v).access = s.access := rfl
@[simp] theorem setObj_book (s : State) (k v : Nat) : (s.setObj k v).book = s.book := rfl
@[simp] theorem setObj_flash (s : State) (k v : Nat) : (s.setObj k v).flash = s.flash := rfl
@[simp] theorem setObj_power (s : State) (k v : Nat) : (s.setObj k v).power = s.power := rfl
@[simp] theorem setObj_nanSeen (s : State) (k v : Nat) : (s.setObj k v).nanSeen = s.nanSeen := rfl
@[simp] theorem setObj_out (s : State) (k v : Nat) : (s.setObj k v).out = s.out := rfl
@[simp] theorem setObj_fresh (s : State) (k v : Nat) : (s.setObj k v).fresh = s.fresh := rfl

@[simp] theorem bump_pending (s : State) (k n : Nat) : (s.bump k n).pending = s.pending := rfl
@[simp] theorem bump_dev (s : State) (k n : Nat) : (s.bump k n).dev = s.dev := rfl
@[simp] theorem bump_cores (s : State) (k n : Nat) : (s.bump k n).cores = s.cores := rfl
@[simp] theorem bump_mem (s : State) (k n : Nat) : (s.bump k n).mem = s.mem := rfl
@[simp] theorem bump_poison (s : State) (k n : Nat) : (s.bump k n).poison = s.poison := rfl
@[simp] theorem bump_shadow (s : State) (k n : Nat) : (s.bump k n).shadow = s.shadow := rfl
@[simp] theorem bump_prev (s : State) (k n : Nat) : (s.bump k n).prev = s.prev := rfl
@[simp] theorem bump_shadowPoison (s : State) (k n : Nat) : (s.bump k n).shadowPoison = s.shadowPoison := rfl
@[simp] theorem bump_prevPoison (s : State) (k n : Nat) : (s.bump k n).prevPoison = s.prevPoison := rfl
@[simp] theorem bump_cols (s : State) (k n : Nat) : (s.bump k n).cols = s.cols := rfl
@[simp] theorem bump_keeper (s : State) (k n : Nat) : (s.bump k n).keeper = s.keeper := rfl
@[simp] theorem bump_sched (s : State) (k n : Nat) : (s.bump k n).sched = s.sched := rfl
@[simp] theorem bump_pass (s : State) (k n : Nat) : (s.bump k n).pass = s.pass := rfl
@[simp] theorem bump_upd (s : State) (k n : Nat) : (s.bump k n).upd = s.upd := rfl
@[simp] theorem bump_fabric (s : State) (k n : Nat) : (s.bump k n).fabric = s.fabric := rfl
@[simp] theorem bump_host (s : State) (k n : Nat) : (s.bump k n).host = s.host := rfl
@[simp] theorem bump_mgmt (s : State) (k n : Nat) : (s.bump k n).mgmt = s.mgmt := rfl
@[simp] theorem bump_access (s : State) (k n : Nat) : (s.bump k n).access = s.access := rfl
@[simp] theorem bump_book (s : State) (k n : Nat) : (s.bump k n).book = s.book := rfl
@[simp] theorem bump_flash (s : State) (k n : Nat) : (s.bump k n).flash = s.flash := rfl
@[simp] theorem bump_power (s : State) (k n : Nat) : (s.bump k n).power = s.power := rfl
@[simp] theorem bump_nanSeen (s : State) (k n : Nat) : (s.bump k n).nanSeen = s.nanSeen := rfl
@[simp] theorem bump_out (s : State) (k n : Nat) : (s.bump k n).out = s.out := rfl
@[simp] theorem bump_fresh (s : State) (k n : Nat) : (s.bump k n).fresh = s.fresh := rfl

@[simp] theorem setPage_pending (s : State) (p : Page) : (s.setPage p).pending = s.pending := rfl
@[simp] theorem setPage_objs (s : State) (p : Page) : (s.setPage p).objs = s.objs := rfl
@[simp] theorem setPage_dev (s : State) (p : Page) : (s.setPage p).dev = s.dev := rfl
@[simp] theorem setPage_cores (s : State) (p : Page) : (s.setPage p).cores = s.cores := rfl
@[simp] theorem setPage_mem (s : State) (p : Page) : (s.setPage p).mem = s.mem := rfl
@[simp] theorem setPage_poison (s : State) (p : Page) : (s.setPage p).poison = s.poison := rfl
@[simp] theorem setPage_shadow (s : State) (p : Page) : (s.setPage p).shadow = s.shadow := rfl
@[simp] theorem setPage_prev (s : State) (p : Page) : (s.setPage p).prev = s.prev := rfl
@[simp] theorem setPage_shadowPoison (s : State) (p : Page) : (s.setPage p).shadowPoison = s.shadowPoison := rfl
@[simp] theorem setPage_prevPoison (s : State) (p : Page) : (s.setPage p).prevPoison = s.prevPoison := rfl
@[simp] theorem setPage_cols (s : State) (p : Page) : (s.setPage p).cols = s.cols := rfl
@[simp] theorem setPage_sched (s : State) (p : Page) : (s.setPage p).sched = s.sched := rfl
@[simp] theorem setPage_pass (s : State) (p : Page) : (s.setPage p).pass = s.pass := rfl
@[simp] theorem setPage_upd (s : State) (p : Page) : (s.setPage p).upd = s.upd := rfl
@[simp] theorem setPage_fabric (s : State) (p : Page) : (s.setPage p).fabric = s.fabric := rfl
@[simp] theorem setPage_host (s : State) (p : Page) : (s.setPage p).host = s.host := rfl
@[simp] theorem setPage_mgmt (s : State) (p : Page) : (s.setPage p).mgmt = s.mgmt := rfl
@[simp] theorem setPage_access (s : State) (p : Page) : (s.setPage p).access = s.access := rfl
@[simp] theorem setPage_book (s : State) (p : Page) : (s.setPage p).book = s.book := rfl
@[simp] theorem setPage_flash (s : State) (p : Page) : (s.setPage p).flash = s.flash := rfl
@[simp] theorem setPage_power (s : State) (p : Page) : (s.setPage p).power = s.power := rfl
@[simp] theorem setPage_nanSeen (s : State) (p : Page) : (s.setPage p).nanSeen = s.nanSeen := rfl
@[simp] theorem setPage_out (s : State) (p : Page) : (s.setPage p).out = s.out := rfl
@[simp] theorem setPage_fresh (s : State) (p : Page) : (s.setPage p).fresh = s.fresh := rfl

@[simp] theorem setPoison_pending (s : State) (a : Nat) (b : Bool) : (s.setPoison a b).pending = s.pending := rfl
@[simp] theorem setPoison_objs (s : State) (a : Nat) (b : Bool) : (s.setPoison a b).objs = s.objs := rfl
@[simp] theorem setPoison_dev (s : State) (a : Nat) (b : Bool) : (s.setPoison a b).dev = s.dev := rfl
@[simp] theorem setPoison_cores (s : State) (a : Nat) (b : Bool) : (s.setPoison a b).cores = s.cores := rfl
@[simp] theorem setPoison_mem (s : State) (a : Nat) (b : Bool) : (s.setPoison a b).mem = s.mem := rfl
@[simp] theorem setPoison_shadow (s : State) (a : Nat) (b : Bool) : (s.setPoison a b).shadow = s.shadow := rfl
@[simp] theorem setPoison_prev (s : State) (a : Nat) (b : Bool) : (s.setPoison a b).prev = s.prev := rfl
@[simp] theorem setPoison_shadowPoison (s : State) (a : Nat) (b : Bool) : (s.setPoison a b).shadowPoison = s.shadowPoison := rfl
@[simp] theorem setPoison_prevPoison (s : State) (a : Nat) (b : Bool) : (s.setPoison a b).prevPoison = s.prevPoison := rfl
@[simp] theorem setPoison_cols (s : State) (a : Nat) (b : Bool) : (s.setPoison a b).cols = s.cols := rfl
@[simp] theorem setPoison_keeper (s : State) (a : Nat) (b : Bool) : (s.setPoison a b).keeper = s.keeper := rfl
@[simp] theorem setPoison_sched (s : State) (a : Nat) (b : Bool) : (s.setPoison a b).sched = s.sched := rfl
@[simp] theorem setPoison_pass (s : State) (a : Nat) (b : Bool) : (s.setPoison a b).pass = s.pass := rfl
@[simp] theorem setPoison_upd (s : State) (a : Nat) (b : Bool) : (s.setPoison a b).upd = s.upd := rfl
@[simp] theorem setPoison_fabric (s : State) (a : Nat) (b : Bool) : (s.setPoison a b).fabric = s.fabric := rfl
@[simp] theorem setPoison_host (s : State) (a : Nat) (b : Bool) : (s.setPoison a b).host = s.host := rfl
@[simp] theorem setPoison_mgmt (s : State) (a : Nat) (b : Bool) : (s.setPoison a b).mgmt = s.mgmt := rfl
@[simp] theorem setPoison_access (s : State) (a : Nat) (b : Bool) : (s.setPoison a b).access = s.access := rfl
@[simp] theorem setPoison_book (s : State) (a : Nat) (b : Bool) : (s.setPoison a b).book = s.book := rfl
@[simp] theorem setPoison_flash (s : State) (a : Nat) (b : Bool) : (s.setPoison a b).flash = s.flash := rfl
@[simp] theorem setPoison_power (s : State) (a : Nat) (b : Bool) : (s.setPoison a b).power = s.power := rfl
@[simp] theorem setPoison_nanSeen (s : State) (a : Nat) (b : Bool) : (s.setPoison a b).nanSeen = s.nanSeen := rfl
@[simp] theorem setPoison_out (s : State) (a : Nat) (b : Bool) : (s.setPoison a b).out = s.out := rfl
@[simp] theorem setPoison_fresh (s : State) (a : Nat) (b : Bool) : (s.setPoison a b).fresh = s.fresh := rfl

@[simp] theorem setQueue_pending (s : State) (q : Nat) (x : Queue) : (s.setQueue q x).pending = s.pending := rfl
@[simp] theorem setQueue_objs (s : State) (q : Nat) (x : Queue) : (s.setQueue q x).objs = s.objs := rfl
@[simp] theorem setQueue_dev (s : State) (q : Nat) (x : Queue) : (s.setQueue q x).dev = s.dev := rfl
@[simp] theorem setQueue_cores (s : State) (q : Nat) (x : Queue) : (s.setQueue q x).cores = s.cores := rfl
@[simp] theorem setQueue_mem (s : State) (q : Nat) (x : Queue) : (s.setQueue q x).mem = s.mem := rfl
@[simp] theorem setQueue_poison (s : State) (q : Nat) (x : Queue) : (s.setQueue q x).poison = s.poison := rfl
@[simp] theorem setQueue_shadow (s : State) (q : Nat) (x : Queue) : (s.setQueue q x).shadow = s.shadow := rfl
@[simp] theorem setQueue_prev (s : State) (q : Nat) (x : Queue) : (s.setQueue q x).prev = s.prev := rfl
@[simp] theorem setQueue_shadowPoison (s : State) (q : Nat) (x : Queue) : (s.setQueue q x).shadowPoison = s.shadowPoison := rfl
@[simp] theorem setQueue_prevPoison (s : State) (q : Nat) (x : Queue) : (s.setQueue q x).prevPoison = s.prevPoison := rfl
@[simp] theorem setQueue_cols (s : State) (q : Nat) (x : Queue) : (s.setQueue q x).cols = s.cols := rfl
@[simp] theorem setQueue_keeper (s : State) (q : Nat) (x : Queue) : (s.setQueue q x).keeper = s.keeper := rfl
@[simp] theorem setQueue_pass (s : State) (q : Nat) (x : Queue) : (s.setQueue q x).pass = s.pass := rfl
@[simp] theorem setQueue_upd (s : State) (q : Nat) (x : Queue) : (s.setQueue q x).upd = s.upd := rfl
@[simp] theorem setQueue_fabric (s : State) (q : Nat) (x : Queue) : (s.setQueue q x).fabric = s.fabric := rfl
@[simp] theorem setQueue_host (s : State) (q : Nat) (x : Queue) : (s.setQueue q x).host = s.host := rfl
@[simp] theorem setQueue_mgmt (s : State) (q : Nat) (x : Queue) : (s.setQueue q x).mgmt = s.mgmt := rfl
@[simp] theorem setQueue_access (s : State) (q : Nat) (x : Queue) : (s.setQueue q x).access = s.access := rfl
@[simp] theorem setQueue_book (s : State) (q : Nat) (x : Queue) : (s.setQueue q x).book = s.book := rfl
@[simp] theorem setQueue_flash (s : State) (q : Nat) (x : Queue) : (s.setQueue q x).flash = s.flash := rfl
@[simp] theorem setQueue_power (s : State) (q : Nat) (x : Queue) : (s.setQueue q x).power = s.power := rfl
@[simp] theorem setQueue_nanSeen (s : State) (q : Nat) (x : Queue) : (s.setQueue q x).nanSeen = s.nanSeen := rfl
@[simp] theorem setQueue_out (s : State) (q : Nat) (x : Queue) : (s.setQueue q x).out = s.out := rfl
@[simp] theorem setQueue_fresh (s : State) (q : Nat) (x : Queue) : (s.setQueue q x).fresh = s.fresh := rfl

@[simp] theorem setSlot_pending (s : State) (n : Nat) (x : Option Seq) : (s.setSlot n x).pending = s.pending := rfl
@[simp] theorem setSlot_objs (s : State) (n : Nat) (x : Option Seq) : (s.setSlot n x).objs = s.objs := rfl
@[simp] theorem setSlot_dev (s : State) (n : Nat) (x : Option Seq) : (s.setSlot n x).dev = s.dev := rfl
@[simp] theorem setSlot_cores (s : State) (n : Nat) (x : Option Seq) : (s.setSlot n x).cores = s.cores := rfl
@[simp] theorem setSlot_mem (s : State) (n : Nat) (x : Option Seq) : (s.setSlot n x).mem = s.mem := rfl
@[simp] theorem setSlot_poison (s : State) (n : Nat) (x : Option Seq) : (s.setSlot n x).poison = s.poison := rfl
@[simp] theorem setSlot_shadow (s : State) (n : Nat) (x : Option Seq) : (s.setSlot n x).shadow = s.shadow := rfl
@[simp] theorem setSlot_prev (s : State) (n : Nat) (x : Option Seq) : (s.setSlot n x).prev = s.prev := rfl
@[simp] theorem setSlot_shadowPoison (s : State) (n : Nat) (x : Option Seq) : (s.setSlot n x).shadowPoison = s.shadowPoison := rfl
@[simp] theorem setSlot_prevPoison (s : State) (n : Nat) (x : Option Seq) : (s.setSlot n x).prevPoison = s.prevPoison := rfl
@[simp] theorem setSlot_cols (s : State) (n : Nat) (x : Option Seq) : (s.setSlot n x).cols = s.cols := rfl
@[simp] theorem setSlot_keeper (s : State) (n : Nat) (x : Option Seq) : (s.setSlot n x).keeper = s.keeper := rfl
@[simp] theorem setSlot_pass (s : State) (n : Nat) (x : Option Seq) : (s.setSlot n x).pass = s.pass := rfl
@[simp] theorem setSlot_upd (s : State) (n : Nat) (x : Option Seq) : (s.setSlot n x).upd = s.upd := rfl
@[simp] theorem setSlot_fabric (s : State) (n : Nat) (x : Option Seq) : (s.setSlot n x).fabric = s.fabric := rfl
@[simp] theorem setSlot_host (s : State) (n : Nat) (x : Option Seq) : (s.setSlot n x).host = s.host := rfl
@[simp] theorem setSlot_mgmt (s : State) (n : Nat) (x : Option Seq) : (s.setSlot n x).mgmt = s.mgmt := rfl
@[simp] theorem setSlot_access (s : State) (n : Nat) (x : Option Seq) : (s.setSlot n x).access = s.access := rfl
@[simp] theorem setSlot_book (s : State) (n : Nat) (x : Option Seq) : (s.setSlot n x).book = s.book := rfl
@[simp] theorem setSlot_flash (s : State) (n : Nat) (x : Option Seq) : (s.setSlot n x).flash = s.flash := rfl
@[simp] theorem setSlot_power (s : State) (n : Nat) (x : Option Seq) : (s.setSlot n x).power = s.power := rfl
@[simp] theorem setSlot_nanSeen (s : State) (n : Nat) (x : Option Seq) : (s.setSlot n x).nanSeen = s.nanSeen := rfl
@[simp] theorem setSlot_out (s : State) (n : Nat) (x : Option Seq) : (s.setSlot n x).out = s.out := rfl
@[simp] theorem setSlot_fresh (s : State) (n : Nat) (x : Option Seq) : (s.setSlot n x).fresh = s.fresh := rfl

@[simp] theorem setCol_pending (s : State) (c : Nat) (k : Column) : (s.setCol c k).pending = s.pending := rfl
@[simp] theorem setCol_objs (s : State) (c : Nat) (k : Column) : (s.setCol c k).objs = s.objs := rfl
@[simp] theorem setCol_dev (s : State) (c : Nat) (k : Column) : (s.setCol c k).dev = s.dev := rfl
@[simp] theorem setCol_cores (s : State) (c : Nat) (k : Column) : (s.setCol c k).cores = s.cores := rfl
@[simp] theorem setCol_mem (s : State) (c : Nat) (k : Column) : (s.setCol c k).mem = s.mem := rfl
@[simp] theorem setCol_poison (s : State) (c : Nat) (k : Column) : (s.setCol c k).poison = s.poison := rfl
@[simp] theorem setCol_shadow (s : State) (c : Nat) (k : Column) : (s.setCol c k).shadow = s.shadow := rfl
@[simp] theorem setCol_prev (s : State) (c : Nat) (k : Column) : (s.setCol c k).prev = s.prev := rfl
@[simp] theorem setCol_shadowPoison (s : State) (c : Nat) (k : Column) : (s.setCol c k).shadowPoison = s.shadowPoison := rfl
@[simp] theorem setCol_prevPoison (s : State) (c : Nat) (k : Column) : (s.setCol c k).prevPoison = s.prevPoison := rfl
@[simp] theorem setCol_keeper (s : State) (c : Nat) (k : Column) : (s.setCol c k).keeper = s.keeper := rfl
@[simp] theorem setCol_sched (s : State) (c : Nat) (k : Column) : (s.setCol c k).sched = s.sched := rfl
@[simp] theorem setCol_pass (s : State) (c : Nat) (k : Column) : (s.setCol c k).pass = s.pass := rfl
@[simp] theorem setCol_upd (s : State) (c : Nat) (k : Column) : (s.setCol c k).upd = s.upd := rfl
@[simp] theorem setCol_fabric (s : State) (c : Nat) (k : Column) : (s.setCol c k).fabric = s.fabric := rfl
@[simp] theorem setCol_host (s : State) (c : Nat) (k : Column) : (s.setCol c k).host = s.host := rfl
@[simp] theorem setCol_mgmt (s : State) (c : Nat) (k : Column) : (s.setCol c k).mgmt = s.mgmt := rfl
@[simp] theorem setCol_access (s : State) (c : Nat) (k : Column) : (s.setCol c k).access = s.access := rfl
@[simp] theorem setCol_book (s : State) (c : Nat) (k : Column) : (s.setCol c k).book = s.book := rfl
@[simp] theorem setCol_flash (s : State) (c : Nat) (k : Column) : (s.setCol c k).flash = s.flash := rfl
@[simp] theorem setCol_power (s : State) (c : Nat) (k : Column) : (s.setCol c k).power = s.power := rfl
@[simp] theorem setCol_nanSeen (s : State) (c : Nat) (k : Column) : (s.setCol c k).nanSeen = s.nanSeen := rfl
@[simp] theorem setCol_out (s : State) (c : Nat) (k : Column) : (s.setCol c k).out = s.out := rfl
@[simp] theorem setCol_fresh (s : State) (c : Nat) (k : Column) : (s.setCol c k).fresh = s.fresh := rfl

@[simp] theorem setLink_pending (s : State) (l : Nat) (x : Link) : (s.setLink l x).pending = s.pending := rfl
@[simp] theorem setLink_objs (s : State) (l : Nat) (x : Link) : (s.setLink l x).objs = s.objs := rfl
@[simp] theorem setLink_dev (s : State) (l : Nat) (x : Link) : (s.setLink l x).dev = s.dev := rfl
@[simp] theorem setLink_cores (s : State) (l : Nat) (x : Link) : (s.setLink l x).cores = s.cores := rfl
@[simp] theorem setLink_mem (s : State) (l : Nat) (x : Link) : (s.setLink l x).mem = s.mem := rfl
@[simp] theorem setLink_poison (s : State) (l : Nat) (x : Link) : (s.setLink l x).poison = s.poison := rfl
@[simp] theorem setLink_shadow (s : State) (l : Nat) (x : Link) : (s.setLink l x).shadow = s.shadow := rfl
@[simp] theorem setLink_prev (s : State) (l : Nat) (x : Link) : (s.setLink l x).prev = s.prev := rfl
@[simp] theorem setLink_shadowPoison (s : State) (l : Nat) (x : Link) : (s.setLink l x).shadowPoison = s.shadowPoison := rfl
@[simp] theorem setLink_prevPoison (s : State) (l : Nat) (x : Link) : (s.setLink l x).prevPoison = s.prevPoison := rfl
@[simp] theorem setLink_cols (s : State) (l : Nat) (x : Link) : (s.setLink l x).cols = s.cols := rfl
@[simp] theorem setLink_keeper (s : State) (l : Nat) (x : Link) : (s.setLink l x).keeper = s.keeper := rfl
@[simp] theorem setLink_sched (s : State) (l : Nat) (x : Link) : (s.setLink l x).sched = s.sched := rfl
@[simp] theorem setLink_pass (s : State) (l : Nat) (x : Link) : (s.setLink l x).pass = s.pass := rfl
@[simp] theorem setLink_upd (s : State) (l : Nat) (x : Link) : (s.setLink l x).upd = s.upd := rfl
@[simp] theorem setLink_host (s : State) (l : Nat) (x : Link) : (s.setLink l x).host = s.host := rfl
@[simp] theorem setLink_mgmt (s : State) (l : Nat) (x : Link) : (s.setLink l x).mgmt = s.mgmt := rfl
@[simp] theorem setLink_access (s : State) (l : Nat) (x : Link) : (s.setLink l x).access = s.access := rfl
@[simp] theorem setLink_book (s : State) (l : Nat) (x : Link) : (s.setLink l x).book = s.book := rfl
@[simp] theorem setLink_flash (s : State) (l : Nat) (x : Link) : (s.setLink l x).flash = s.flash := rfl
@[simp] theorem setLink_power (s : State) (l : Nat) (x : Link) : (s.setLink l x).power = s.power := rfl
@[simp] theorem setLink_nanSeen (s : State) (l : Nat) (x : Link) : (s.setLink l x).nanSeen = s.nanSeen := rfl
@[simp] theorem setLink_out (s : State) (l : Nat) (x : Link) : (s.setLink l x).out = s.out := rfl
@[simp] theorem setLink_fresh (s : State) (l : Nat) (x : Link) : (s.setLink l x).fresh = s.fresh := rfl

@[simp] theorem setEngine_pending (s : State) (e : Nat) (x : Engine) : (s.setEngine e x).pending = s.pending := rfl
@[simp] theorem setEngine_objs (s : State) (e : Nat) (x : Engine) : (s.setEngine e x).objs = s.objs := rfl
@[simp] theorem setEngine_dev (s : State) (e : Nat) (x : Engine) : (s.setEngine e x).dev = s.dev := rfl
@[simp] theorem setEngine_cores (s : State) (e : Nat) (x : Engine) : (s.setEngine e x).cores = s.cores := rfl
@[simp] theorem setEngine_mem (s : State) (e : Nat) (x : Engine) : (s.setEngine e x).mem = s.mem := rfl
@[simp] theorem setEngine_poison (s : State) (e : Nat) (x : Engine) : (s.setEngine e x).poison = s.poison := rfl
@[simp] theorem setEngine_shadow (s : State) (e : Nat) (x : Engine) : (s.setEngine e x).shadow = s.shadow := rfl
@[simp] theorem setEngine_prev (s : State) (e : Nat) (x : Engine) : (s.setEngine e x).prev = s.prev := rfl
@[simp] theorem setEngine_shadowPoison (s : State) (e : Nat) (x : Engine) : (s.setEngine e x).shadowPoison = s.shadowPoison := rfl
@[simp] theorem setEngine_prevPoison (s : State) (e : Nat) (x : Engine) : (s.setEngine e x).prevPoison = s.prevPoison := rfl
@[simp] theorem setEngine_cols (s : State) (e : Nat) (x : Engine) : (s.setEngine e x).cols = s.cols := rfl
@[simp] theorem setEngine_keeper (s : State) (e : Nat) (x : Engine) : (s.setEngine e x).keeper = s.keeper := rfl
@[simp] theorem setEngine_sched (s : State) (e : Nat) (x : Engine) : (s.setEngine e x).sched = s.sched := rfl
@[simp] theorem setEngine_upd (s : State) (e : Nat) (x : Engine) : (s.setEngine e x).upd = s.upd := rfl
@[simp] theorem setEngine_fabric (s : State) (e : Nat) (x : Engine) : (s.setEngine e x).fabric = s.fabric := rfl
@[simp] theorem setEngine_host (s : State) (e : Nat) (x : Engine) : (s.setEngine e x).host = s.host := rfl
@[simp] theorem setEngine_mgmt (s : State) (e : Nat) (x : Engine) : (s.setEngine e x).mgmt = s.mgmt := rfl
@[simp] theorem setEngine_access (s : State) (e : Nat) (x : Engine) : (s.setEngine e x).access = s.access := rfl
@[simp] theorem setEngine_book (s : State) (e : Nat) (x : Engine) : (s.setEngine e x).book = s.book := rfl
@[simp] theorem setEngine_flash (s : State) (e : Nat) (x : Engine) : (s.setEngine e x).flash = s.flash := rfl
@[simp] theorem setEngine_power (s : State) (e : Nat) (x : Engine) : (s.setEngine e x).power = s.power := rfl
@[simp] theorem setEngine_nanSeen (s : State) (e : Nat) (x : Engine) : (s.setEngine e x).nanSeen = s.nanSeen := rfl
@[simp] theorem setEngine_out (s : State) (e : Nat) (x : Engine) : (s.setEngine e x).out = s.out := rfl
@[simp] theorem setEngine_fresh (s : State) (e : Nat) (x : Engine) : (s.setEngine e x).fresh = s.fresh := rfl

@[simp] theorem setPower_pending (s : State) (p : Power) : (s.setPower p).pending = s.pending := rfl
@[simp] theorem setPower_objs (s : State) (p : Power) : (s.setPower p).objs = s.objs := rfl
@[simp] theorem setPower_dev (s : State) (p : Power) : (s.setPower p).dev = s.dev := rfl
@[simp] theorem setPower_cores (s : State) (p : Power) : (s.setPower p).cores = s.cores := rfl
@[simp] theorem setPower_mem (s : State) (p : Power) : (s.setPower p).mem = s.mem := rfl
@[simp] theorem setPower_poison (s : State) (p : Power) : (s.setPower p).poison = s.poison := rfl
@[simp] theorem setPower_shadow (s : State) (p : Power) : (s.setPower p).shadow = s.shadow := rfl
@[simp] theorem setPower_prev (s : State) (p : Power) : (s.setPower p).prev = s.prev := rfl
@[simp] theorem setPower_shadowPoison (s : State) (p : Power) : (s.setPower p).shadowPoison = s.shadowPoison := rfl
@[simp] theorem setPower_prevPoison (s : State) (p : Power) : (s.setPower p).prevPoison = s.prevPoison := rfl
@[simp] theorem setPower_cols (s : State) (p : Power) : (s.setPower p).cols = s.cols := rfl
@[simp] theorem setPower_keeper (s : State) (p : Power) : (s.setPower p).keeper = s.keeper := rfl
@[simp] theorem setPower_sched (s : State) (p : Power) : (s.setPower p).sched = s.sched := rfl
@[simp] theorem setPower_pass (s : State) (p : Power) : (s.setPower p).pass = s.pass := rfl
@[simp] theorem setPower_upd (s : State) (p : Power) : (s.setPower p).upd = s.upd := rfl
@[simp] theorem setPower_fabric (s : State) (p : Power) : (s.setPower p).fabric = s.fabric := rfl
@[simp] theorem setPower_host (s : State) (p : Power) : (s.setPower p).host = s.host := rfl
@[simp] theorem setPower_mgmt (s : State) (p : Power) : (s.setPower p).mgmt = s.mgmt := rfl
@[simp] theorem setPower_access (s : State) (p : Power) : (s.setPower p).access = s.access := rfl
@[simp] theorem setPower_book (s : State) (p : Power) : (s.setPower p).book = s.book := rfl
@[simp] theorem setPower_flash (s : State) (p : Power) : (s.setPower p).flash = s.flash := rfl
@[simp] theorem setPower_nanSeen (s : State) (p : Power) : (s.setPower p).nanSeen = s.nanSeen := rfl
@[simp] theorem setPower_out (s : State) (p : Power) : (s.setPower p).out = s.out := rfl
@[simp] theorem setPower_fresh (s : State) (p : Power) : (s.setPower p).fresh = s.fresh := rfl

@[simp] theorem emit_core (s : State) (o : Output) (d : Nat) : (s.emit o).core d = s.core d := rfl
@[simp] theorem emit_thread (s : State) (o : Output) (d u : Nat) : (s.emit o).thread d u = s.thread d u := rfl
@[simp] theorem emit_obj (s : State) (o : Output) (j : Nat) : (s.emit o).obj j = s.obj j := rfl
@[simp] theorem emit_queue (s : State) (o : Output) (j : Nat) : (s.emit o).queue j = s.queue j := rfl
@[simp] theorem emit_slot (s : State) (o : Output) (m : Nat) : (s.emit o).slot m = s.slot m := rfl
@[simp] theorem emit_col (s : State) (o : Output) (d : Nat) : (s.emit o).col d = s.col d := rfl
@[simp] theorem emit_pageAt (s : State) (o : Output) (j : Nat) : (s.emit o).pageAt j = s.pageAt j := rfl
@[simp] theorem setCore_obj (s : State) (c : Nat) (k : Core) (j : Nat) : (s.setCore c k).obj j = s.obj j := rfl
@[simp] theorem setCore_queue (s : State) (c : Nat) (k : Core) (j : Nat) : (s.setCore c k).queue j = s.queue j := rfl
@[simp] theorem setCore_slot (s : State) (c : Nat) (k : Core) (m : Nat) : (s.setCore c k).slot m = s.slot m := rfl
@[simp] theorem setCore_col (s : State) (c : Nat) (k : Core) (d : Nat) : (s.setCore c k).col d = s.col d := rfl
@[simp] theorem setCore_pageAt (s : State) (c : Nat) (k : Core) (j : Nat) : (s.setCore c k).pageAt j = s.pageAt j := rfl
@[simp] theorem modCore_obj (s : State) (c : Nat) (f : Core → Core) (j : Nat) : (s.modCore c f).obj j = s.obj j := rfl
@[simp] theorem modCore_queue (s : State) (c : Nat) (f : Core → Core) (j : Nat) : (s.modCore c f).queue j = s.queue j := rfl
@[simp] theorem modCore_slot (s : State) (c : Nat) (f : Core → Core) (m : Nat) : (s.modCore c f).slot m = s.slot m := rfl
@[simp] theorem modCore_col (s : State) (c : Nat) (f : Core → Core) (d : Nat) : (s.modCore c f).col d = s.col d := rfl
@[simp] theorem modCore_pageAt (s : State) (c : Nat) (f : Core → Core) (j : Nat) : (s.modCore c f).pageAt j = s.pageAt j := rfl
@[simp] theorem setThread_obj (s : State) (c t : Nat) (x : Thread) (j : Nat) : (s.setThread c t x).obj j = s.obj j := rfl
@[simp] theorem setThread_queue (s : State) (c t : Nat) (x : Thread) (j : Nat) : (s.setThread c t x).queue j = s.queue j := rfl
@[simp] theorem setThread_slot (s : State) (c t : Nat) (x : Thread) (m : Nat) : (s.setThread c t x).slot m = s.slot m := rfl
@[simp] theorem setThread_col (s : State) (c t : Nat) (x : Thread) (d : Nat) : (s.setThread c t x).col d = s.col d := rfl
@[simp] theorem setThread_pageAt (s : State) (c t : Nat) (x : Thread) (j : Nat) : (s.setThread c t x).pageAt j = s.pageAt j := rfl
@[simp] theorem modThread_obj (s : State) (c t : Nat) (f : Thread → Thread) (j : Nat) : (s.modThread c t f).obj j = s.obj j := rfl
@[simp] theorem modThread_queue (s : State) (c t : Nat) (f : Thread → Thread) (j : Nat) : (s.modThread c t f).queue j = s.queue j := rfl
@[simp] theorem modThread_slot (s : State) (c t : Nat) (f : Thread → Thread) (m : Nat) : (s.modThread c t f).slot m = s.slot m := rfl
@[simp] theorem modThread_col (s : State) (c t : Nat) (f : Thread → Thread) (d : Nat) : (s.modThread c t f).col d = s.col d := rfl
@[simp] theorem modThread_pageAt (s : State) (c t : Nat) (f : Thread → Thread) (j : Nat) : (s.modThread c t f).pageAt j = s.pageAt j := rfl
@[simp] theorem setObj_core (s : State) (k v : Nat) (d : Nat) : (s.setObj k v).core d = s.core d := rfl
@[simp] theorem setObj_thread (s : State) (k v : Nat) (d u : Nat) : (s.setObj k v).thread d u = s.thread d u := rfl
@[simp] theorem setObj_queue (s : State) (k v : Nat) (j : Nat) : (s.setObj k v).queue j = s.queue j := rfl
@[simp] theorem setObj_slot (s : State) (k v : Nat) (m : Nat) : (s.setObj k v).slot m = s.slot m := rfl
@[simp] theorem setObj_col (s : State) (k v : Nat) (d : Nat) : (s.setObj k v).col d = s.col d := rfl
@[simp] theorem setObj_pageAt (s : State) (k v : Nat) (j : Nat) : (s.setObj k v).pageAt j = s.pageAt j := rfl
@[simp] theorem bump_core (s : State) (k n : Nat) (d : Nat) : (s.bump k n).core d = s.core d := rfl
@[simp] theorem bump_thread (s : State) (k n : Nat) (d u : Nat) : (s.bump k n).thread d u = s.thread d u := rfl
@[simp] theorem bump_queue (s : State) (k n : Nat) (j : Nat) : (s.bump k n).queue j = s.queue j := rfl
@[simp] theorem bump_slot (s : State) (k n : Nat) (m : Nat) : (s.bump k n).slot m = s.slot m := rfl
@[simp] theorem bump_col (s : State) (k n : Nat) (d : Nat) : (s.bump k n).col d = s.col d := rfl
@[simp] theorem bump_pageAt (s : State) (k n : Nat) (j : Nat) : (s.bump k n).pageAt j = s.pageAt j := rfl
@[simp] theorem setPage_core (s : State) (p : Page) (d : Nat) : (s.setPage p).core d = s.core d := rfl
@[simp] theorem setPage_thread (s : State) (p : Page) (d u : Nat) : (s.setPage p).thread d u = s.thread d u := rfl
@[simp] theorem setPage_obj (s : State) (p : Page) (j : Nat) : (s.setPage p).obj j = s.obj j := rfl
@[simp] theorem setPage_queue (s : State) (p : Page) (j : Nat) : (s.setPage p).queue j = s.queue j := rfl
@[simp] theorem setPage_slot (s : State) (p : Page) (m : Nat) : (s.setPage p).slot m = s.slot m := rfl
@[simp] theorem setPage_col (s : State) (p : Page) (d : Nat) : (s.setPage p).col d = s.col d := rfl
@[simp] theorem setPoison_core (s : State) (a : Nat) (b : Bool) (d : Nat) : (s.setPoison a b).core d = s.core d := rfl
@[simp] theorem setPoison_thread (s : State) (a : Nat) (b : Bool) (d u : Nat) : (s.setPoison a b).thread d u = s.thread d u := rfl
@[simp] theorem setPoison_obj (s : State) (a : Nat) (b : Bool) (j : Nat) : (s.setPoison a b).obj j = s.obj j := rfl
@[simp] theorem setPoison_queue (s : State) (a : Nat) (b : Bool) (j : Nat) : (s.setPoison a b).queue j = s.queue j := rfl
@[simp] theorem setPoison_slot (s : State) (a : Nat) (b : Bool) (m : Nat) : (s.setPoison a b).slot m = s.slot m := rfl
@[simp] theorem setPoison_col (s : State) (a : Nat) (b : Bool) (d : Nat) : (s.setPoison a b).col d = s.col d := rfl
@[simp] theorem setPoison_pageAt (s : State) (a : Nat) (b : Bool) (j : Nat) : (s.setPoison a b).pageAt j = s.pageAt j := rfl
@[simp] theorem setQueue_core (s : State) (q : Nat) (x : Queue) (d : Nat) : (s.setQueue q x).core d = s.core d := rfl
@[simp] theorem setQueue_thread (s : State) (q : Nat) (x : Queue) (d u : Nat) : (s.setQueue q x).thread d u = s.thread d u := rfl
@[simp] theorem setQueue_obj (s : State) (q : Nat) (x : Queue) (j : Nat) : (s.setQueue q x).obj j = s.obj j := rfl
@[simp] theorem setQueue_col (s : State) (q : Nat) (x : Queue) (d : Nat) : (s.setQueue q x).col d = s.col d := rfl
@[simp] theorem setQueue_pageAt (s : State) (q : Nat) (x : Queue) (j : Nat) : (s.setQueue q x).pageAt j = s.pageAt j := rfl
@[simp] theorem setSlot_core (s : State) (n : Nat) (x : Option Seq) (d : Nat) : (s.setSlot n x).core d = s.core d := rfl
@[simp] theorem setSlot_thread (s : State) (n : Nat) (x : Option Seq) (d u : Nat) : (s.setSlot n x).thread d u = s.thread d u := rfl
@[simp] theorem setSlot_obj (s : State) (n : Nat) (x : Option Seq) (j : Nat) : (s.setSlot n x).obj j = s.obj j := rfl
@[simp] theorem setSlot_col (s : State) (n : Nat) (x : Option Seq) (d : Nat) : (s.setSlot n x).col d = s.col d := rfl
@[simp] theorem setSlot_pageAt (s : State) (n : Nat) (x : Option Seq) (j : Nat) : (s.setSlot n x).pageAt j = s.pageAt j := rfl
@[simp] theorem setCol_core (s : State) (c : Nat) (k : Column) (d : Nat) : (s.setCol c k).core d = s.core d := rfl
@[simp] theorem setCol_thread (s : State) (c : Nat) (k : Column) (d u : Nat) : (s.setCol c k).thread d u = s.thread d u := rfl
@[simp] theorem setCol_obj (s : State) (c : Nat) (k : Column) (j : Nat) : (s.setCol c k).obj j = s.obj j := rfl
@[simp] theorem setCol_queue (s : State) (c : Nat) (k : Column) (j : Nat) : (s.setCol c k).queue j = s.queue j := rfl
@[simp] theorem setCol_slot (s : State) (c : Nat) (k : Column) (m : Nat) : (s.setCol c k).slot m = s.slot m := rfl
@[simp] theorem setCol_pageAt (s : State) (c : Nat) (k : Column) (j : Nat) : (s.setCol c k).pageAt j = s.pageAt j := rfl
@[simp] theorem setLink_core (s : State) (l : Nat) (x : Link) (d : Nat) : (s.setLink l x).core d = s.core d := rfl
@[simp] theorem setLink_thread (s : State) (l : Nat) (x : Link) (d u : Nat) : (s.setLink l x).thread d u = s.thread d u := rfl
@[simp] theorem setLink_obj (s : State) (l : Nat) (x : Link) (j : Nat) : (s.setLink l x).obj j = s.obj j := rfl
@[simp] theorem setLink_queue (s : State) (l : Nat) (x : Link) (j : Nat) : (s.setLink l x).queue j = s.queue j := rfl
@[simp] theorem setLink_slot (s : State) (l : Nat) (x : Link) (m : Nat) : (s.setLink l x).slot m = s.slot m := rfl
@[simp] theorem setLink_col (s : State) (l : Nat) (x : Link) (d : Nat) : (s.setLink l x).col d = s.col d := rfl
@[simp] theorem setLink_pageAt (s : State) (l : Nat) (x : Link) (j : Nat) : (s.setLink l x).pageAt j = s.pageAt j := rfl
@[simp] theorem setEngine_core (s : State) (e : Nat) (x : Engine) (d : Nat) : (s.setEngine e x).core d = s.core d := rfl
@[simp] theorem setEngine_thread (s : State) (e : Nat) (x : Engine) (d u : Nat) : (s.setEngine e x).thread d u = s.thread d u := rfl
@[simp] theorem setEngine_obj (s : State) (e : Nat) (x : Engine) (j : Nat) : (s.setEngine e x).obj j = s.obj j := rfl
@[simp] theorem setEngine_queue (s : State) (e : Nat) (x : Engine) (j : Nat) : (s.setEngine e x).queue j = s.queue j := rfl
@[simp] theorem setEngine_slot (s : State) (e : Nat) (x : Engine) (m : Nat) : (s.setEngine e x).slot m = s.slot m := rfl
@[simp] theorem setEngine_col (s : State) (e : Nat) (x : Engine) (d : Nat) : (s.setEngine e x).col d = s.col d := rfl
@[simp] theorem setEngine_pageAt (s : State) (e : Nat) (x : Engine) (j : Nat) : (s.setEngine e x).pageAt j = s.pageAt j := rfl
@[simp] theorem setPower_core (s : State) (p : Power) (d : Nat) : (s.setPower p).core d = s.core d := rfl
@[simp] theorem setPower_thread (s : State) (p : Power) (d u : Nat) : (s.setPower p).thread d u = s.thread d u := rfl
@[simp] theorem setPower_obj (s : State) (p : Power) (j : Nat) : (s.setPower p).obj j = s.obj j := rfl
@[simp] theorem setPower_queue (s : State) (p : Power) (j : Nat) : (s.setPower p).queue j = s.queue j := rfl
@[simp] theorem setPower_slot (s : State) (p : Power) (m : Nat) : (s.setPower p).slot m = s.slot m := rfl
@[simp] theorem setPower_col (s : State) (p : Power) (d : Nat) : (s.setPower p).col d = s.col d := rfl
@[simp] theorem setPower_pageAt (s : State) (p : Power) (j : Nat) : (s.setPower p).pageAt j = s.pageAt j := rfl

end Sys2Proof.Machine
end

