-- ==== Sys2Proof/Laws/Commit.lean ====
section
/-! SUPPORT. What `commit` does: every meaning answers a next state that keeps the queue and puts its outputs before the earlier
ones. -/

namespace Sys2Proof.Machine

/-- What a meaning answers, from what its effect does to the bare state. -/
theorem commit_eq {s t : State} {f : State → State} (h : f { s with pending := [], out := [] } = t) :
    commit s f = .next { t with pending := s.pending, out := t.out ++ s.out } := by
  subst h; rfl

/-- An effect that does not look at the queue or the outputs and leaves both, such as a record update of other fields. -/
theorem commit_same {s t : State} {f : State → State}
    (h : f { s with pending := [], out := [] } = { t with pending := [], out := [] })
    (hp : t.pending = s.pending) (ho : t.out = s.out) : commit s f = .next t := by
  rw [commit_eq h]
  simp [← hp, ← ho]

/-- Every meaning that commits keeps the commands waiting and every output already sent. -/
theorem commit_keeps (s : State) (f : State → State) :
    ∃ t, commit s f = .next t ∧ t.pending = s.pending ∧ s.out <:+ t.out :=
  ⟨_, commit_eq rfl, rfl, List.suffix_append _ _⟩

end Sys2Proof.Machine
end

