-- ==== Sys2Proof/Laws/Issue.lean ====
section
/-! SUPPORT. What issuing an instruction comes to, once for each outcome of its act. -/

namespace Sys2Proof.Machine

theorem Core.tickSusp_thread (k : Core) (t u : Nat) : (k.tickSusp t).thread u = k.thread u := by
  unfold Core.tickSusp; split <;> rfl

theorem Core.tickSusp_claim (k : Core) (t : Nat) : (k.tickSusp t).claim = k.claim := by
  unfold Core.tickSusp; split <;> rfl

@[simp] theorem Core.setThread_claim (k : Core) (t : Nat) (x : Thread) : (k.setThread t x).claim = k.claim := rfl

/-- A thread in RUN with no claimant READY keeps running. -/
theorem resched_id (s : State) (c t : Nat) (ht : t < 16) (hr : (s.thread c t).st = .run)
    (hc : (s.core c).claim.all (fun u => (s.thread c u).st != .ready) = true) : s.resched c = s := by
  have hrun : ∃ r, (s.core c).running = some r := by
    have : (s.core c).running.isSome := by
      rw [Core.running, List.find?_isSome]
      exact ⟨t, List.mem_range.mpr ht, by simpa [State.thread] using hr⟩
    exact Option.isSome_iff_exists.mp this
  obtain ⟨r, hr'⟩ := hrun
  have hn : (if (s.core c).susp = 0 then ((s.core c).claim.filter (fun t => ((s.core c).thread t).st == .ready)) else none) = none := by
    split
    · cases hcl : (s.core c).claim with
      | none => rfl
      | some u =>
        rw [hcl] at hc
        have : (s.thread c u).st ≠ .ready := by simpa using hc
        simpa [State.thread] using this
    · rfl
  simp only [State.resched, hr', hn]

/-- What comes before the act of an instruction that acts: nothing. -/
theorem before_none {s : State} {c t : Nat} {pg : BitVec 3} {pn enc lanes : Bool} {uses : List Nat}
    (h : s.acts c t pg pn enc lanes uses = true) : s.before c t pg pn enc lanes uses = none := by
  simp only [State.acts, Bool.and_eq_true, beq_iff_eq] at h
  obtain ⟨⟨⟨⟨⟨⟨⟨⟨h1, h2⟩, h3⟩, -⟩, hf⟩, h4⟩, h5⟩, h6⟩, h7⟩ := h
  have h6' : uses.any (fun r => (s.core c).farPending t r) = false := by
    rw [List.any_eq_false]
    intro r hr
    simpa using (List.all_eq_true.mp h6) r hr
  simp only [State.before, hf, h3, h4, h6']
  cases lanes <;> simp_all

theorem acts_run {s : State} {c t : Nat} {pg : BitVec 3} {pn enc lanes : Bool} {uses : List Nat}
    (h : s.acts c t pg pn enc lanes uses = true) : (s.thread c t).st = .run ∧ s.clocked c = true ∧
      (s.core c).claim.all (fun u => (s.thread c u).st != .ready) = true := by
  simp only [State.acts, Bool.and_eq_true, beq_iff_eq] at h
  obtain ⟨⟨⟨⟨⟨⟨⟨⟨h1, h2⟩, h3⟩, -⟩, hf⟩, h4⟩, h5⟩, h6⟩, h7⟩ := h
  exact ⟨h1, h2, h7⟩

/-- An instruction that acts is fetched already: nothing is asked for, nothing filled (R107). -/
theorem fetched_acts {s : State} {c t : Nat} {pg : BitVec 3} {pn enc lanes : Bool} {uses : List Nat}
    (h : s.acts c t pg pn enc lanes uses = true) : s.fetchAsks c t = false ∧ s.fetched c t = s := by
  simp only [State.acts, Bool.and_eq_true, beq_iff_eq] at h
  obtain ⟨⟨⟨⟨⟨⟨⟨⟨-, -⟩, -⟩, hi⟩, -⟩, -⟩, -⟩, -⟩, -⟩ := h
  refine ⟨by simp [State.fetchAsks, hi], ?_⟩
  simp only [State.fetched]
  split
  · unfold State.icFill
    split <;> simp [hi]
  · rfl

/-- An instruction that acts: its act carried out, then the choice of the running thread. -/
theorem issue_acts {s : State} {c t : Nat} {pg : BitVec 3} {pn enc lanes : Bool} {uses : List Nat} (act : State → Thread → Act)
    (h : s.acts c t pg pn enc lanes uses = true) :
    s.issue c t pg pn enc lanes uses act = (s.carry c t (act s (s.thread c t))).resched c := by
  obtain ⟨h1, h2, -⟩ := acts_run h
  obtain ⟨hq, he⟩ := fetched_acts h
  simp [State.issue, h1, h2, hq, he, before_none h]

/-- The thread that issues stays in RUN and no claimant is READY: what an effect must keep for its thread to go on. -/
def State.keepsRunning (s : State) (c t : Nat) : Prop :=
  (s.thread c t).st = .run ∧ (s.core c).claim.all (fun u => (s.thread c u).st != .ready) = true

/-- Choosing a thread to run changes that thread's state alone. -/
theorem runThread_thread_ne (s : State) (c u t : Nat) (h : t ≠ u) : (s.runThread c u).thread c t = s.thread c t := by
  unfold State.runThread
  simp only
  split <;> (simp only [State.thread, bump_core, core_setCore, Core.thread_setThread_ne _ _ h]; rfl)

theorem runThread_core_ne (s : State) (c u d : Nat) (h : d ≠ c) : (s.runThread c u).core d = s.core d := by
  unfold State.runThread
  simp only
  split <;> simp [core_setCore_ne _ _ h]

/-- A thread that is neither READY nor in RUN is left alone by the choice of the running thread. -/
theorem resched_thread (s : State) (c t : Nat) (h : (s.thread c t).st ≠ .ready ∧ (s.thread c t).st ≠ .run) :
    (s.resched c).thread c t = s.thread c t := by
  have hready : ∀ skip u, (s.core c).nextReady skip = some u → t ≠ u := by
    intro skip u hu htu
    have := List.find?_some hu
    simp only [Bool.and_eq_true, beq_iff_eq] at this
    exact h.1 (by rw [htu]; exact this.1)
  unfold State.resched
  simp only
  split
  · rename_i r u hr hh
    have hru : t ≠ r := by
      intro e
      have := List.find?_some hr
      simp only [beq_iff_eq] at this
      exact h.2 (by rw [e]; exact this)
    have htu : t ≠ u := by
      intro e
      split at hh
      · obtain ⟨-, hu⟩ := Option.filter_eq_some_iff.mp hh
        simp only [beq_iff_eq] at hu
        exact h.1 (by rw [e]; exact hu)
      · exact absurd hh (by simp)
    rw [runThread_thread_ne _ _ _ _ htu, thread_setThread_ne _ _ (Or.inr hru)]
  · rfl
  · rename_i u hr hh
    have htu : t ≠ u := by
      intro e
      split at hh
      · obtain ⟨-, hu⟩ := Option.filter_eq_some_iff.mp hh
        simp only [beq_iff_eq] at hu
        exact h.1 (by rw [e]; exact hu)
      · exact absurd hh (by simp)
    exact runThread_thread_ne _ _ _ _ htu
  · split
    · rename_i u hu
      exact runThread_thread_ne _ _ _ _ (hready _ _ hu)
    · split
      · rename_i u hu
        rw [runThread_thread_ne _ _ _ _ (hready _ _ hu)]
        simp only [State.thread, core_setCore]; rfl
      · rfl

/-- What the choice of the running thread can change: the cores, and the count of switches. -/
theorem resched_frame (s : State) (c : Nat) : s.resched c = { s with cores := (s.resched c).cores, objs := (s.resched c).objs } := by
  have hrun : ∀ (s : State) u, s.runThread c u = { s with cores := (s.runThread c u).cores, objs := (s.runThread c u).objs } := by
    intro s u
    unfold State.runThread
    simp only
    split <;> rfl
  unfold State.resched
  simp only
  split
  · rw [hrun]; rfl
  · rfl
  · rw [hrun]
  · split
    · rw [hrun]
    · split
      · rw [hrun]; rfl
      · rfl

theorem retireTo_core (s : State) (c t : Nat) (pc : W64) :
    (s.retireTo c t pc).core c = (((s.core c).setThread t { s.thread c t with pc := pc, why := .none }).tickSusp t) := by
  simp [State.retireTo, State.setPc, State.modThread, State.setThread]

theorem retireTo_resched (s : State) (c t : Nat) (ht : t < 16) (pc : W64) (h : s.keepsRunning c t) :
    (s.retireTo c t pc).resched c = s.retireTo c t pc := by
  obtain ⟨hy, hc⟩ := h
  apply resched_id _ _ t ht
  · simp [State.thread, retireTo_core, Core.tickSusp_thread] at hy ⊢; exact hy
  · simp only [State.thread, retireTo_core, Core.tickSusp_thread, Core.tickSusp_claim, Core.setThread_claim]
    cases hcl : (s.core c).claim with
    | none => rfl
    | some u =>
      rw [hcl] at hc
      simp only [Option.all_some] at hc ⊢
      by_cases hu : u = t
      · subst hu; simp only [State.thread] at hy; simp [hy]
      · rw [Core.thread_setThread_ne _ _ hu]; exact hc

/-- An act that takes effect. -/
theorem issue_done {s s1 : State} {c t : Nat} (ht : t < 16) {pg : BitVec 3} {pn enc lanes : Bool} {uses : List Nat}
    {act : State → Thread → Act} (h : s.acts c t pg pn enc lanes uses = true)
    (ha : act s (s.thread c t) = .done s1) (hk : s1.keepsRunning c t) (hpc : (s1.thread c t).pc = (s.thread c t).pc) :
    s.issue c t pg pn enc lanes uses act = s1.retire c t := by
  rw [issue_acts act h, ha]
  have : s.carry c t (.done s1) = s1.retire c t := by simp [State.carry, State.retire, State.retireTo, hpc]
  rw [this]
  exact retireTo_resched _ _ _ ht _ hk

/-- An act that jumps. -/
theorem issue_jump {s s1 : State} {c t : Nat} (ht : t < 16) {pg : BitVec 3} {pn enc lanes : Bool} {uses : List Nat}
    {act : State → Thread → Act} {pc : W64} (h : s.acts c t pg pn enc lanes uses = true)
    (ha : act s (s.thread c t) = .jump s1 pc) (hk : s1.keepsRunning c t) :
    s.issue c t pg pn enc lanes uses act = s1.retireTo c t pc := by
  rw [issue_acts act h, ha]
  exact retireTo_resched _ _ _ ht _ hk

/-- An instruction that reads scratchpad and finds no error there issues as any other. -/
theorem issueE_nil (s : State) (c t : Nat) (pg : BitVec 3) (pn enc lanes : Bool) (uses : List Nat) (act : State → Thread → Act) :
    s.issueE c t pg pn enc lanes uses [] act = s.issue c t pg pn enc lanes uses act := by
  have hu' : ∀ s : State, s.upset c [] = s := fun _ => rfl
  unfold State.issueE State.issue
  simp only [hu']
  split
  · rfl
  · split
    · rfl
    · cases hb : (s.fetched c t).before c t pg pn enc lanes uses with
      | some a => rfl
      | none =>
        simp only [Option.getD_none]
        generalize act (s.fetched c t) (s.thread c t) = a
        split <;> rfl

/-- The same as a command: the queue and the earlier outputs stay. -/
theorem commit_issue_done {s s1 : State} {c t : Nat} (ht : t < 16) {pg : BitVec 3} {pn enc lanes : Bool} {uses : List Nat}
    {act : State → Thread → Act} (h : s.acts c t pg pn enc lanes uses = true)
    (ha : act { s with pending := [], out := [] } (s.thread c t) = .done { s1 with pending := [], out := [] })
    (hp : s1.pending = s.pending) (ho : s1.out = s.out)
    (hk : s1.keepsRunning c t) (hpc : (s1.thread c t).pc = (s.thread c t).pc) :
    commit s (fun s => s.issue c t pg pn enc lanes uses act) = .next (s1.retire c t) := by
  have h' : ({ s with pending := [], out := [] } : State).acts c t pg pn enc lanes uses = true := h
  exact commit_same (issue_done ht h' ha hk hpc) hp ho

theorem commit_issue_jump {s s1 : State} {c t : Nat} (ht : t < 16) {pg : BitVec 3} {pn enc lanes : Bool} {uses : List Nat}
    {act : State → Thread → Act} {pc : W64} (h : s.acts c t pg pn enc lanes uses = true)
    (ha : act { s with pending := [], out := [] } (s.thread c t) = .jump { s1 with pending := [], out := [] } pc)
    (hp : s1.pending = s.pending) (ho : s1.out = s.out) (hk : s1.keepsRunning c t) :
    commit s (fun s => s.issue c t pg pn enc lanes uses act) = .next (s1.retireTo c t pc) := by
  have h' : ({ s with pending := [], out := [] } : State).acts c t pg pn enc lanes uses = true := h
  exact commit_same (issue_jump ht h' ha hk) hp ho

/-- An instruction that acts may go on in a state whose cores differ in what the sequencer does not look at. -/
theorem keepsRunning_of_acts {s s1 : State} {c t : Nat} {pg : BitVec 3} {pn enc lanes : Bool} {uses : List Nat}
    (h : s.acts c t pg pn enc lanes uses = true) (ht : ∀ u, (s1.thread c u).st = (s.thread c u).st)
    (hc : (s1.core c).claim = (s.core c).claim) : s1.keepsRunning c t := by
  obtain ⟨h1, -, h7⟩ := acts_run h
  refine ⟨by rw [ht, h1], ?_⟩
  rw [hc]
  simpa only [ht] using h7

theorem keepsRunning_modThread {s : State} {c t : Nat} {pg : BitVec 3} {pn enc lanes : Bool} {uses : List Nat} {f : Thread → Thread}
    (h : s.acts c t pg pn enc lanes uses = true) (hf : ∀ x, (f x).st = x.st) : (s.modThread c t f).keepsRunning c t := by
  refine keepsRunning_of_acts h (fun u => ?_) (by simp [State.modThread, State.setThread])
  by_cases hu : u = t
  · subst hu; simp [State.modThread, hf]
  · simp [State.modThread, thread_setThread_ne _ _ (Or.inr hu)]

/-- An instruction whose act only changes its thread. -/
theorem commit_issue_modThread {s : State} {c t : Nat} (ht : t < 16) {pg : BitVec 3} {pn enc lanes : Bool} {uses : List Nat}
    {act : State → Thread → Act} {f : Thread → Thread} (h : s.acts c t pg pn enc lanes uses = true)
    (ha : act { s with pending := [], out := [] } (s.thread c t) = .done ({ s with pending := [], out := [] }.modThread c t f))
    (hf : ∀ x, (f x).st = x.st) (hpc : ∀ x, (f x).pc = x.pc) :
    commit s (fun s => s.issue c t pg pn enc lanes uses act) = .next ((s.modThread c t f).retire c t) :=
  commit_issue_done ht h ha rfl rfl (keepsRunning_modThread h hf) (by simp [State.modThread, hpc])

@[simp] theorem Thread.setS_pc (x : Thread) (r : Nat) (v : W64) : (x.setS r v).pc = x.pc := by unfold Thread.setS; split <;> rfl
@[simp] theorem Thread.setP_pc (x : Thread) (r : Nat) (v : W64) : (x.setP r v).pc = x.pc := by unfold Thread.setP; split <;> rfl
@[simp] theorem Thread.setV_pc (x : Thread) (r : Nat) (v : VReg) : (x.setV r v).pc = x.pc := rfl

/-- s[d] ← s[a] op s[b] (R122). -/
theorem aluA_acts {s : State} {c : CoreId} {t : ThreadId} {f : FmtA} {op : W64 → W64 → W64}
    (h : s.acts c t f.pg f.pn (f.ok true true true false 0) false [f.d.toNat, f.a.toNat, f.b.toNat] = true) :
    aluA c t f op s = .next ((s.putS c t f.d.toNat
      (op ((s.thread c t).sreg f.a.toNat) ((s.thread c t).sreg f.b.toNat))).retire c t) :=
  commit_issue_modThread t.2 h rfl (by simp) (by simp)

/-- s[d] ← s[a] op imm (R122). -/
theorem aluI_acts {s : State} {c : CoreId} {t : ThreadId} {f : FmtI} {op : W64 → W64 → W64}
    (h : s.acts c t f.pg f.pn (f.ok true true true 0) false [f.d.toNat, f.a.toNat] = true) :
    aluI c t f op s = .next ((s.putS c t f.d.toNat (op ((s.thread c t).sreg f.a.toNat) f.sx)).retire c t) :=
  commit_issue_modThread t.2 h rfl (by simp) (by simp)

end Sys2Proof.Machine
end

