-- ==== Sys2Proof/Laws/Memory.lean ====
section
/-! SUPPORT. Every operation over device-local memory keeps its canonical form: bytes written, ranges dropped and spliced. -/

namespace Sys2Proof

theorem Memory.wf_nil : Memory.wf [] = true := rfl

theorem Memory.wf_writeBytes (m : Tab Byte) (a : Nat) (bs : List Byte) (h : Memory.wf m = true) :
    Memory.wf (Tab.writeBytes m a bs) = true := Tab.wf_writeBytes m bs a h

theorem Memory.wf_set (m : Tab Byte) (a : Nat) (b : Byte) (h : Memory.wf m = true) : Memory.wf (Tab.set m 0 a b) = true :=
  Tab.wf_set (d := fun _ => (0 : Byte)) a b h

variable {α : Type}

theorem Tab.rising_filter {lo : Nat} {t : Tab α} (p : Nat × α → Bool) (ht : Tab.rising lo t = true) :
    Tab.rising lo (t.filter p) = true := by
  induction t generalizing lo with
  | nil => rfl
  | cons e r ih =>
    simp only [Tab.rising, Bool.and_eq_true, decide_eq_true_eq] at ht
    rw [List.filter_cons]
    split
    · simp only [Tab.rising, Bool.and_eq_true, decide_eq_true_eq]
      exact ⟨ht.1, ih ht.2⟩
    · exact ih (Tab.rising_mono (by omega) ht.2)

/-- Rising tables joined at a key rise. -/
theorem Tab.rising_append {lo k : Nat} {t u : Tab α} (hk : lo ≤ k) (ht : Tab.rising lo t = true) (hb : ∀ e ∈ t, e.1 < k)
    (hu : Tab.rising k u = true) : Tab.rising lo (t ++ u) = true := by
  induction t generalizing lo with
  | nil => exact Tab.rising_mono hk hu
  | cons e r ih =>
    simp only [Tab.rising, Bool.and_eq_true, decide_eq_true_eq, List.cons_append] at ht ⊢
    have he := hb e (by simp)
    exact ⟨ht.1, ih (by omega) ht.2 (fun x hx => hb x (by simp [hx]))⟩

/-- A rising table whose keys all are at least a bound rises from it. -/
theorem Tab.rising_raise {lo k : Nat} {t : Tab α} (ht : Tab.rising lo t = true) (hb : ∀ e ∈ t, k ≤ e.1) : Tab.rising k t = true := by
  cases t with
  | nil => rfl
  | cons e r =>
    simp only [Tab.rising, Bool.and_eq_true, decide_eq_true_eq] at ht ⊢
    exact ⟨hb e (by simp), ht.2⟩

theorem Memory.wf_dropRange (m : Tab Byte) (lo hi : Nat) (h : Memory.wf m = true) :
    Memory.wf (Machine.dropRange m lo hi) = true := by
  simp only [Memory.wf, Tab.wf, Bool.and_eq_true, List.all_eq_true] at h ⊢
  exact ⟨Tab.rising_filter _ h.1, fun e he => h.2 e (List.mem_filter.mp he).1⟩

theorem Memory.wf_spliceRange (m u : Tab Byte) {lo hi : Nat} (hl : lo ≤ hi) (h : Memory.wf m = true) (hu : Memory.wf u = true) :
    Memory.wf (Machine.spliceRange m u lo hi) = true := by
  simp only [Memory.wf, Tab.wf, Bool.and_eq_true, List.all_eq_true] at h hu ⊢
  constructor
  · unfold Machine.spliceRange
    rw [List.append_assoc]
    refine Tab.rising_append (k := lo) (Nat.zero_le _) (Tab.rising_filter _ h.1) (fun e he => ?_) ?_
    · simpa using (List.mem_filter.mp he).2
    · refine Tab.rising_append (k := hi) hl (Tab.rising_raise (Tab.rising_filter _ hu.1) fun e he => ?_) (fun e he => ?_)
        (Tab.rising_raise (Tab.rising_filter _ h.1) fun e he => ?_)
      · have := (List.mem_filter.mp he).2
        simp only [Bool.and_eq_true, decide_eq_true_eq] at this
        exact this.1
      · have := (List.mem_filter.mp he).2
        simp only [Bool.and_eq_true, decide_eq_true_eq] at this
        exact this.2
      · simpa using (List.mem_filter.mp he).2
  · intro e he
    unfold Machine.spliceRange at he
    rcases List.mem_append.mp he with he | he
    · rcases List.mem_append.mp he with he | he
      · exact h.2 e (List.mem_filter.mp he).1
      · exact hu.2 e (List.mem_filter.mp he).1
    · exact h.2 e (List.mem_filter.mp he).1

/-- The memories of the machine after reset are in canonical form. -/
theorem Machine.State.reset_memories :
    Memory.wf Machine.State.reset.mem = true ∧ Memory.wf Machine.State.reset.shadow = true ∧ Memory.wf Machine.State.reset.prev = true :=
  ⟨rfl, rfl, rfl⟩

end Sys2Proof
end

