-- ==== Sys2Proof/WellFormed.lean ====
section
/-! DEFINITION. When a command is well formed: every operand fits in the field that carries it (Tables 04.9, 08.5, 10.2, 10.4, 12.1, 12.2;
R299–R301, R306, R310, R355). The widths that a type already gives need no check. -/

namespace Sys2Proof

/-- A number fitsIn in a field of n bits. -/
def fitsIn (n v : Nat) : Bool := decide (v < 2 ^ n)

/-- A number is within bounds. -/
def within (lo hi v : Nat) : Bool := decide (lo ≤ v) && decide (v ≤ hi)

/-- The fields of a pass packet (Table 08.5). -/
def PassPkt.wf (p : PassPkt) : Bool :=
  fitsIn 8 p.gen && fitsIn 16 p.epoch && fitsIn 32 p.step && fitsIn 32 p.layer && fitsIn 28 p.chunk && fitsIn 4 p.idx && fitsIn 16 p.member && fitsIn 14 p.dev &&
    fitsIn 8 p.fmt && fitsIn 8 p.flags && fitsIn 32 p.league && fitsIn 32 p.seq && fitsIn 6 p.link && fitsIn 1 p.lane &&
    decide (p.payload.length ≤ 4096)

/-- The fields of a routed packet (Table 10.4). -/
def Pkt.wf (p : Pkt) : Bool :=
  fitsIn 8 p.type && decide (p.vc ≤ 9) && fitsIn 2 p.hops && fitsIn 14 p.dst && fitsIn 14 p.src && fitsIn 16 p.tag && fitsIn 32 p.league && fitsIn 16 p.ctx &&
    fitsIn 16 p.epoch && fitsIn 8 p.status && fitsIn 24 p.fstep && decide (p.payload.length ≤ 4160)

/-- The fields of a HELLO payload (Table 10.2). -/
def Hello.wf (h : Hello) : Bool :=
  fitsIn 8 h.gens && fitsIn 8 h.fabric && fitsIn 8 h.passmc && fitsIn 8 h.determ && decide (h.role ≤ 1) && fitsIn 8 h.link && decide (h.rank ≤ 3) &&
    decide (h.lanes ≤ 2) && fitsIn 16 h.devid && fitsIn 8 h.stepping && fitsIn 8 h.maxgen && (h.serial.length == 16)

/-- The path of a frame: a device ID has 14 bits, a UDP port 16 and there are 64 links. -/
def Path.wf : Path → Bool
  | .mailbox => true
  | .port addr udp => fitsIn 128 addr && fitsIn 16 udp
  | .relayDev d => fitsIn 14 d
  | .relayLink l => decide (l < 64)

/-- The fields of a frame header (Table 12.1). -/
def FrameHdr.wf (h : FrameHdr) : Bool :=
  h.path.wf && fitsIn 8 h.proto && fitsIn 8 h.kind && fitsIn 8 h.ctl && fitsIn 8 h.nops && fitsIn 32 h.session && fitsIn 32 h.seq && fitsIn 16 h.len &&
    fitsIn 16 h.rmax && fitsIn 16 h.route && fitsIn 16 h.res

/-- The fields of an operation (Table 12.2). -/
def DictOp.wf (o : DictOp) : Bool :=
  fitsIn 8 o.op && fitsIn 8 o.status && fitsIn 8 o.sub && fitsIn 8 o.res && fitsIn 16 o.idx && fitsIn 16 o.data.length
def OpArgs.wf (o : OpArgs) : Bool := fitsIn 8 o.status && fitsIn 8 o.sub && fitsIn 8 o.res && fitsIn 16 o.idx && fitsIn 16 o.data.length

/-- Wrong bytes of an HBM sector: 64 of data and 4 of check bytes, each named once (R170). -/
def BadBytes.wf (b : BadBytes) : Bool :=
  b.wrong.all (fun e => decide (e.1 < 68) && e.2 != 0) && ((b.wrong.map Prod.fst).eraseDups.length == b.wrong.length)

/-- A dictionary frame: its header, the operation that the command names and the others. -/
def frameWf (h : FrameHdr) (o : OpArgs) (rest : List DictOp) : Bool := h.wf && o.wf && rest.all DictOp.wf

/-- A wrong symbol of a frame of 544, and the bits that differ (R299, R300). -/
def symbolWf (e : Nat × BitVec 10) : Bool := decide (e.1 < 544) && e.2 != 0

/-- The ten counts of a CREDIT packet (Table 10.5). -/
def creditsWf (counts : List Nat) : Bool := (counts.length == 10) && counts.all (fitsIn 16)

/-- Is a command well formed? -/
def Instr.wf (i : Instr) : Bool :=
  match i with
  | .hostTimeMarkWrite sess v => fitsIn 32 sess && fitsIn 64 v
  | .heartbeat _ => true
  | .controlCoreSilent _ => true
  | .clearSlotWrite sess v => fitsIn 32 sess && fitsIn 64 v
  | .iMma _ _ _ _ => true
  | .iMmaS2 _ _ _ _ => true
  | .mmaComplete _ _ => true
  | .iWtld _ _ _ _ => true
  | .iDrain _ _ _ _ => true
  | .drainExecute _ _ _ => true
  | .iSpill _ _ _ => true
  | .spillExecute _ _ _ => true
  | .iMcfg _ _ _ => true
  | .sideSumComplete _ _ => true
  | .iTkInit _ _ _ => true
  | .iTkIns _ _ _ _ => true
  | .iTkMrg _ _ _ => true
  | .tkMrgExecute _ _ _ => true
  | .iTkOut _ _ _ _ => true
  | .iArrClaim _ _ _ => true
  | .claimGrant _ => true
  | .iArrRel _ _ _ => true
  | .iArrSync _ _ _ => true
  | .iSdl _ _ _ _ => true
  | .iNop _ _ f => (f.op == 0 || !opListed f.op)
  | .iEnd _ _ _ => true
  | .endComplete _ _ => true
  | .iYield _ _ _ => true
  | .iFence _ _ _ => true
  | .iCsrr _ _ _ => true
  | .iCsrw _ _ _ => true
  | .iWtw _ _ _ _ => true
  | .wtwReread _ _ => true
  | .iAdd _ _ _ => true
  | .iSub _ _ _ => true
  | .iMul _ _ _ => true
  | .iMulh _ _ _ => true
  | .iAnd _ _ _ => true
  | .iOr _ _ _ => true
  | .iXor _ _ _ => true
  | .iShl _ _ _ => true
  | .iShr _ _ _ => true
  | .iSar _ _ _ => true
  | .iMin _ _ _ => true
  | .iMax _ _ _ => true
  | .iMinu _ _ _ => true
  | .iMaxu _ _ _ => true
  | .iCmp _ _ _ => true
  | .iAddi _ _ _ => true
  | .iAndi _ _ _ => true
  | .iOri _ _ _ => true
  | .iXori _ _ _ => true
  | .iShli _ _ _ => true
  | .iShri _ _ _ => true
  | .iSari _ _ _ => true
  | .iLi _ _ _ => true
  | .iLih _ _ _ => true
  | .iCmpi _ _ _ => true
  | .iBr _ _ _ => true
  | .iBrl _ _ _ => true
  | .iJr _ _ _ => true
  | .iLds _ _ _ _ => true
  | .iSts _ _ _ => true
  | .iAmo _ _ _ _ => true
  | .iLdf _ _ _ => true
  | .iStf _ _ _ => true
  | .iAmof _ _ _ => true
  | .iVadd _ _ _ => true
  | .iVsub _ _ _ => true
  | .iVmul _ _ _ => true
  | .iVfma _ _ _ => true
  | .iVmin _ _ _ => true
  | .iVmax _ _ _ => true
  | .iVabs _ _ _ => true
  | .iVneg _ _ _ => true
  | .iVdiv _ _ _ => true
  | .iVsqrt _ _ _ => true
  | .iVrcp _ _ _ => true
  | .iVrsq _ _ _ => true
  | .iVexp2 _ _ _ => true
  | .iVlog2 _ _ _ => true
  | .iVcmp _ _ _ => true
  | .iVsel _ _ _ => true
  | .iVcvt _ _ _ => true
  | .iVred _ _ _ => true
  | .iVbc _ _ _ => true
  | .iVext _ _ _ => true
  | .iVand _ _ _ => true
  | .iVor _ _ _ => true
  | .iVxor _ _ _ => true
  | .iVshl _ _ _ => true
  | .iVshr _ _ _ => true
  | .iPop _ _ _ => true
  | .iVld _ _ _ _ => true
  | .iVst _ _ _ => true
  | .iVldf _ _ _ => true
  | .iVstf _ _ _ => true
  | .iPf _ _ _ => true
  | .iDead _ _ _ => true
  | .iStGo _ _ _ _ => true
  | .iStWait _ _ _ => true
  | .iStPoll _ _ _ => true
  | .streamRead _ _ x => x.bad.all BadBytes.wf
  | .streamWrite _ _ x => x.bad.all BadBytes.wf
  | .streamGather _ _ _ x => x.bad.all BadBytes.wf
  | .streamCopy _ _ _ => true
  | .streamDescriptorComplete _ _ => true
  | .streamTransferFault _ _ _ => true
  | .threadWake _ _ => true
  | .threadPreempt _ => true
  | .allParkedSignal _ => true
  | .farSlotGrant _ => true
  | .farLoadReturn _ _ => true
  | .farStoreAck _ _ => true
  | .homeRead _ _ _ _ => true
  | .homeWrite _ _ => true
  | .homeAtomic _ _ _ => true
  | .fillReturn _ _ bad => bad.all BadBytes.wf
  | .missRetry _ => true
  | .deadHint _ ctx _ size => fitsIn 16 ctx && fitsIn 32 size
  | .pfHint _ ctx _ size => fitsIn 16 ctx && fitsIn 32 size
  | .staleLineSweep => true
  | .pinQuotaWrite sess v => fitsIn 32 sess && fitsIn 64 v
  | .evalReservationWrite sess v => fitsIn 32 sess && fitsIn 64 v
  | .ledgerReservationWrite sess v => fitsIn 32 sess && fitsIn 64 v
  | .thrashWindowEnd _ => true
  | .bankMapOutRequestWrite sess _ v => fitsIn 32 sess && fitsIn 64 v
  | .bankRoleChange _ _ _ role => within 0 4 role
  | .bankDrainDone _ _ _ _ => true
  | .hotBankReview _ _ => true
  | .translationWalkComplete _ _ => true
  | .patrolRead _ bad => bad.all BadBytes.wf
  | .keepAlloc _ _ _ => true
  | .keepFree _ _ => true
  | .keepPin _ _ => true
  | .hintReturnNow _ _ => true
  | .hintOffloadNow _ x => x.bad.all BadBytes.wf
  | .hintSetOkey _ _ => true
  | .hintCursor _ _ => true
  | .allocWaitTimeout _ _ => true
  | .offloadStart _ x => x.bad.all BadBytes.wf
  | .offloadComplete _ => true
  | .offloadTimeout _ => true
  | .returnBlockRead _ _ _ => true
  | .prefetchWindowEnd => true
  | .migrationStart _ _ _ => true
  | .migrationCopyDone x => x.bad.all BadBytes.wf
  | .migrationSourceRelease _ => true
  | .frameBookCheck _ => true
  | .frameBookCheckOverdue _ => true
  | .retirementFlashRetry _ => true
  | .confirmThroughWrite sess v => fitsIn 32 sess && fitsIn 64 v
  | .removeEntryWrite sess v => fitsIn 32 sess && fitsIn 64 v
  | .eyeRecentre _ ch _ => within 0 31 ch
  | .queueEnable _ _ => true
  | .queueDisable _ _ => true
  | .doorbell _ _ => true
  | .descriptorFetch _ _ => true
  | .descriptorStart _ => true
  | .ctxOpen _ _ => true
  | .ctxClose _ _ => true
  | .tensorSet _ _ => true
  | .seqStart _ _ => true
  | .sequencePlace _ => true
  | .sequenceRestart _ => true
  | .seqCancel _ _ => true
  | .rows _ _ => true
  | .batchCapExpire _ => true
  | .nopCommand _ _ => true
  | .stepEnd _ _ => true
  | .snapshot _ _ _ => true
  | .snapshotCopyDone _ _ _ => true
  | .evalSliceWrite sess v => fitsIn 32 sess && fitsIn 64 v
  | .layoutAddressWrite sess v => fitsIn 32 sess && fitsIn 64 v
  | .layoutStepWrite sess v => fitsIn 32 sess && fitsIn 64 v
  | .layoutEpochWrite sess v _ => fitsIn 32 sess && fitsIn 64 v
  | .passRequestContrib _ _ => true
  | .passRequestTopk _ _ => true
  | .passQueueRoom _ => true
  | .contrib x => x.p.wf && (x.kind == 1 || x.kind == 0 || within 12 255 x.kind)
  | .stepDeadlineExpire step layer => fitsIn 32 step && fitsIn 32 layer
  | .mask p => p.wf
  | .push p _ epoch => p.wf && fitsIn 16 epoch
  | .deviceReady => true
  | .ready p _ _ => p.wf
  | .huddleTimeout => true
  | .decide p _ => p.wf
  | .flipped p => p.wf
  | .release p => p.wf
  | .queryStart => true
  | .queryRepeat => true
  | .query p => p.wf
  | .answer p _ => p.wf
  | .leadSilence => true
  | .queryTimeout => true
  | .oldEpochDrained => true
  | .handover p _ _ _ _ => p.wf
  | .unknownEpochHoldExpire epoch => fitsIn 16 epoch
  | .topk p _ _ _ _ => p.wf
  | .mergeDeadlineExpire league group batch => fitsIn 32 league && fitsIn 32 group && fitsIn 32 batch
  | .updateSequenceStart _ => true
  | .updateChunkDone _ => true
  | .splitStatsFetch layer _ => fitsIn 32 layer
  | .updateTableAddressWrite sess v => fitsIn 32 sess && fitsIn 64 v
  | .updateTableStepWrite sess v _ => fitsIn 32 sess && fitsIn 64 v
  | .hello _ _ h => h.wf
  | .frameReceive _ fseq _ data errs => fitsIn 12 fseq && (data.length == 640) && errs.all symbolWf
  | .ack _ fseq _ => fitsIn 12 fseq
  | .credit _ counts _ => creditsWf counts
  | .creditReturn _ => true
  | .creditAudit _ counts => creditsWf counts
  | .rd _ x => x.p.wf && x.bad.all BadBytes.wf
  | .wr _ x => x.p.wf && x.bad.all BadBytes.wf
  | .amoPacket _ x => x.p.wf && x.bad.all BadBytes.wf
  | .keep _ p _ => p.wf
  | .rdr _ p => p.wf
  | .ackw _ p => p.wf
  | .keepr _ p => p.wf
  | .packetForward _ p => p.wf
  | .requestTimeout tag => fitsIn 16 tag
  | .seal _ _ => true
  | .unseal _ _ => true
  | .inv _ p => p.wf
  | .inva _ p => p.wf
  | .fenceTimeExpire _ => true
  | .fenceResend => true
  | .fencePacket _ p => p.wf
  | .fencea _ p => p.wf
  | .homeUnreachable dev => fitsIn 14 dev
  | .mgt _ p _ => p.wf
  | .relayTimeout seq => fitsIn 32 seq
  | .deviceIdWrite sess v => fitsIn 32 sess && fitsIn 64 v
  | .fabricEnableWrite sess v => fitsIn 32 sess && fitsIn 64 v
  | .linkRankWrite sess _ v => fitsIn 32 sess && fitsIn 64 v
  | .clearLeagueFenceWrite sess v => fitsIn 32 sess && fitsIn 64 v
  | .laneLockLoss _ lane => within 0 1 lane
  | .replayFullTimeout _ => true
  | .retrainRequestWrite sess _ v => fitsIn 32 sess && fitsIn 64 v
  | .retrainLanesTrained _ lanes _ h counts => h.wf && creditsWf counts && within 0 2 lanes
  | .retrainFailure _ => true
  | .linkEnableWrite sess _ v => fitsIn 32 sess && fitsIn 64 v
  | .configRequest offset size _ => within 0 4096 (offset + size) && within 1 4 size
  | .flr => true
  | .hotReset => true
  | .hostLinkDown => true
  | .perstNAssert => true
  | .perstNDeassert => true
  | .hostLinkTrained _ _ _ => true
  | .retrainToCapWrite sess v => fitsIn 32 sess && fitsIn 64 v
  | .hostLinkError _ _ => true
  | .registerWrite _ size _ _ => within 1 4096 size
  | .apertureEnable _ _ => true
  | .apertureDisable _ _ => true
  | .bar2Read _ x => x.bad.all BadBytes.wf && within 1 4096 x.n
  | .bar2Write _ data x => x.bad.all BadBytes.wf && within 1 4096 data.length
  | .hostPoolLend _ _ => true
  | .hostPoolRevoke _ _ => true
  | .doeDiscovery _ => true
  | .getVersion _ => true
  | .getCapabilities _ => true
  | .negotiateAlgorithms _ => true
  | .getDigests _ => true
  | .getCertificate _ => true
  | .challenge _ => true
  | .getMeasurements _ => true
  | .evidence _ => true
  | .postQuantumChain _ => true
  | .spdmUnsupportedRequest _ => true
  | .read h o rest _ => frameWf h o rest
  | .write h o rest _ => frameWf h o rest
  | .readRows h o rest _ => frameWf h o rest
  | .writeRows h o rest _ => frameWf h o rest
  | .describe h o rest _ => frameWf h o rest
  | .next h o rest _ => frameWf h o rest
  | .openSession h o rest _ => frameWf h o rest
  | .closeSession h o rest _ => frameWf h o rest
  | .ping h o rest _ => frameWf h o rest
  | .n40Read path seq obj rest => path.wf && fitsIn 32 seq && fitsIn 16 obj && rest.all DictOp.wf
  | .n40Write path seq obj val rest => path.wf && fitsIn 32 seq && fitsIn 16 obj && rest.all DictOp.wf && fitsIn 16 val.length
  | .udpDatagramDiscard cause => within 1 7 cause
  | .addressDetection _ => true
  | .neighborDiscovery _ _ => true
  | .echoRequest _ _ => true
  | .udpPortWrite sess v => fitsIn 32 sess && fitsIn 64 v
  | .plcaNodeIdWrite sess v => fitsIn 32 sess && fitsIn 64 v
  | .plcaNodeCountWrite sess v => fitsIn 32 sess && fitsIn 64 v
  | .plcaTimerWrite sess v => fitsIn 32 sess && fitsIn 64 v
  | .plcaBurstCountWrite sess v => fitsIn 32 sess && fitsIn 64 v
  | .plcaBurstTimerWrite sess v => fitsIn 32 sess && fitsIn 64 v
  | .portEnableWrite sess v => fitsIn 32 sess && fitsIn 64 v
  | .sessionIdleTimeout _ => true
  | .powerGoodRise => true
  | .powerGoodFall _ => true
  | .resetNAssert _ => true
  | .resetNRelease => true
  | .strapSample _ => true
  | .rom _ _ => true
  | .imageCheck => true
  | .tierTest _ _ _ => true
  | .memTrain _ _ => true
  | .hostLink => true
  | .pitchLink => true
  | .pitchLinkTimeout => true
  | .readyEntry => true
  | .startupWatchdog => true
  | .phaseOverMax _ => true
  | .stage sess => fitsIn 32 sess
  | .stagingDone _ => true
  | .activateAtReset sess => fitsIn 32 sess
  | .activateLive sess => fitsIn 32 sess
  | .roleImageLoaded => true
  | .freezeWaitTimeout => true
  | .microcodeLoadDone _ => true
  | .abandon sess => fitsIn 32 sess
  | .quarantineRequest sess _ => fitsIn 32 sess
  | .quarantineWaitExpire _ => true
  | .quarantineRelease sess _ => fitsIn 32 sess
  | .coreSelfTestDone _ _ => true
  | .powerLoopIteration rails avsFail => (rails.length == 7 && avsFail.all (within 0 1))
  | .avsbusRaiseTimeout _ => true
  | .thermalLoopIteration _ _ => true
  | .clusterClockChange _ => true
  | .vrAlertAssert _ _ => true
  | .currentLimiterSample _ => true
  | .currentLimiterRelease => true
  | .sensorSample sensor _ => fitsIn 16 sensor
  | .whistle sess _ v => fitsIn 32 sess && fitsIn 64 v
  | .whistleNSample _ => true
  | .stopStepComplete => true
  | .stopStepBudgetExpire => true
  | .ownerPasswordEntry sess _ => fitsIn 32 sess
  | .lockoutExpire => true
  | .newOwnerPassword sess _ => fitsIn 32 sess
  | .leaveLevel sess v => fitsIn 32 sess && fitsIn 64 v
  | .vendorScopeRequest sess v => fitsIn 32 sess && fitsIn 64 v
  | .vendorChallengeExpire => true
  | .vendorResponseLength sess v => fitsIn 32 sess && fitsIn 64 v
  | .testAccessEnable sess v => fitsIn 32 sess && fitsIn 64 v
  | .jtagEnable sess v => fitsIn 32 sess && fitsIn 64 v
  | .tokenRefill code => fitsIn 16 code
  | .burstWrite sess v => fitsIn 32 sess && fitsIn 64 v
  | .flashRingWrite _ => true
  | .flashRingRetry _ => true
  | .clearScorebook sess v => fitsIn 32 sess && fitsIn 64 v
  | .scorebookEraseDone => true
  | .frameLock _ lanes => within 0 2 lanes
  | .migrationDeferralExpire _ => true
  | .bookRebuildComplete _ => true
  | .benchHeartbeatLive => true

end Sys2Proof
end

