-- ==== Sys2Proof/Tests/Slice0.lean ====
section
/-! SUPPORT. Small states that meet the hypotheses of the statements, one theorem for each statement, and small tests of single commands. -/

open Sys2Proof Sys2Proof.Machine

namespace Sys2Proof.Tests

set_option maxRecDepth 100000
set_option exponentiation.threshold 4096

/-- Pages of context 0: sealed code at 0, data at 65536; a device in READY; thread 0 of core 0 in RUN at pc 8. -/
def codePage : Page := { base := 0, sealed := true, wr := false, direct := true }
def dataPage : Page := { base := 65536, direct := true }
def ready : State := {
  objs := [(objKey 0x1001 0, 0x70)]
  dev := { phase := 0x70, pwrgd := true, resetN := true, straps := some 0 }
  keeper := { pages := [(0, some codePage), (1, some dataPage)] } }
def th : Thread := { st := .run, pc := 8, s := [(1, 5), (2, 0xFFFFFFFFFFFFFFFF), (3, 65536)], spSize := 1, seMask := 0xFF }
def code0 : NcLine := { line := 0 }
def run : State := { ready with cores := [(0, { threads := [(0, th)], ic := [code0] })] }
def withTh (x : Thread) : State := { ready with cores := [(0, { threads := [(0, x)], ic := [code0] })] }
def withCore (k : Core) : State := { ready with cores := [(0, { k with threads := [(0, th)], ic := [code0] })] }

def noLine : State := { ready with cores := [(0, { threads := [(0, th)] })] }
def full : State := withCore { far := List.replicate 48 { stage := .slotted } }

theorem meets_ScalarArithmeticWritesDestination (h : Obligations.ScalarArithmeticWritesDestination) :
    type_of% ((h run 0 0).1 { d := 1, a := 1, b := 2 } (by decide)) ∧
    type_of% ((h run 0 0).2.1 { d := 1, a := 1, imm := 0xFFFFFFFF } (by decide)) ∧
    type_of% ((h run 0 0).2.2 { d := 0, imm := 0x80000000 } (by decide)) :=
  ⟨(h run 0 0).1 { d := 1, a := 1, b := 2 } (by decide),
    (h run 0 0).2.1 { d := 1, a := 1, imm := 0xFFFFFFFF } (by decide),
    (h run 0 0).2.2 { d := 0, imm := 0x80000000 } (by decide)⟩

theorem meets_PredicatesAndControlRegisters (h : Obligations.PredicatesAndControlRegisters) :
    type_of% ((h run 0 0).1 { d := 7, a := 1, b := 2, fn := 5 } (by decide)) ∧
    type_of% ((h run 0 0).2.1 { d := 1, a := 1, fn := 2, imm := 5 } (by decide)) ∧
    type_of% ((h run 0 0).2.2.1 { d := 1, a := 0, b := 1, fn := 3 } (by decide)) ∧
    type_of% ((h run 0 0).2.2.2.1 { d := 1, imm := 8 } _ (by decide) rfl) ∧
    type_of% ((h run 0 0).2.2.2.2 { a := 1, imm := 8 } (by decide) rfl) :=
  ⟨(h run 0 0).1 { d := 7, a := 1, b := 2, fn := 5 } (by decide),
    (h run 0 0).2.1 { d := 1, a := 1, fn := 2, imm := 5 } (by decide),
    (h run 0 0).2.2.1 { d := 1, a := 0, b := 1, fn := 3 } (by decide),
    (h run 0 0).2.2.2.1 { d := 1, imm := 8 } _ (by decide) rfl,
    (h run 0 0).2.2.2.2 { a := 1, imm := 8 } (by decide) rfl⟩

theorem meets_ControlFlowAndThreadEnd (h : Obligations.ControlFlowAndThreadEnd) :
    type_of% ((h run 0 0).1 {} (by decide)) ∧
    type_of% ((h noLine 0 0).2.1 {} rfl (by decide) (by decide) (by decide) (by decide)) ∧
    type_of% ((h run 0 0).2.2.1 { imm := 0xFFFFFFFF } (by decide)) ∧
    type_of% ((h run 0 0).2.2.2.1 { d := 1, imm := 2 } (by decide)) ∧
    type_of% ((h (withTh { th with s := [(1, 64)] }) 0 0).2.2.2.2.1 { a := 1 } (by decide) (by decide)) ∧
    type_of% ((h run 0 0).2.2.2.2.2.1 { fn := 3 } (by decide) (by decide)) ∧
    type_of% ((h run 0 0).2.2.2.2.2.2.1 {} (by decide)) ∧
    type_of% ((h { withTh { th with ending := true, st := .park, seq := 1 } with sched := { slots := [(1, some { live := [(0, 0), (0, 1)] })] } } 0 0).2.2.2.2.2.2.2 _ rfl (by decide) (by decide) rfl (by decide) (by decide)) :=
  ⟨(h run 0 0).1 {} (by decide),
    (h noLine 0 0).2.1 {} rfl (by decide) (by decide) (by decide) (by decide),
    (h run 0 0).2.2.1 { imm := 0xFFFFFFFF } (by decide),
    (h run 0 0).2.2.2.1 { d := 1, imm := 2 } (by decide),
    (h (withTh { th with s := [(1, 64)] }) 0 0).2.2.2.2.1 { a := 1 } (by decide) (by decide),
    (h run 0 0).2.2.2.2.2.1 { fn := 3 } (by decide) (by decide),
    (h run 0 0).2.2.2.2.2.2.1 {} (by decide),
    (h { withTh { th with ending := true, st := .park, seq := 1 } with sched := { slots := [(1, some { live := [(0, 0), (0, 1)] })] } } 0 0).2.2.2.2.2.2.2 _ rfl (by decide) (by decide) rfl (by decide) (by decide)⟩

theorem meets_VectorLanesWriteGuardedLanes (h : Obligations.VectorLanesWriteGuardedLanes) :
    type_of% ((h run 0 0 { d := 1, a := 2, b := 3, fn := 0x6000 }).1 (by decide)) ∧
    type_of% ((h run 0 0 { d := 1, a := 2 }).2.1 (by decide)) ∧
    type_of% ((h run 0 0 { d := 1, a := 2, b := 3, c := 4 }).2.2.1 (by decide)) ∧
    type_of% ((h run 0 0 { d := 1, a := 2, b := 3 }).2.2.2.1 (by decide)) ∧
    type_of% ((h run 0 0 { d := 1, a := 2 }).2.2.2.2 (by decide)) :=
  ⟨(h run 0 0 { d := 1, a := 2, b := 3, fn := 0x6000 }).1 (by decide),
    (h run 0 0 { d := 1, a := 2 }).2.1 (by decide),
    (h run 0 0 { d := 1, a := 2, b := 3, c := 4 }).2.2.1 (by decide),
    (h run 0 0 { d := 1, a := 2, b := 3 }).2.2.2.1 (by decide),
    (h run 0 0 { d := 1, a := 2 }).2.2.2.2 (by decide)⟩

theorem meets_VectorComparesSelectsReducesConverts (h : Obligations.VectorComparesSelectsReducesConverts) :
    type_of% ((h run 0 0 { d := 1, a := 2, b := 3 }).1 (by decide) (by decide)) ∧
    type_of% ((h run 0 0 { d := 1, a := 2, b := 3, c := 7 }).2.1 (by decide)) ∧
    type_of% ((h run 0 0 { d := 1, a := 2, fn := 0xA800 }).2.2.1 (by decide)) ∧
    type_of% ((h run 0 0 { d := 1, a := 1, fn := 0x2000 }).2.2.2.1 (by decide)) ∧
    type_of% ((h run 0 0 { d := 1, a := 1, b := 1, fn := 0xA000 }).2.2.2.2.1 (by decide) (by decide)) ∧
    type_of% ((h run 0 0 { d := 1, a := 2, b := 1, c := 2, fn := 0x0200 }).2.2.2.2.2 (by decide) (by decide) (by decide) (by decide) (by decide)) :=
  ⟨(h run 0 0 { d := 1, a := 2, b := 3 }).1 (by decide) (by decide),
    (h run 0 0 { d := 1, a := 2, b := 3, c := 7 }).2.1 (by decide),
    (h run 0 0 { d := 1, a := 2, fn := 0xA800 }).2.2.1 (by decide),
    (h run 0 0 { d := 1, a := 1, fn := 0x2000 }).2.2.2.1 (by decide),
    (h run 0 0 { d := 1, a := 1, b := 1, fn := 0xA000 }).2.2.2.2.1 (by decide) (by decide),
    (h run 0 0 { d := 1, a := 2, b := 1, c := 2, fn := 0x0200 }).2.2.2.2.2 (by decide) (by decide) (by decide) (by decide) (by decide)⟩

theorem meets_ScratchpadAccessesMoveBytes (h : Obligations.ScratchpadAccessesMoveBytes) :
    type_of% ((h (withTh { th with s := [(1, 65528)] }) 0 0).1 { d := 2, a := 1, fn := 7 } (by decide) (by decide) (by decide) (by decide)) ∧
    type_of% ((h (withTh { th with s := [(1, 65535), (2, 0xFFFF)] }) 0 0).2.1 { d := 2, a := 1, fn := 0 } (by decide) (by decide) (by decide) (by decide)) ∧
    type_of% ((h (withTh { th with s := [(1, 65528), (2, 3)] }) 0 0).2.2.1 { d := 2, a := 1, b := 2, fn := 0 } (by decide) (by decide) (by decide) (by decide) (by decide)) ∧
    type_of% ((h (withTh { th with s := [(1, 65280)] }) 0 0).2.2.2 { d := 2, a := 1 } (by decide) (by decide) (by decide)) :=
  ⟨(h (withTh { th with s := [(1, 65528)] }) 0 0).1 { d := 2, a := 1, fn := 7 } (by decide) (by decide) (by decide) (by decide),
    (h (withTh { th with s := [(1, 65535), (2, 0xFFFF)] }) 0 0).2.1 { d := 2, a := 1, fn := 0 } (by decide) (by decide) (by decide) (by decide),
    (h (withTh { th with s := [(1, 65528), (2, 3)] }) 0 0).2.2.1 { d := 2, a := 1, b := 2, fn := 0 } (by decide) (by decide) (by decide) (by decide) (by decide),
    (h (withTh { th with s := [(1, 65280)] }) 0 0).2.2.2 { d := 2, a := 1 } (by decide) (by decide) (by decide)⟩

theorem meets_FarRequestsTakeSlots (h : Obligations.FarRequestsTakeSlots) :
    type_of% (((h run 0 0).1 { d := 1, a := 3, imm := 8 } (by decide) (by decide)).2 (by decide)) ∧
    type_of% (((h full 0 0).1 { d := 1, a := 3, imm := 8 } (by decide) (by decide)).1 (by decide)) ∧
    type_of% ((h run 0 0).2.1 { d := 1, a := 3, b := 2, c := 1, fn := 2 } (by decide) (by decide) (by decide)) ∧
    type_of% ((h run 0 0).2.2.1 { d := 1, a := 3 } (by decide) (by decide) (by decide)) ∧
    type_of% ((h run 0 0).2.2.2.1 { a := 3, imm := 4096 } (by decide) (by decide)) ∧
    type_of% (((h (withTh { th with s := [(1, 64)] }) 0 0).2.2.2.2.1 { d := 2, a := 1 } (by decide)).1 (by decide) (by decide) (by decide) (by decide)) ∧
    type_of% (((h (withTh { th with why := .wtw true 65536 5 0 true, s := [(1, 5), (3, 65536)] }) 0 0).2.2.2.2.1 { d := 1, a := 3, fn := 4 } (by decide)).2 (by decide) (by decide)) ∧
    type_of% ((h (withTh { th with st := .park, why := .wtw true 65536 5 0 false }) 0 0).2.2.2.2.2 65536 5 0 rfl rfl (by decide)) :=
  ⟨((h run 0 0).1 { d := 1, a := 3, imm := 8 } (by decide) (by decide)).2 (by decide),
    ((h full 0 0).1 { d := 1, a := 3, imm := 8 } (by decide) (by decide)).1 (by decide),
    (h run 0 0).2.1 { d := 1, a := 3, b := 2, c := 1, fn := 2 } (by decide) (by decide) (by decide),
    (h run 0 0).2.2.1 { d := 1, a := 3 } (by decide) (by decide) (by decide),
    (h run 0 0).2.2.2.1 { a := 3, imm := 4096 } (by decide) (by decide),
    ((h (withTh { th with s := [(1, 64)] }) 0 0).2.2.2.2.1 { d := 2, a := 1 } (by decide)).1 (by decide) (by decide) (by decide) (by decide),
    ((h (withTh { th with why := .wtw true 65536 5 0 true, s := [(1, 5), (3, 65536)] }) 0 0).2.2.2.2.1 { d := 1, a := 3, fn := 4 } (by decide)).2 (by decide) (by decide),
    (h (withTh { th with st := .park, why := .wtw true 65536 5 0 false }) 0 0).2.2.2.2.2 65536 5 0 rfl rfl (by decide)⟩

/-- The thread holds the array; its window is 128 KiB. -/
def holder : Core := { claim := some 0 }
def th2 : Thread := { th with spSize := 2 }
def held (k : Core) : State := { ready with cores := [(0, { k with claim := some 0, threads := [(0, th2)], ic := [code0] })] }
def oneRow : List Byte := List.replicate 64 0
/-- A stream descriptor of a 256 B row in scratchpad at 4096 to or from far address 65536. -/
def row : StreamDesc := { sp := 4096, far := 65536, n0 := 256, n1 := 1, n2 := 1 }
def gat : StreamDesc := { row with op := 2, idx := 8192 }
def engine (d : StreamDesc) : State := withCore { se := [(0, { queue := [d, { d with far := 0 }] })] }

theorem meets_ArrayClaimAndConfiguration (h : Obligations.ArrayClaimAndConfiguration) :
    type_of% (((h run 0 0).1 {} (by decide)).2.1 rfl rfl) ∧
    type_of% (((h (held {}) 0 0).1 {} (by decide)).1 (by decide)) ∧
    type_of% (((h (withCore { claim := some 1 }) 0 0).1 {} (by decide)).2.2.1 1 rfl (by decide) (by decide)) ∧
    type_of% (((h (held {}) 0 0).1 {} (by decide)).2.2.2.1 (by decide) (by decide)) ∧
    type_of% (((h (held {}) 0 0).1 {} (by decide)).2.2.2.2 (by decide) (by decide)) ∧
    type_of% ((h (withCore { claimQ := [3, 5] }) 0 0).2.1 _ _ rfl rfl) ∧
    type_of% ((h (held {}) 0 0).2.2 { a := 0 } (by decide) (by decide) (by decide) (by decide)) :=
  ⟨((h run 0 0).1 {} (by decide)).2.1 rfl rfl,
    ((h (held {}) 0 0).1 {} (by decide)).1 (by decide),
    ((h (withCore { claim := some 1 }) 0 0).1 {} (by decide)).2.2.1 1 rfl (by decide) (by decide),
    ((h (held {}) 0 0).1 {} (by decide)).2.2.2.1 (by decide) (by decide),
    ((h (held {}) 0 0).1 {} (by decide)).2.2.2.2 (by decide) (by decide),
    (h (withCore { claimQ := [3, 5] }) 0 0).2.1 _ _ rfl rfl,
    (h (held {}) 0 0).2.2 { a := 0 } (by decide) (by decide) (by decide) (by decide)⟩

theorem meets_WeightsAndMatrixIssue (h : Obligations.WeightsAndMatrixIssue) :
    type_of% ((h (held {}) 0 0).1 { fw := 0x01, pr := true, wt := 2 } (by decide) (by decide) (by decide) (by decide)) ∧
    type_of% ((h (held {}) 0 0).1 { fw := 0x0D, wt := 3 } (by decide) (by decide) (by decide) (by decide)) ∧
    type_of% (((h (held { wts := [(0, { loaded := true, fmt := 4 })] }) 0 0).2.1 { fa := 4, ow := true } (by decide) (by decide) (by decide) (by decide)).1 (by decide)) ∧
    type_of% (((h (held { wts := [(0, { loaded := true, fmt := 14, pr := true }), (1, { loaded := true, fmt := 14, pr := true })] }) 0 0).2.1 { fa := 14, ow := true, pa := true, set := 7 } (by decide) (by decide) (by decide) (by decide)).2 (by decide)) ∧
    type_of% ((h (held { mcfg := 0x0000800000000000 }) 0 0).2.2 { a := 0, b := 0 } (by decide) (by decide) (by decide) (by decide) (by decide) (by decide) (by decide) (by decide) (by decide) (by decide) rfl) :=
  ⟨(h (held {}) 0 0).1 { fw := 0x01, pr := true, wt := 2 } (by decide) (by decide) (by decide) (by decide),
    (h (held {}) 0 0).1 { fw := 0x0D, wt := 3 } (by decide) (by decide) (by decide) (by decide),
    ((h (held { wts := [(0, { loaded := true, fmt := 4 })] }) 0 0).2.1 { fa := 4, ow := true } (by decide) (by decide) (by decide) (by decide)).1 (by decide),
    ((h (held { wts := [(0, { loaded := true, fmt := 14, pr := true }), (1, { loaded := true, fmt := 14, pr := true })] }) 0 0).2.1 { fa := 14, ow := true, pa := true, set := 7 } (by decide) (by decide) (by decide) (by decide)).2 (by decide),
    (h (held { mcfg := 0x0000800000000000 }) 0 0).2.2 { a := 0, b := 0 } (by decide) (by decide) (by decide) (by decide) (by decide) (by decide) (by decide) (by decide) (by decide) (by decide) rfl⟩

theorem meets_MatrixResultsReachTheirSets (h : Obligations.MatrixResultsReachTheirSets) :
    type_of% (((h (held { mmaQ := [{ set := 1, ow := true, sums := [] }] }) 0).1 _ _ rfl (by decide)).2 (by decide)) ∧
    type_of% (((h (held { mcfg := 0x200000200, mmaQ := [{ set := 1, ow := true, sums := [] }] }) 0).1 _ _ rfl (by decide)).1 (by decide) rfl) ∧
    type_of% ((h (held { sideQ := [{ set := 1 }, { set := 2 }] }) 0).2 1 (by decide) rfl (by decide)) :=
  ⟨((h (held { mmaQ := [{ set := 1, ow := true, sums := [] }] }) 0).1 _ _ rfl (by decide)).2 (by decide),
    ((h (held { mcfg := 0x200000200, mmaQ := [{ set := 1, ow := true, sums := [] }] }) 0).1 _ _ rfl (by decide)).1 (by decide) rfl,
    (h (held { sideQ := [{ set := 1 }, { set := 2 }] }) 0).2 1 (by decide) rfl (by decide)⟩

theorem meets_ArraySideInstructionsEnterTheQueue (h : Obligations.ArraySideInstructionsEnterTheQueue) :
    type_of% (((h (held { accs := [(1, { empty := false })], mcfg := 0x0000000200000000 }) 0 0 { set := 1, a := 0, off := 1 } (by decide) (by decide)).1 (by decide)).1 (by decide) (by decide) (by decide)) ∧
    type_of% (((h (held { accs := [(1, { empty := false })], mcfg := 0x0004000000000000 }) 0 0 { set := 1 } (by decide) (by decide)).1 (by decide)).2.1 (by decide) (by decide) (by decide)) ∧
    type_of% (((h (held {}) 0 0 { n := 256 } (by decide) (by decide)).1 (by decide)).2.2 (by decide) (by decide) (by decide) (by decide) (by decide)) ∧
    type_of% (((h (held {}) 0 0 { n := 256, m := 32 } (by decide) (by decide)).2 (by decide)).1 (by decide) (by decide) (by decide)) ∧
    type_of% (((h (held { accs := [(1, { empty := false })] }) 0 0 { set := 1, a := 1, n := 32 } (by decide) (by decide)).2 (by decide)).2.1 (by decide) (by decide) (by decide) (by decide) (by decide) (by decide)) ∧
    type_of% (((h (held {}) 0 0 { a := 0 } (by decide) (by decide)).2 (by decide)).2.2 (by decide) (by decide) (by decide)) :=
  ⟨((h (held { accs := [(1, { empty := false })], mcfg := 0x0000000200000000 }) 0 0 { set := 1, a := 0, off := 1 } (by decide) (by decide)).1 (by decide)).1 (by decide) (by decide) (by decide),
    ((h (held { accs := [(1, { empty := false })], mcfg := 0x0004000000000000 }) 0 0 { set := 1 } (by decide) (by decide)).1 (by decide)).2.1 (by decide) (by decide) (by decide),
    ((h (held {}) 0 0 { n := 256 } (by decide) (by decide)).1 (by decide)).2.2 (by decide) (by decide) (by decide) (by decide) (by decide),
    ((h (held {}) 0 0 { n := 256, m := 32 } (by decide) (by decide)).2 (by decide)).1 (by decide) (by decide) (by decide),
    ((h (held { accs := [(1, { empty := false })] }) 0 0 { set := 1, a := 1, n := 32 } (by decide) (by decide)).2 (by decide)).2.1 (by decide) (by decide) (by decide) (by decide) (by decide) (by decide),
    ((h (held {}) 0 0 { a := 0 } (by decide) (by decide)).2 (by decide)).2.2 (by decide) (by decide) (by decide)⟩

theorem meets_ArraySideInstructionsExecute (h : Obligations.ArraySideInstructionsExecute) :
    type_of% ((h (held { aq := [.drain 1 {} 8], accs := [(1, { empty := false })] }) 0 8 [] (by decide) (by decide)).1 1 {} rfl rfl (by decide)) ∧
    type_of% ((h (held { aq := [.spill 1 8], accs := [(1, { empty := false, count := 3 })] }) 0 8 [] (by decide) (by decide)).2.1 1 rfl rfl) ∧
    type_of% ((h (held { aq := [.tkMrg 4096 2 8], tk := { k := 2, rows := 1 } }) 0 8 [] (by decide) (by decide)).2.2 _ _ rfl (by decide)) :=
  ⟨(h (held { aq := [.drain 1 {} 8], accs := [(1, { empty := false })] }) 0 8 [] (by decide) (by decide)).1 1 {} rfl rfl (by decide),
    (h (held { aq := [.spill 1 8], accs := [(1, { empty := false, count := 3 })] }) 0 8 [] (by decide) (by decide)).2.1 1 rfl rfl,
    (h (held { aq := [.tkMrg 4096 2 8], tk := { k := 2, rows := 1 } }) 0 8 [] (by decide) (by decide)).2.2 _ _ rfl (by decide)⟩

theorem meets_StreamsMoveAndComplete (h : Obligations.StreamsMoveAndComplete) :
    type_of% (((h run 0).1 0 { a := 0, fn := 7 } (by decide) (by decide)).1 (by decide) (by decide) (by decide) (by decide) (by decide) (by decide)) ∧
    type_of% (((h run 0).1 0 { d := 1, a := 0, fn := 1 } (by decide) (by decide)).2.1 (by decide) (by decide)) ∧
    type_of% (((h run 0).1 0 { d := 1, fn := 1 } (by decide) (by decide)).2.2 (by decide)) ∧
    type_of% (((h (engine row) 0).2.1 0 row rfl).1 [] none [] (by decide) (by decide) (by decide)) ∧
    type_of% (((h (engine { row with op := 1 }) 0).2.1 0 { row with op := 1 } rfl).2.1 (by decide) rfl (by decide) rfl rfl (by decide) _ (by decide) (by decide) rfl (by decide) (by decide) (by decide) (by decide) (by decide)) ∧
    type_of% (((h (engine { row with op := 3, far := 64 }) 0).2.1 0 { row with op := 3, far := 64 } rfl).2.2.1 (by decide)) ∧
    type_of% (((h (withCore { sp := [(8192, 1)], se := [(0, { queue := [gat] })] }) 0).2.1 0 gat rfl).2.2.2.1 [] none [] (by decide) (by decide) (by decide)) ∧
    type_of% (((h (withCore { sp := [(8192, 1)], se := [(0, { queue := [gat] })] }) 0).2.1 0 gat rfl).2.2.2.2 [] none [] (by decide) rfl (by decide)) ∧
    type_of% ((h (engine { row with moved := true }) 0).2.2.1 0 _ _ rfl rfl (by decide)) ∧
    type_of% ((h (engine row) 0).2.2.2 0 _ _ 0x05 rfl (by decide) (by decide) rfl) :=
  ⟨((h run 0).1 0 { a := 0, fn := 7 } (by decide) (by decide)).1 (by decide) (by decide) (by decide) (by decide) (by decide) (by decide),
    ((h run 0).1 0 { d := 1, a := 0, fn := 1 } (by decide) (by decide)).2.1 (by decide) (by decide),
    ((h run 0).1 0 { d := 1, fn := 1 } (by decide) (by decide)).2.2 (by decide),
    ((h (engine row) 0).2.1 0 row rfl).1 [] none [] (by decide) (by decide) (by decide),
    ((h (engine { row with op := 1 }) 0).2.1 0 { row with op := 1 } rfl).2.1 (by decide) rfl (by decide) rfl rfl (by decide) _ (by decide) (by decide) rfl (by decide) (by decide) (by decide) (by decide) (by decide),
    ((h (engine { row with op := 3, far := 64 }) 0).2.1 0 { row with op := 3, far := 64 } rfl).2.2.1 (by decide),
    ((h (withCore { sp := [(8192, 1)], se := [(0, { queue := [gat] })] }) 0).2.1 0 gat rfl).2.2.2.1 [] none [] (by decide) (by decide) (by decide),
    ((h (withCore { sp := [(8192, 1)], se := [(0, { queue := [gat] })] }) 0).2.1 0 gat rfl).2.2.2.2 [] none [] (by decide) rfl (by decide),
    (h (engine { row with moved := true }) 0).2.2.1 0 _ _ rfl rfl (by decide),
    (h (engine row) 0).2.2.2 0 _ _ 0x05 rfl (by decide) (by decide) rfl⟩

def two (x : Thread) : State := { ready with cores := [(0, { lastRan := 0, threads := [(0, th), (1, x)], ic := [code0] })] }
def lone : Seq := { cores := 1, tpc := 1, win := 1 }
def relief : State := { withTh { th with st := .park, why := .stGo 0 } with sched := { waiting := [lone] } }
def fA : FmtA := { pg := 5, pn := true, d := 17, a := 3, b := 30, c := 9, fn := 0xABCD, res := 0x1234 }
def fI : FmtI := { pg := 5, pn := true, d := 17, a := 3, fn := 0x2AB, imm := 0x12345678 }
def fM : FmtM := { pg := 3, set := 5, wt := 2, a := 17, x := 9, fa := 14, ow := true, tr := true, sd := true, aoff := 0x5A5, res := 0x4321 }
def fW : FmtW := { pg := 3, wt := 2, pr := true, a := 17, x := 9, fw := 13, woff := 0x5A5, res := 0x21 }
def fQ : FmtQ := { pg := 3, set := 5, a := 17, n := 0x155, m := 0x2A, off := 0x5A5, res := 0x10001 }

theorem meets_ThreadsChangeStates (h : Obligations.ThreadsChangeStates) :
    type_of% ((h (two { st := .ready, pc := 8 }) 0).1 0 {} 1 (by decide) rfl rfl (by decide) rfl) ∧
    type_of% ((h (two { st := .park, why := .stGo 0 }) 0).2.1 1 0 rfl rfl (by decide) rfl rfl) ∧
    type_of% ((h (two { st := .ready, pc := 8 }) 0).2.2.1 0 1 (by decide) rfl (by decide) rfl rfl) ∧
    type_of% (((h (withTh { th with st := .park }) 0).2.2.2 (by decide) (by decide) rfl).1 rfl) ∧
    type_of% (((h relief 0).2.2.2 (by decide) (by decide) rfl).2 0 lone (by decide) (by decide)) :=
  ⟨(h (two { st := .ready, pc := 8 }) 0).1 0 {} 1 (by decide) rfl rfl (by decide) rfl,
    (h (two { st := .park, why := .stGo 0 }) 0).2.1 1 0 rfl rfl (by decide) rfl rfl,
    (h (two { st := .ready, pc := 8 }) 0).2.2.1 0 1 (by decide) rfl (by decide) rfl rfl,
    ((h (withTh { th with st := .park }) 0).2.2.2 (by decide) (by decide) rfl).1 rfl,
    ((h relief 0).2.2.2 (by decide) (by decide) rfl).2 0 lone (by decide) (by decide)⟩

theorem meets_RegisterZeroIsConstant (h : Obligations.RegisterZeroIsConstant) :
    type_of% ((h th 1 2 5 2 0xFFFFFFFFFFFF).2.2.2.2.1 (by decide)) ∧
    type_of% ((h th 1 2 5 2 0xFFFFFFFFFFFF).2.2.2.2.2.1 (by decide)) ∧
    type_of% ((h th 1 2 5 2 0xFFFFFFFFFFFF).2.2.2.2.2.2 33 (by decide)) :=
  ⟨(h th 1 2 5 2 0xFFFFFFFFFFFF).2.2.2.2.1 (by decide),
    (h th 1 2 5 2 0xFFFFFFFFFFFF).2.2.2.2.2.1 (by decide),
    (h th 1 2 5 2 0xFFFFFFFFFFFF).2.2.2.2.2.2 33 (by decide)⟩

theorem meets_EncodingFaultsAndGuardSkips (h : Obligations.EncodingFaultsAndGuardSkips) :
    type_of% ((h run 0 0).1 fA (0x1E, .iCmp 0 0 fA) (by decide)) ∧
    type_of% ((h run 0 0).2.1 fI (0x5E, .iVldf 0 0 fI) (by decide)) ∧
    type_of% ((h run 0 0).2.2.1 fM (0x66, .iMmaS2 0 0 fM []) (by decide)) ∧
    type_of% ((h run 0 0).2.2.2.1 fW (0x64, .iWtld 0 0 fW []) (by decide)) ∧
    type_of% ((h run 0 0).2.2.2.2.1 fQ (0x6D, .iTkOut 0 0 fQ none) (by decide)) ∧
    type_of% (((h run 0 0).2.2.2.2.2.1 0xFF123456789ABCDE).2 (by decide)) ∧
    type_of% (((h run 0 0).2.2.2.2.2.2 rfl (by decide) (by decide) (by decide) (by decide)).1 (by decide) rfl rfl |>.1 { res := 1 } (by decide)) ∧
    type_of% (((h run 0 0).2.2.2.2.2.2 rfl (by decide) (by decide) (by decide) (by decide)).1 (by decide) rfl rfl |>.2 {} 0xFF (by decide)) ∧
    type_of% (((h run 0 0).2.2.2.2.2.2 rfl (by decide) (by decide) (by decide) (by decide)).2 (by decide) |>.1 { pn := true, d := 1 } (by decide) (by decide)) ∧
    type_of% (((h run 0 0).2.2.2.2.2.2 rfl (by decide) (by decide) (by decide) (by decide)).2 (by decide) |>.2 { pg := 1, d := 1 } (by decide) (by decide)) :=
  ⟨(h run 0 0).1 fA (0x1E, .iCmp 0 0 fA) (by decide),
    (h run 0 0).2.1 fI (0x5E, .iVldf 0 0 fI) (by decide),
    (h run 0 0).2.2.1 fM (0x66, .iMmaS2 0 0 fM []) (by decide),
    (h run 0 0).2.2.2.1 fW (0x64, .iWtld 0 0 fW []) (by decide),
    (h run 0 0).2.2.2.2.1 fQ (0x6D, .iTkOut 0 0 fQ none) (by decide),
    ((h run 0 0).2.2.2.2.2.1 0xFF123456789ABCDE).2 (by decide),
    ((h run 0 0).2.2.2.2.2.2 rfl (by decide) (by decide) (by decide) (by decide)).1 (by decide) rfl rfl |>.1 { res := 1 } (by decide),
    ((h run 0 0).2.2.2.2.2.2 rfl (by decide) (by decide) (by decide) (by decide)).1 (by decide) rfl rfl |>.2 {} 0xFF (by decide),
    ((h run 0 0).2.2.2.2.2.2 rfl (by decide) (by decide) (by decide) (by decide)).2 (by decide) |>.1 { pn := true, d := 1 } (by decide) (by decide),
    ((h run 0 0).2.2.2.2.2.2 rfl (by decide) (by decide) (by decide) (by decide)).2 (by decide) |>.2 { pg := 1, d := 1 } (by decide) (by decide)⟩

/-- A page in HBM at 65536, and a far request of thread 1 to its first bytes; the leaf is cached. -/
def hbm (cls : Nat) : Page := { base := 65536, loc := 0, cls := cls }
def fr (k : FarKind) (st : FarStage) : FarReq := { id := 5, thread := 1, kind := k, addr := 65536, dest := 3, stage := st, data := List.replicate 8 7, mask := 3 }
def cached : Column := { lines := [{ line := 16, bank := 16, valid := 0xFFFF }] }
def farOf (p : Page) (r : FarReq) (col : Column) : State :=
  let s : State := { ready with
    keeper := { pages := [(0, some codePage), (1, some p)] }
    cores := [(0, { threads := [(0, th), (1, { th with st := .park })], far := [r], tlb := [1] })] }
  s.setCol (p.homeCol 65536) col
def hinted (p : Page) (dead : Bool) : State := { farOf p (fr .ld .slotted) {} with
  cores := [(0, { hints := [(dead, 0, 65536, 4096)] })], mem := [(65535, 1), (65536, 2), (69631, 3), (69632, 4)] }
def sess : Session := { isOpen := true, level := 2 }
def admin : State := { ready with mgmt := { sessions := [(0, sess), (1, sess), (2, sess), (3, sess)], mbSession := sess } }
def hotPage : Page := { base := 131072, loc := 2, place := 2 * 2 ^ 23 + 3 * 2 ^ 16 }
def hotBank : State := { ready with
  keeper := { pages := [(0, some codePage), (1, some (hbm 0)), (2, some hotPage)], capWaits := [(0, 1)] }
  objs := [(objKey 0x2410 0x0D, 10), (objKey 0x3000 0x17, 5)], cols := [(2, { accesses := [(3, 11)] })] }

theorem meets_FarRequestsComplete (h : Obligations.FarRequestsComplete) :
    type_of% ((h (farOf (hbm 0) (fr .ld .waiting) {}) 0).1.1 (fr .ld .waiting) (by decide) (by decide)) ∧
    type_of% ((h (engine row) 0).1.2 0 (by decide)) ∧
    type_of% ((h (farOf (hbm 0) (fr .ld .walking) {}) 0).2.1 5 _ _ rfl rfl (by decide) rfl (by decide)) ∧
    type_of% (((h (farOf (hbm 0) { fr .ld .walking with addr := 131072 } {}) 0).2.2.1 5 _ rfl rfl (by decide)).1 0x05 (by decide) (by decide)) ∧
    type_of% (((h (farOf (hbm 0) (fr .ld .walking) {}) 0).2.2.1 5 _ rfl rfl (by decide)).2) ∧
    type_of% (((h (farOf (hbm 0) (fr .ld (.served [1, 2, 3, 4, 5, 6, 7, 8] 0)) {}) 0).2.2.2 5 _ _ rfl rfl rfl).1 rfl) ∧
    type_of% (((h (farOf (hbm 0) (fr .vld (.served (List.replicate 64 9) 0)) {}) 0).2.2.2 5 _ _ rfl rfl rfl).2.1 rfl) ∧
    type_of% (((h (farOf (hbm 0) (fr .vst (.served [] 0)) {}) 0).2.2.2 5 _ _ rfl rfl rfl).2.2.1 (Or.inr rfl)) ∧
    type_of% (((h (farOf (hbm 0) (fr (.amo 2 1 0) (.served [1, 2, 3, 4, 5, 6, 7, 8] 0)) {}) 0).2.2.2 5 _ _ rfl rfl rfl).2.2.2 2 1 0 rfl) :=
  ⟨(h (farOf (hbm 0) (fr .ld .waiting) {}) 0).1.1 (fr .ld .waiting) (by decide) (by decide),
    (h (engine row) 0).1.2 0 (by decide),
    (h (farOf (hbm 0) (fr .ld .walking) {}) 0).2.1 5 _ _ rfl rfl (by decide) rfl (by decide),
    ((h (farOf (hbm 0) { fr .ld .walking with addr := 131072 } {}) 0).2.2.1 5 _ rfl rfl (by decide)).1 0x05 (by decide) (by decide),
    ((h (farOf (hbm 0) (fr .ld .walking) {}) 0).2.2.1 5 _ rfl rfl (by decide)).2,
    ((h (farOf (hbm 0) (fr .ld (.served [1, 2, 3, 4, 5, 6, 7, 8] 0)) {}) 0).2.2.2 5 _ _ rfl rfl rfl).1 rfl,
    ((h (farOf (hbm 0) (fr .vld (.served (List.replicate 64 9) 0)) {}) 0).2.2.2 5 _ _ rfl rfl rfl).2.1 rfl,
    ((h (farOf (hbm 0) (fr .vst (.served [] 0)) {}) 0).2.2.2 5 _ _ rfl rfl rfl).2.2.1 (Or.inr rfl),
    ((h (farOf (hbm 0) (fr (.amo 2 1 0) (.served [1, 2, 3, 4, 5, 6, 7, 8] 0)) {}) 0).2.2.2 5 _ _ rfl rfl rfl).2.2.2 2 1 0 rfl⟩

theorem meets_HomeServesRequests (h : Obligations.HomeServesRequests) :
    type_of% ((h (farOf (hbm 0) (fr .ld .slotted) cached) 0 5 _ _ rfl rfl (by decide) (by decide) (by decide) rfl (by decide) rfl rfl (by decide) rfl).1 rfl (by decide) (by decide)) ∧
    type_of% ((h (farOf (hbm 0) (fr .st .slotted) cached) 0 5 _ _ rfl rfl (by decide) (by decide) (by decide) rfl (by decide) rfl rfl (by decide) rfl).2.1 rfl (by decide) (by decide)) ∧
    type_of% ((h (farOf (hbm 0) (fr (.amo 4 5 7) .slotted) cached) 0 5 _ _ rfl rfl (by decide) (by decide) (by decide) rfl (by decide) rfl rfl (by decide) rfl).2.2 4 5 7 rfl (by decide)) :=
  ⟨(h (farOf (hbm 0) (fr .ld .slotted) cached) 0 5 _ _ rfl rfl (by decide) (by decide) (by decide) rfl (by decide) rfl rfl (by decide) rfl).1 rfl (by decide) (by decide),
    (h (farOf (hbm 0) (fr .st .slotted) cached) 0 5 _ _ rfl rfl (by decide) (by decide) (by decide) rfl (by decide) rfl rfl (by decide) rfl).2.1 rfl (by decide) (by decide),
    (h (farOf (hbm 0) (fr (.amo 4 5 7) .slotted) cached) 0 5 _ _ rfl rfl (by decide) (by decide) (by decide) rfl (by decide) rfl rfl (by decide) rfl).2.2 4 5 7 rfl (by decide)⟩

theorem meets_DeckMissesFillsAndHints (h : Obligations.DeckMissesFillsAndHints) :
    type_of% ((h (farOf (hbm 0) (fr .ld .slotted) { mshrs := [{ line := 16, need := 1 }], freeMshr := 63 })).1 ⟨(hbm 0).homeCol 65536, by decide⟩ 16 { line := 16, need := 1 } (by decide)) ∧
    type_of% ((h (farOf (hbm 0) (fr .ld .slotted) { retry := [(0, 5)] })).2.1 ⟨(hbm 0).homeCol 65536, by decide⟩ 0 5 _ _ (by decide) rfl rfl rfl (by decide) (by decide) (by decide) rfl (by decide) (by decide) rfl (by decide) (by decide) (by decide) (by decide)) ∧
    type_of% ((h (hinted (hbm 4) true)).2.2.1 0 0 65536 _ (by decide) (by decide) (by decide) rfl (by decide) (by decide) rfl) ∧
    type_of% ((h (hinted (hbm 0) false)).2.2.2.1 0 0 65536 _ (by decide) (by decide) (by decide) rfl (by decide) (by decide) (by decide) (by decide) (by decide) (by decide) (by decide) (by decide) (by decide) (by decide) (by decide) (by decide)) ∧
    type_of% ((h (farOf (hbm 0) (fr .ld .slotted) { lines := [{ line := 16, remote := true }, { line := 17 }] })).2.2.2.2) :=
  ⟨(h (farOf (hbm 0) (fr .ld .slotted) { mshrs := [{ line := 16, need := 1 }], freeMshr := 63 })).1 ⟨(hbm 0).homeCol 65536, by decide⟩ 16 { line := 16, need := 1 } (by decide),
    (h (farOf (hbm 0) (fr .ld .slotted) { retry := [(0, 5)] })).2.1 ⟨(hbm 0).homeCol 65536, by decide⟩ 0 5 _ _ (by decide) rfl rfl rfl (by decide) (by decide) (by decide) rfl (by decide) (by decide) rfl (by decide) (by decide) (by decide) (by decide),
    (h (hinted (hbm 4) true)).2.2.1 0 0 65536 _ (by decide) (by decide) (by decide) rfl (by decide) (by decide) rfl,
    (h (hinted (hbm 0) false)).2.2.2.1 0 0 65536 _ (by decide) (by decide) (by decide) rfl (by decide) (by decide) (by decide) (by decide) (by decide) (by decide) (by decide) (by decide) (by decide) (by decide) (by decide) (by decide),
    (h (farOf (hbm 0) (fr .ld .slotted) { lines := [{ line := 16, remote := true }, { line := 17 }] })).2.2.2.2⟩

theorem meets_DeckSettingsAndBankRoles (h : Obligations.DeckSettingsAndBankRoles) :
    type_of% (((h admin).1 1 40).1 (by decide) (by decide)) ∧
    type_of% (((h admin).1 1 100).2.1 (by decide) (by decide)) ∧
    type_of% (((h admin).1 1 100).2.2.1 (by decide) (by decide)) ∧
    type_of% (((h { admin with cols := [(3, { lines := [{ bank := 18 }] })] }).1 1 97).2.2.2 1 (by decide) (by decide) rfl (by decide) (by decide) (by decide)) ∧
    type_of% (((h { ready with cols := [(3, { lines := [{ bank := 18 }, { bank := 19 }] })] }).2 3 1 1).1 2 (by decide) (by decide) (by decide) (by decide) (by decide) (by decide)) ∧
    type_of% (((h { ready with cols := [(3, { draining := [(18, 5)] })] }).2 3 1 1).2.1 5 [] (by decide) (by decide) (by decide) (by decide) (fun _ => Or.inl (by decide))) ∧
    type_of% ((((h { ready with cols := [(3, { winFills := 16384, winRefetch := 9000, depth := some 3 })] }).2 3 1 1).2.2.1 (by decide)).1 (by decide)) ∧
    type_of% ((((h { ready with cols := [(3, { winFills := 16384, winRefetch := 10, depth := some 3, calm := 3 })] }).2 3 1 1).2.2.1 (by decide)).2 (by decide) (by decide) rfl) ∧
    type_of% (((h hotBank).2 2 1 1).2.2.2 [] [(65536, 40)]) :=
  ⟨((h admin).1 1 40).1 (by decide) (by decide),
    ((h admin).1 1 100).2.1 (by decide) (by decide),
    ((h admin).1 1 100).2.2.1 (by decide) (by decide),
    ((h { admin with cols := [(3, { lines := [{ bank := 18 }] })] }).1 1 97).2.2.2 1 (by decide) (by decide) rfl (by decide) (by decide) (by decide),
    ((h { ready with cols := [(3, { lines := [{ bank := 18 }, { bank := 19 }] })] }).2 3 1 1).1 2 (by decide) (by decide) (by decide) (by decide) (by decide) (by decide),
    ((h { ready with cols := [(3, { draining := [(18, 5)] })] }).2 3 1 1).2.1 5 [] (by decide) (by decide) (by decide) (by decide) (fun _ => Or.inl (by decide)),
    (((h { ready with cols := [(3, { winFills := 16384, winRefetch := 9000, depth := some 3 })] }).2 3 1 1).2.2.1 (by decide)).1 (by decide),
    (((h { ready with cols := [(3, { winFills := 16384, winRefetch := 10, depth := some 3, calm := 3 })] }).2 3 1 1).2.2.1 (by decide)).2 (by decide) (by decide) rfl,
    ((h hotBank).2 2 1 1).2.2.2 [] [(65536, 40)]⟩

/-- The body of a descriptor from its fields: offset, bytes, value. -/
def body (fs : List (Nat × Nat × Nat)) : List Byte := leBytes 48 (fs.foldl (fun a f => a + f.2.2 * 2 ^ (8 * f.1)) 0)
def desc (op : Nat) (fs : List (Nat × Nat × Nat)) : Desc := { n := 3, op := op, ctx := 1, tag := 9, started := true, body := body fs }
def queue (d : Desc) : Queue := { ctl := 0x80040200, state := 1, p := 5, c := 4, d := 3, descs := [d] }
/-- Context 1 is open with two pages of its own, in HBM and in host slots; queue 2 holds a started descriptor. -/
def keep (d : Desc) (p : Page) : State := { ready with
  host := { busMaster := true, memSpace := true, pool := [(0, { slots := 8, state := 1, used := [4] })] }
  objs := [(objKey 0x1001 0, 0x70), (objKey 0x2400 2, 0xFF), (objKey 0x2400 7, 1), (objKey 0x2410 1, 100)]
  sched := { ctxs := [(1, some {})], queues := [(2, queue d)] }
  keeper := { pages := [(0, some codePage), (1, some p)], hbm := { total := 100, free := 90, allocated := 10 } } }
def pg (cls loc : Nat) : Page := { base := 65536, ctx := 1, cls := cls, loc := loc, place := if loc = 3 then 4 else 0 }
def offing (p : Page) : State := let s := keep (desc 0 []) p; { s with keeper := { s.keeper with
  offs := [{ page := 65536, slots := [5] }], hbm := { total := 100, free := 5, allocated := 95 } } }
def back : List Byte := List.replicate 65536 7
theorem get_one (k : Nat) (x d : W32) : Tab.get [(k, x)] d k = x := by simp [Tab.get]
def returning (crc : W32) : State := let s := keep (desc 0 []) (pg 2 3); { s with keeper := { s.keeper with
  rets := [{ page := 65536, loc := 0, frame := 6 }], hostCrc := [(4, crc)] } }
def moving (sw : Bool) : State := let s := keep (desc 0 []) (pg 0 0); { s with keeper := { s.keeper with
  migs := [{ page := 65536, loc := 0, place := 9, switched := sw }] } }
def waitsK : State := let s := keep (desc 0x30 [(0, 8, 70000), (16, 2, 0xFFFF), (20, 1, 1)]) (pg 0 0); { s with keeper := { s.keeper with
  allocWaits := [(2, 3)], keepWaits := [{ src := 7, tag := 5 }] } }
def noFrame (d : Desc) (p : Page) : State := { keep d p with objs := [(objKey 0x1001 0, 0x70), (objKey 0x2400 2, 0), (objKey 0x2400 7, 1)] }
def bigPg : Page := { base := 2097152, ctx := 1, big := true }
def movingBig : State := let s := keep (desc 0 []) (pg 0 0); ({ s with keeper := { s.keeper with
  migs := [{ page := 2097152, loc := 0, place := 64, frames := 32 }] } } : State).setPage bigPg

theorem meets_KeeperAllocatesFreesAndPins (h : Obligations.KeeperAllocatesFreesAndPins) :
    type_of% ((h (keep (desc 0x30 [(0, 8, 70000), (16, 2, 0xFFFF), (20, 1, 1)]) (pg 0 0)) 2 3 _).1 [] 131072 ⟨rfl, rfl, rfl⟩ (by decide) (by decide) (by decide) (by decide) (by decide)) ∧
    type_of% ((h (keep (desc 0x31 [(0, 8, 65536), (8, 8, 65536)]) (pg 0 0)) 2 3 _).2.1 [pg 0 0] ⟨rfl, rfl, rfl⟩ (by decide) (by decide) rfl rfl rfl (by decide)) ∧
    type_of% ((h (keep (desc 0x32 [(0, 8, 65536), (8, 8, 65536), (22, 1, 2)]) (pg 0 0)) 2 3 _).2.2.1 _ ⟨rfl, rfl, rfl⟩ rfl rfl rfl rfl) ∧
    type_of% ((h waitsK 2 3 _).2.2.2.1 ⟨rfl, rfl, rfl⟩ (by decide)) ∧
    type_of% ((h waitsK 2 3 (desc 0 [])).2.2.2.2 7 5 _ rfl) :=
  ⟨(h (keep (desc 0x30 [(0, 8, 70000), (16, 2, 0xFFFF), (20, 1, 1)]) (pg 0 0)) 2 3 _).1 [] 131072 ⟨rfl, rfl, rfl⟩ (by decide) (by decide) (by decide) (by decide) (by decide),
    (h (keep (desc 0x31 [(0, 8, 65536), (8, 8, 65536)]) (pg 0 0)) 2 3 _).2.1 [pg 0 0] ⟨rfl, rfl, rfl⟩ (by decide) (by decide) rfl rfl rfl (by decide),
    (h (keep (desc 0x32 [(0, 8, 65536), (8, 8, 65536), (22, 1, 2)]) (pg 0 0)) 2 3 _).2.2.1 _ ⟨rfl, rfl, rfl⟩ rfl rfl rfl rfl,
    (h waitsK 2 3 _).2.2.2.1 ⟨rfl, rfl, rfl⟩ (by decide),
    (h waitsK 2 3 (desc 0 [])).2.2.2.2 7 5 _ rfl⟩

theorem meets_HintsMoveTheirPage (h : Obligations.HintsMoveTheirPage) :
    type_of% (((h (keep (desc 0x33 [(0, 8, 65536), (8, 8, 65536)]) (pg 3 3)) 2 3 _ _ ⟨rfl, rfl, rfl⟩ (by decide) rfl).1 (by decide) rfl (by decide)).1 0 8388609 (by decide) (by decide)) ∧
    type_of% (((h (noFrame (desc 0x33 [(0, 8, 65536), (8, 8, 65536)]) (pg 3 3)) 2 3 _ _ ⟨rfl, rfl, rfl⟩ (by decide) rfl).1 (by decide) rfl (by decide)).2 (by decide)) ∧
    type_of% ((h (keep (desc 0x33 [(0, 8, 65536), (8, 8, 65536), (20, 1, 1)]) (pg 2 0)) 2 3 _ _ ⟨rfl, rfl, rfl⟩ (by decide) rfl).2.1 0 (by decide) (by decide) (by decide) (by decide) (by decide)) ∧
    type_of% ((h (keep (desc 0x33 [(0, 8, 65536), (8, 8, 65536), (20, 1, 2), (28, 4, 77)]) (pg 3 0)) 2 3 _ _ ⟨rfl, rfl, rfl⟩ (by decide) rfl).2.2.1 (by decide)) ∧
    type_of% ((h { (keep (desc 0x33 [(0, 8, 65536), (8, 8, 65536), (20, 1, 3)]) (pg 3 0)) with keeper := { pages := [(1, some { (pg 3 0) with okey := 9 }), (2, some { (pg 3 3) with base := 131072, okey := 8 })], hbm := { total := 100, free := 90, allocated := 10 } } } 2 3 _ _ ⟨rfl, rfl, rfl⟩ (by decide) rfl).2.2.2 _ 0 8388609 (by decide) rfl (by decide) rfl (by decide) (by decide)) :=
  ⟨((h (keep (desc 0x33 [(0, 8, 65536), (8, 8, 65536)]) (pg 3 3)) 2 3 _ _ ⟨rfl, rfl, rfl⟩ (by decide) rfl).1 (by decide) rfl (by decide)).1 0 8388609 (by decide) (by decide),
    ((h (noFrame (desc 0x33 [(0, 8, 65536), (8, 8, 65536)]) (pg 3 3)) 2 3 _ _ ⟨rfl, rfl, rfl⟩ (by decide) rfl).1 (by decide) rfl (by decide)).2 (by decide),
    (h (keep (desc 0x33 [(0, 8, 65536), (8, 8, 65536), (20, 1, 1)]) (pg 2 0)) 2 3 _ _ ⟨rfl, rfl, rfl⟩ (by decide) rfl).2.1 0 (by decide) (by decide) (by decide) (by decide) (by decide),
    (h (keep (desc 0x33 [(0, 8, 65536), (8, 8, 65536), (20, 1, 2), (28, 4, 77)]) (pg 3 0)) 2 3 _ _ ⟨rfl, rfl, rfl⟩ (by decide) rfl).2.2.1 (by decide),
    (h { (keep (desc 0x33 [(0, 8, 65536), (8, 8, 65536), (20, 1, 3)]) (pg 3 0)) with keeper := { pages := [(1, some { (pg 3 0) with okey := 9 }), (2, some { (pg 3 3) with base := 131072, okey := 8 })], hbm := { total := 100, free := 90, allocated := 10 } } } 2 3 _ _ ⟨rfl, rfl, rfl⟩ (by decide) rfl).2.2.2 _ 0 8388609 (by decide) rfl (by decide) rfl (by decide) (by decide)⟩

theorem meets_OffloadsAndReturns (h : Obligations.OffloadsAndReturns) :
    type_of% ((h { (offing (pg 2 0)) with keeper := { pages := [(1, some (pg 2 0))], hbm := { total := 100, free := 5, allocated := 95 } } } 65536 _ rfl).1 [0] (by decide) (by decide) rfl (by decide) (by decide) (by decide) (by decide) (by decide) (by decide)) ∧
    type_of% ((h { (offing (pg 2 0)) with keeper := { pages := [(1, some (pg 2 0))], offRun := true, hbm := { total := 100, free := 9, allocated := 91 } } } 65536 _ rfl).1 [0] (by decide) (by decide) rfl (by decide) (by decide) (by decide) (by decide) (by decide) (by decide)) ∧
    type_of% ((h (offing (pg 2 0)) 65536 _ rfl).2.1 _ rfl (by decide) (by decide) rfl rfl rfl rfl) ∧
    type_of% ((h (offing (pg 2 0)) 65536 _ rfl).2.2.1 _ rfl rfl) ∧
    type_of% (((h (returning (BitVec.ofNat 32 (crc32c back))) 65536 _ rfl).2.2.2.1 _ back rfl rfl rfl rfl rfl rfl rfl rfl).1 List.length_replicate (get_one 4 _ 0).symm) ∧
    type_of% (((h (returning 0) 65536 _ rfl).2.2.2.1 _ [] rfl rfl rfl rfl rfl rfl rfl rfl).2 rfl) ∧
    type_of% ((h (let s := keep (desc 0 []) (pg 0 0); { s with keeper := { s.keeper with winReturns := 1024, winWasted := 1000 } }) 65536 _ rfl).2.2.2.2 (by decide) (by decide)) :=
  ⟨(h { (offing (pg 2 0)) with keeper := { pages := [(1, some (pg 2 0))], hbm := { total := 100, free := 5, allocated := 95 } } } 65536 _ rfl).1 [0] (by decide) (by decide) rfl (by decide) (by decide) (by decide) (by decide) (by decide) (by decide),
    (h { (offing (pg 2 0)) with keeper := { pages := [(1, some (pg 2 0))], offRun := true, hbm := { total := 100, free := 9, allocated := 91 } } } 65536 _ rfl).1 [0] (by decide) (by decide) rfl (by decide) (by decide) (by decide) (by decide) (by decide) (by decide),
    (h (offing (pg 2 0)) 65536 _ rfl).2.1 _ rfl (by decide) (by decide) rfl rfl rfl rfl,
    (h (offing (pg 2 0)) 65536 _ rfl).2.2.1 _ rfl rfl,
    ((h (returning (BitVec.ofNat 32 (crc32c back))) 65536 _ rfl).2.2.2.1 _ back rfl rfl rfl rfl rfl rfl rfl rfl).1 List.length_replicate (get_one 4 _ 0).symm,
    ((h (returning 0) 65536 _ rfl).2.2.2.1 _ [] rfl rfl rfl rfl rfl rfl rfl rfl).2 rfl,
    (h (let s := keep (desc 0 []) (pg 0 0); { s with keeper := { s.keeper with winReturns := 1024, winWasted := 1000 } }) 65536 _ rfl).2.2.2.2 (by decide) (by decide)⟩

theorem meets_MigrationsAndFrameBooks (h : Obligations.MigrationsAndFrameBooks) :
    type_of% ((h (keep (desc 0 []) (pg 0 0))).1 65536 0 9 8388617 _ rfl rfl rfl (by decide) (by decide) (by decide) (by decide) (by decide)) ∧
    type_of% (((h movingBig).2.1 2097152 3 _ _ rfl).1 rfl rfl rfl (by decide)) ∧
    type_of% (((h (moving false)).2.1 65536 0 _ _ rfl).2.1 rfl rfl rfl (by decide)) ∧
    type_of% (((h (moving true)).2.1 65536 0 _ _ rfl).2.2 rfl (by decide) rfl rfl rfl rfl rfl rfl) ∧
    type_of% ((h (moving true)).2.2 2) ∧
    type_of% (((h (let s := keep (desc 0 []) (pg 0 0); { s with keeper := { s.keeper with hbm := { total := 2, free := 0, allocated := 2 } } })).2.2 2).2.2 (by decide)) ∧
    type_of% (((h (keep (desc 0 []) (pg 0 0))).2.2 2).2.2 (by decide)) :=
  ⟨(h (keep (desc 0 []) (pg 0 0))).1 65536 0 9 8388617 _ rfl rfl rfl (by decide) (by decide) (by decide) (by decide) (by decide),
    ((h movingBig).2.1 2097152 3 _ _ rfl).1 rfl rfl rfl (by decide),
    ((h (moving false)).2.1 65536 0 _ _ rfl).2.1 rfl rfl rfl (by decide),
    ((h (moving true)).2.1 65536 0 _ _ rfl).2.2 rfl (by decide) rfl rfl rfl rfl rfl rfl,
    (h (moving true)).2.2 2,
    ((h (let s := keep (desc 0 []) (pg 0 0); { s with keeper := { s.keeper with hbm := { total := 2, free := 0, allocated := 2 } } })).2.2 2).2.2 (by decide),
    ((h (keep (desc 0 []) (pg 0 0))).2.2 2).2.2 (by decide)⟩

theorem meets_PatrolRetirementAndEyes (h : Obligations.PatrolRetirementAndEyes) :
    type_of% ((h (keep (desc 0 []) (pg 0 0))).1 { sector := 1024, wrong := [(0, 1), (1, 1), (2, 1)] } _ rfl rfl (by decide) (by decide)) ∧
    type_of% ((h { ready with flash := { heldRetire := [{ seq := 1 }] } }).2.1) ∧
    type_of% ((h (keep (desc 0 []) (pg 0 0))).2.2 1 5 (by decide) (by decide)) :=
  ⟨(h (keep (desc 0 []) (pg 0 0))).1 { sector := 1024, wrong := [(0, 1), (1, 1), (2, 1)] } _ rfl rfl (by decide) (by decide),
    (h { ready with flash := { heldRetire := [{ seq := 1 }] } }).2.1,
    (h (keep (desc 0 []) (pg 0 0))).2.2 1 5 (by decide) (by decide)⟩

theorem meets_RetirementListIsConfirmedAndPruned (h : Obligations.RetirementListIsConfirmedAndPruned) :
    type_of% (((h { admin with flash := { retire := [{ seq := 1 }, { seq := 9 }] } } 1 4).1 (by decide)).1 (by decide)) ∧
    type_of% (((h { admin with flash := { retire := [{ seq := 1 }, { seq := 9 }] } } 1 10).1 (by decide)).2 (by decide) (by decide)) ∧
    type_of% (((h { admin with flash := { retire := [{ seq := 1 }, { seq := 9, confirmed := true }] } } 1 9).2.1 (by decide)).1 (by decide)) ∧
    type_of% (((h { admin with flash := { retire := [{ seq := 1 }, { seq := 9 }] } } 1 9).2.1 (by decide)).2 (by decide)) ∧
    type_of% ((h { admin with mgmt := { sessions := [(1, { sess with level := 0 })] } } 1 9).2.2.1 _ (by decide) rfl rfl) ∧
    type_of% ((h { dev := { straps := some 0 }, flash := { retire := [{ seq := 1 }, { seq := 9, confirmed := true }], removed := [9] } } 1 9).2.2.2.2 (some 30) [(1, 5)] (by decide) rfl (by decide)) :=
  ⟨((h { admin with flash := { retire := [{ seq := 1 }, { seq := 9 }] } } 1 4).1 (by decide)).1 (by decide),
    ((h { admin with flash := { retire := [{ seq := 1 }, { seq := 9 }] } } 1 10).1 (by decide)).2 (by decide) (by decide),
    ((h { admin with flash := { retire := [{ seq := 1 }, { seq := 9, confirmed := true }] } } 1 9).2.1 (by decide)).1 (by decide),
    ((h { admin with flash := { retire := [{ seq := 1 }, { seq := 9 }] } } 1 9).2.1 (by decide)).2 (by decide),
    (h { admin with mgmt := { sessions := [(1, { sess with level := 0 })] } } 1 9).2.2.1 _ (by decide) rfl rfl,
    (h { dev := { straps := some 0 }, flash := { retire := [{ seq := 1 }, { seq := 9, confirmed := true }], removed := [9] } } 1 9).2.2.2.2 (some 30) [(1, 5)] (by decide) rfl (by decide)⟩

def idleQ : State := keep (desc 0 []) (pg 0 0)
def withX (x : Queue) : State := { idleQ with sched := { idleQ.sched with queues := [(2, x)] } }
def next1 : Desc := { desc 0 [] with n := 4, started := false }
def cmd (op : Nat) (fs : List (Nat × Nat × Nat)) (f : Sched → Sched) : State :=
  let s := keep (desc op fs) (pg 0 0); { s with sched := f s.sched }
def tmpl : Seq := { ctx := 1, kind := 1, cores := 1, tpc := 1, win := 1, number := 2 }
def batch (n : Nat) : Batch := { cap := 100, rows := List.replicate n {}, cmds := [(2, 1)] }
def plain : Seq := { ctx := 1, pc := 64, arg := 7, cores := 1, tpc := 2, win := 1, prio := 2 }
def rowsCmd (n : Nat) (t : Seq) : State := cmd 0x12 [(0, 2, 6), (2, 1, n), (4, 8, 65536)] (fun x => { x with slots := [(6, some t)] })
def team : Layout := { squads := [0], league := 0 }
def snap : Snap := { ctx := 1, id := 4, src := 65536, size := 256, dst := 131072, cmd := (2, 3) }
def snapState : State := let s := cmd 0x28 [(0, 8, 65536), (8, 8, 256), (16, 2, 0xFFFF), (18, 1, 4)] (fun x => { x with snaps := [snap] }); { s with
  mem := [(65536, 1), (65537, 2)] }
def stopped1 : State := { withX { queue (desc 0 []) with descs := [{ desc 2 [] with started := false }] } with
  sched := { ctxs := [], queues := [(2, { queue (desc 0 []) with descs := [{ desc 2 [] with started := false }] })] } }
def closing : State := { cmd 2 [] (fun x => { x with snaps := [{ snap with ready := true }], tensors := [(2 ^ 32 + 5, 1)] }) with
  keeper := { pages := [(0, some codePage)] } }
def seqCmd (k : Nat) (f : Sched → Sched) : State := cmd 0x10 [(0, 8, 64), (8, 8, 9), (16, 1, k), (17, 1, 2), (18, 1, 3)] f
def ends (p : Pass) : State := { (cmd 0x20 [] (fun x => { x with ctxs := [(1, some { league := 0 })] })) with pass := p }
def pushingS : State := { ends { layout := some team, fstep := 4, decisions := [(0, true)] } with
  fabric := { links := [(3, { queued := [{ type := 0x20, payload := [3, 0, 0, 0, 0, 0, 0, 0] }] })] } }
def shipped : Snap := { snap with dev := 5, stage := 1 }
def shipState : State := { snapState with sched := { snapState.sched with snaps := [shipped] } }

theorem meets_QueuesTakeDescriptors (h : Obligations.QueuesTakeDescriptors) :
    type_of% (((h (withX {}) 2).1 0x80040200 (by decide) rfl rfl rfl (by decide)).1 (by decide)) ∧
    type_of% (((h (withX {}) 2).1 0x80000200 (by decide) rfl rfl rfl (by decide)).2 (by decide)) ∧
    type_of% (((h idleQ 2).2.1 0 (by decide) rfl rfl).1 (by decide) (by decide)) ∧
    type_of% (((h (withX {}) 2).2.1 0x100 (by decide) rfl rfl).2 (by decide) (by decide)) ∧
    type_of% (((h idleQ 2).2.2.1 100 rfl rfl rfl).1 (by decide)) ∧
    type_of% (((h idleQ 2).2.2.1 12 rfl rfl rfl).2 (by decide)) ∧
    type_of% (((h idleQ 2).2.2.2.1 (2, 1) rfl (by decide) (by decide) (by decide) (by decide) (by decide)).1) ∧
    type_of% (((h idleQ 2).2.2.2.1 (2, 1) rfl (by decide) (by decide) (by decide) (by decide) (by decide)).2 (leBytes 64 0x10002) _ _ (by decide) rfl (by decide) |>.2 (by decide) |>.1 (by decide) (by decide) (by decide) (by decide)) ∧
    type_of% (((h idleQ 2).2.2.2.1 (2, 1) rfl (by decide) (by decide) (by decide) (by decide) (by decide)).2 (leBytes 64 0x10003) _ _ (by decide) rfl (by decide) |>.2 (by decide) |>.2 (by decide)) ∧
    type_of% (((h (withX { queue (desc 0 []) with d := 2 }) 2).2.2.2.1 (2, 1) rfl (by decide) (by decide) (by decide) (by decide) (by decide)).2 (leBytes 64 0x10002) _ _ (by decide) rfl (by decide) |>.1 (by decide)) ∧
    type_of% (((h (withX { queue (desc 0 []) with descs := [desc 0 [], next1] }) 2).2.2.2.2 next1 rfl (by decide) (by decide)).1 (by decide)) ∧
    type_of% (((h stopped1 2).2.2.2.2 _ rfl (by decide) (by decide)).2 (by decide) (by decide) rfl rfl rfl) :=
  ⟨((h (withX {}) 2).1 0x80040200 (by decide) rfl rfl rfl (by decide)).1 (by decide),
    ((h (withX {}) 2).1 0x80000200 (by decide) rfl rfl rfl (by decide)).2 (by decide),
    ((h idleQ 2).2.1 0 (by decide) rfl rfl).1 (by decide) (by decide),
    ((h (withX {}) 2).2.1 0x100 (by decide) rfl rfl).2 (by decide) (by decide),
    ((h idleQ 2).2.2.1 100 rfl rfl rfl).1 (by decide),
    ((h idleQ 2).2.2.1 12 rfl rfl rfl).2 (by decide),
    ((h idleQ 2).2.2.2.1 (2, 1) rfl (by decide) (by decide) (by decide) (by decide) (by decide)).1,
    ((h idleQ 2).2.2.2.1 (2, 1) rfl (by decide) (by decide) (by decide) (by decide) (by decide)).2 (leBytes 64 0x10002) _ _ (by decide) rfl (by decide) |>.2 (by decide) |>.1 (by decide) (by decide) (by decide) (by decide),
    ((h idleQ 2).2.2.2.1 (2, 1) rfl (by decide) (by decide) (by decide) (by decide) (by decide)).2 (leBytes 64 0x10003) _ _ (by decide) rfl (by decide) |>.2 (by decide) |>.2 (by decide),
    ((h (withX { queue (desc 0 []) with d := 2 }) 2).2.2.2.1 (2, 1) rfl (by decide) (by decide) (by decide) (by decide) (by decide)).2 (leBytes 64 0x10002) _ _ (by decide) rfl (by decide) |>.1 (by decide),
    ((h (withX { queue (desc 0 []) with descs := [desc 0 [], next1] }) 2).2.2.2.2 next1 rfl (by decide) (by decide)).1 (by decide),
    ((h stopped1 2).2.2.2.2 _ rfl (by decide) (by decide)).2 (by decide) (by decide) rfl rfl rfl⟩

theorem meets_ContextsAndSequences (h : Obligations.ContextsAndSequences) :
    type_of% (((h idleQ).1 2 3 _).1 ⟨rfl, rfl, rfl⟩) ∧
    type_of% (((h (cmd 1 [(0, 4, 5), (4, 1, 2), (6, 2, 30)] (fun x => { x with ctxs := [] }))).1 2 3 _).2.1 ⟨rfl, rfl, rfl⟩ rfl) ∧
    type_of% (((h closing).1 2 3 _).2.2.1 ⟨rfl, rfl, rfl⟩) ∧
    type_of% (((h (cmd 3 [(0, 4, 5), (4, 1, 2)] id)).1 2 3 _).2.2.2.1 ⟨rfl, rfl, rfl⟩) ∧
    type_of% ((((h (cmd 0x10 [(0, 8, 64), (16, 1, 1), (17, 1, 1), (18, 1, 1), (20, 1, 1)] id)).1 2 3 _).2.2.2.2.1 ⟨rfl, rfl, rfl⟩ (by decide)).1 0 (by decide) (by decide)) ∧
    type_of% ((((h (seqCmd 0 id)).1 2 3 _).2.2.2.2.1 ⟨rfl, rfl, rfl⟩ (by decide)).2.1 (by decide) (Or.inl (by decide)) (by decide)) ∧
    type_of% ((((h (seqCmd 1 id)).1 2 3 _).2.2.2.2.1 ⟨rfl, rfl, rfl⟩ (by decide)).2.2 (by decide) (by decide) (by decide)) ∧
    type_of% ((((h (cmd 0x11 [(0, 2, 7)] (fun x => { x with slots := [(6, some plain)] }))).1 2 3 _).2.2.2.2.2 ⟨rfl, rfl, rfl⟩).1 (by decide)) ∧
    type_of% ((((h (cmd 0x11 [(0, 2, 6)] (fun x => { x with slots := [(6, some { tmpl with kind := 2 })] }))).1 2 3 _).2.2.2.2.2 ⟨rfl, rfl, rfl⟩).2.1 _ rfl (by decide) (by decide) (by decide)) ∧
    type_of% (((((h (cmd 0x11 [(0, 2, 6)] (fun x => { x with slots := [(6, some plain)] }))).1 2 3 _).2.2.2.2.2 ⟨rfl, rfl, rfl⟩).2.2 (by decide) _ rfl).1 rfl) ∧
    type_of% (((((h (cmd 0x11 [(0, 2, 6)] (fun x => { x with slots := [(6, some tmpl)] }))).1 2 3 _).2.2.2.2.2 ⟨rfl, rfl, rfl⟩).2.2 (by decide) _ rfl).2 rfl) ∧
    type_of% ((h (cmd 0 [] (fun x => { x with waiting := [plain] }))).2.1 0 0 _ [(0, [(0, 0, 0), (1, 1, 0)])] rfl (by decide) (by decide) (by decide) (by decide) (by decide) (by decide) (by decide)) ∧
    type_of% ((h (seqCmd 96 (fun x => { x with ctxs := [], waiting := [{ ctx := 1, pc := 64, cores := 1, tpc := 1, win := 1, cmds := [(2, 3)] }] }))).2.2.1 0 3 2 _ _ rfl (by decide) rfl rfl rfl (by decide) rfl rfl) ∧
    type_of% ((h (cmd 0 [] (fun x => { x with slots := [(6, some { plain with restarting := true, placed := [(0, 2, 0, 0), (1, 0, 0, 0)] })] }))).2.2.2 6 _ rfl rfl (by decide) (by decide)) :=
  ⟨((h idleQ).1 2 3 _).1 ⟨rfl, rfl, rfl⟩,
    ((h (cmd 1 [(0, 4, 5), (4, 1, 2), (6, 2, 30)] (fun x => { x with ctxs := [] }))).1 2 3 _).2.1 ⟨rfl, rfl, rfl⟩ rfl,
    ((h closing).1 2 3 _).2.2.1 ⟨rfl, rfl, rfl⟩,
    ((h (cmd 3 [(0, 4, 5), (4, 1, 2)] id)).1 2 3 _).2.2.2.1 ⟨rfl, rfl, rfl⟩,
    (((h (cmd 0x10 [(0, 8, 64), (16, 1, 1), (17, 1, 1), (18, 1, 1), (20, 1, 1)] id)).1 2 3 _).2.2.2.2.1 ⟨rfl, rfl, rfl⟩ (by decide)).1 0 (by decide) (by decide),
    (((h (seqCmd 0 id)).1 2 3 _).2.2.2.2.1 ⟨rfl, rfl, rfl⟩ (by decide)).2.1 (by decide) (Or.inl (by decide)) (by decide),
    (((h (seqCmd 1 id)).1 2 3 _).2.2.2.2.1 ⟨rfl, rfl, rfl⟩ (by decide)).2.2 (by decide) (by decide) (by decide),
    (((h (cmd 0x11 [(0, 2, 7)] (fun x => { x with slots := [(6, some plain)] }))).1 2 3 _).2.2.2.2.2 ⟨rfl, rfl, rfl⟩).1 (by decide),
    (((h (cmd 0x11 [(0, 2, 6)] (fun x => { x with slots := [(6, some { tmpl with kind := 2 })] }))).1 2 3 _).2.2.2.2.2 ⟨rfl, rfl, rfl⟩).2.1 _ rfl (by decide) (by decide) (by decide),
    ((((h (cmd 0x11 [(0, 2, 6)] (fun x => { x with slots := [(6, some plain)] }))).1 2 3 _).2.2.2.2.2 ⟨rfl, rfl, rfl⟩).2.2 (by decide) _ rfl).1 rfl,
    ((((h (cmd 0x11 [(0, 2, 6)] (fun x => { x with slots := [(6, some tmpl)] }))).1 2 3 _).2.2.2.2.2 ⟨rfl, rfl, rfl⟩).2.2 (by decide) _ rfl).2 rfl,
    (h (cmd 0 [] (fun x => { x with waiting := [plain] }))).2.1 0 0 _ [(0, [(0, 0, 0), (1, 1, 0)])] rfl (by decide) (by decide) (by decide) (by decide) (by decide) (by decide) (by decide),
    (h (seqCmd 96 (fun x => { x with ctxs := [], waiting := [{ ctx := 1, pc := 64, cores := 1, tpc := 1, win := 1, cmds := [(2, 3)] }] }))).2.2.1 0 3 2 _ _ rfl (by decide) rfl rfl rfl (by decide) rfl rfl,
    (h (cmd 0 [] (fun x => { x with slots := [(6, some { plain with restarting := true, placed := [(0, 2, 0, 0), (1, 0, 0, 0)] })] }))).2.2.2 6 _ rfl rfl (by decide) (by decide)⟩

theorem meets_BatchesStepsAndSnapshots (h : Obligations.BatchesStepsAndSnapshots) :
    type_of% (((h (rowsCmd 0 tmpl)).1 2 3 _ _ ⟨rfl, rfl, rfl⟩ (by decide) rfl (by decide) (by decide)).1 (by decide)) ∧
    type_of% (((h (rowsCmd 1 { tmpl with batch := some (batch 2) })).1 2 3 _ _ ⟨rfl, rfl, rfl⟩ (by decide) rfl (by decide) (by decide)).2.1 _ rfl (by decide) (by decide) (by decide)) ∧
    type_of% (((h (rowsCmd 1 tmpl)).1 2 3 _ _ ⟨rfl, rfl, rfl⟩ (by decide) rfl (by decide) (by decide)).2.2.1 rfl (by decide) (by decide) (by decide) (by decide)) ∧
    type_of% (((h { rowsCmd 1 tmpl with objs := [(objKey 0x1001 0, 0x70), (objKey 0x2500 1, 0)] }).1 2 3 _ _ ⟨rfl, rfl, rfl⟩ (by decide) rfl (by decide) (by decide)).2.2.2.1 rfl (by decide) (by decide) (by decide) (by decide) (by decide) (by decide) (by decide)) ∧
    type_of% (((h (rowsCmd 1 { tmpl with batch := some (batch 31) })).1 2 3 _ _ ⟨rfl, rfl, rfl⟩ (by decide) rfl (by decide) (by decide)).2.2.2.2 _ rfl (by decide) (by decide) (by decide) (by decide)) ∧
    type_of% ((h (cmd 0 [] (fun x => { x with slots := [(6, some { tmpl with batch := some (batch 2) })] }))).2.1 6 _ _ rfl rfl (by decide) (by decide)) ∧
    type_of% (((h (ends { layout := some team, fstep := 4, decisions := [(0, true)] })).2.2.1 2 3 _ _ ⟨rfl, rfl, rfl⟩ rfl (by decide)).1 (by decide) (by decide) |>.1 (by decide)) ∧
    type_of% (((h pushingS).2.2.1 2 3 _ _ ⟨rfl, rfl, rfl⟩ rfl (by decide)).1 (by decide) (by decide) |>.2 (by decide)) ∧
    type_of% (((h (ends { layout := some team, fstep := 4, decisions := [(0, false)] })).2.2.1 2 3 _ _ ⟨rfl, rfl, rfl⟩ rfl (by decide)).2 (by decide)) ∧
    type_of% (((h (cmd 0x28 [(0, 8, 65536), (16, 2, 0xFFFF)] id)).2.2.2.1 2 3 _ [] ⟨rfl, rfl, rfl⟩ (by decide)).1 (by decide)) ∧
    type_of% (((h (cmd 0x28 [(0, 8, 65536), (8, 8, 65536), (16, 2, 0xFFFF), (18, 1, 4)] id)).2.2.2.1 2 3 _ [] ⟨rfl, rfl, rfl⟩ (by decide)).2 (by decide) (fun _ => by decide)) ∧
    type_of% (((h (cmd 0x28 [(0, 8, 65536), (8, 8, 65536), (16, 2, 5), (18, 1, 4)] id)).2.2.2.1 2 3 _ [] ⟨rfl, rfl, rfl⟩ (by decide)).2 (by decide) (fun x => absurd x (by decide))) ∧
    type_of% (((h shipState).2.2.2.2.1 shipped _ rfl rfl rfl).1 (by decide) rfl (by decide)) ∧
    type_of% (((h snapState).2.2.2.2.1 snap _ rfl rfl rfl).2.1 rfl) ∧
    type_of% (((h snapState).2.2.2.2.1 snap _ rfl rfl rfl).2.2) ∧
    type_of% ((h admin).2.2.2.2.2 1 8 (by decide) (by decide)) :=
  ⟨((h (rowsCmd 0 tmpl)).1 2 3 _ _ ⟨rfl, rfl, rfl⟩ (by decide) rfl (by decide) (by decide)).1 (by decide),
    ((h (rowsCmd 1 { tmpl with batch := some (batch 2) })).1 2 3 _ _ ⟨rfl, rfl, rfl⟩ (by decide) rfl (by decide) (by decide)).2.1 _ rfl (by decide) (by decide) (by decide),
    ((h (rowsCmd 1 tmpl)).1 2 3 _ _ ⟨rfl, rfl, rfl⟩ (by decide) rfl (by decide) (by decide)).2.2.1 rfl (by decide) (by decide) (by decide) (by decide),
    ((h { rowsCmd 1 tmpl with objs := [(objKey 0x1001 0, 0x70), (objKey 0x2500 1, 0)] }).1 2 3 _ _ ⟨rfl, rfl, rfl⟩ (by decide) rfl (by decide) (by decide)).2.2.2.1 rfl (by decide) (by decide) (by decide) (by decide) (by decide) (by decide) (by decide),
    ((h (rowsCmd 1 { tmpl with batch := some (batch 31) })).1 2 3 _ _ ⟨rfl, rfl, rfl⟩ (by decide) rfl (by decide) (by decide)).2.2.2.2 _ rfl (by decide) (by decide) (by decide) (by decide),
    (h (cmd 0 [] (fun x => { x with slots := [(6, some { tmpl with batch := some (batch 2) })] }))).2.1 6 _ _ rfl rfl (by decide) (by decide),
    ((h (ends { layout := some team, fstep := 4, decisions := [(0, true)] })).2.2.1 2 3 _ _ ⟨rfl, rfl, rfl⟩ rfl (by decide)).1 (by decide) (by decide) |>.1 (by decide),
    ((h pushingS).2.2.1 2 3 _ _ ⟨rfl, rfl, rfl⟩ rfl (by decide)).1 (by decide) (by decide) |>.2 (by decide),
    ((h (ends { layout := some team, fstep := 4, decisions := [(0, false)] })).2.2.1 2 3 _ _ ⟨rfl, rfl, rfl⟩ rfl (by decide)).2 (by decide),
    ((h (cmd 0x28 [(0, 8, 65536), (16, 2, 0xFFFF)] id)).2.2.2.1 2 3 _ [] ⟨rfl, rfl, rfl⟩ (by decide)).1 (by decide),
    ((h (cmd 0x28 [(0, 8, 65536), (8, 8, 65536), (16, 2, 0xFFFF), (18, 1, 4)] id)).2.2.2.1 2 3 _ [] ⟨rfl, rfl, rfl⟩ (by decide)).2 (by decide) (fun _ => by decide),
    ((h (cmd 0x28 [(0, 8, 65536), (8, 8, 65536), (16, 2, 5), (18, 1, 4)] id)).2.2.2.1 2 3 _ [] ⟨rfl, rfl, rfl⟩ (by decide)).2 (by decide) (fun x => absurd x (by decide)),
    ((h shipState).2.2.2.2.1 shipped _ rfl rfl rfl).1 (by decide) rfl (by decide),
    ((h snapState).2.2.2.2.1 snap _ rfl rfl rfl).2.1 rfl,
    ((h snapState).2.2.2.2.1 snap _ rfl rfl rfl).2.2,
    (h admin).2.2.2.2.2 1 8 (by decide) (by decide)⟩

/-- Two squads of one stage; this device is number 0. -/
def squad (a b o n : Nat) : Layout := {
  epoch := 5, league := 7, members := 2, squads := [a, b], layers := [{ layer := 1, owner0 := o, elements := n }] }
def teamed (l : Layout) (f : Pass → Pass) : State := let s := keep (desc 0 []) (pg 0 0); { s with
  objs := [(objKey 0x1001 0, 0x70), (objKey 0x2700 2, 9), (objKey 0x2720 5, 4)]
  sched := { ctxs := [(1, some { league := 7 })] }
  pass := f { layout := some l } }
def lead : Layout := squad 0 8 0 10
def led : Layout := squad 8 0 0 10
def pp (m : Nat) : PassPkt := { gen := 2, epoch := 5, league := 7, step := 1, layer := 1, member := m, dev := 8, payload := List.replicate 40 0 }
def red1 : Reduction := { step := 1, layer := 1 }
def rt : RemoteTrans := { page := 5 * 2 ^ 48, sealed := true, epoch := 9, league := 7 }
def ask (op first count k : Nat) : PassReq := { ctx := 1, op := op, step := 1, layer := 1, first := first, count := count, k := k, src := 65792, done := 65536 }
def asked (r : PassReq) : State := teamed lead (fun p => { p with engines := [(1, { reqs := [r, r] })] })
def waits : State := { teamed lead (fun p => { p with engines := [(1, { waiting := [(0, 5)] })] }) with
  cores := [(0, { far := [{ id := 5, ctx := 1, kind := .vst, stage := .slotted, data := List.replicate 64 1, mask := 0xFFFFFFFFFFFFFFFF }] })] }
def merging : Merge := { league := 7, group := 1, batch := 1, rows := 1, k := 1, count := 2, arrived := [0], req := some { ask 2 0 2 1 with out := 0x5000000000000 } }
def query1 : Query := { step := 1 }
def upTable : UTable := { entries := [{ layer := 1, ctx := 1, epoch := 5, rows := 16385, cols := 1, wfmt := 1, parts := [131072] }], sched := [0x3F800000] }
def bufd (run : Bool) : BufChunk := { step := 1, layer := 1, chunk := 1, c := 2, pairs := [(0x3F800000, 0)], running := run, slot := 6 }
def updating (run : Bool) : State := { teamed (squad 0 8 0 16385) id with upd := { table := some upTable, bufs := [(1, [bufd run])] } }
def tabled : State := { admin with pass := { layout := some lead }, upd := { table := some upTable } }
/-- A layout block and an update table as a peer's memory holds them. -/
def layBytes (ep : Nat) : List Byte := leBytes 2 ep ++ leBytes 2 1 ++ leBytes 4 7 ++ leBytes 4 2 ++ leBytes 4 1 ++ leBytes 8 64 ++ leBytes 8 68 ++ leBytes 32 0 ++
  leBytes 4 0x80000 ++ leBytes 4 1 ++ leBytes 4 0x10100 ++ leBytes 8 10
def tabBytes (ep : Nat) : List Byte := leBytes 12 1 ++ leBytes 4 1 ++ leBytes 8 64 ++ leBytes 8 68 ++ leBytes 32 0 ++ leBytes 4 0x3F800000 ++
  leBytes 4 1 ++ leBytes 4 0x10000 ++ leBytes 4 10 ++ leBytes 4 1 ++ leBytes 12 0 ++ leBytes 4 0x3F800000 ++ leBytes 12 0 ++ leBytes 4 (1 + ep * 65536) ++ leBytes 16 0
def got (b : List Byte) : PeerRead := { data := b, sealed := true }
def arming (ls : Option Layout) (ep : Nat) : State := { (((((admin.setObj oDevId 0).setObj oLayAddr (8 * 2 ^ 48)).setObj oLayStep 3).setObj oTabNext (8 * 2 ^ 48))) with
  pass := { layout := ls }, upd := { table := some { upTable with entries := [{ layer := 1, ctx := 1, epoch := ep, rows := 10, cols := 1, wfmt := 1 }] } } }
def shaded : State := { teamed led id with
  keeper := { pages := [(1, some (pg 0 0))], shadows := [{ page := 65536, loc := 0, place := 16, frames := 1 }] }, shadow := [(65537, 4)], mem := [(65536, 3)] }

theorem meets_ContributionsFoldInMemberOrder (h : Obligations.ContributionsFoldInMemberOrder) :
    type_of% (((h (teamed lead (fun p => { p with reds := [red1] })) _ _ rfl rfl rfl).1 (pp 1) red1 (by decide) rfl (by decide) (by decide) (by decide) (by decide) (by decide) (by decide) (by decide) (by decide) (by decide) rfl rfl rfl rfl rfl (by decide) rfl (by decide)).1 (by decide) rfl) ∧
    type_of% (((h (teamed lead (fun p => { p with reds := [red1] })) _ _ rfl rfl rfl).1 (pp 0) red1 (by decide) rfl (by decide) (by decide) (by decide) (by decide) (by decide) (by decide) (by decide) (by decide) (by decide) rfl rfl rfl rfl rfl (by decide) rfl (by decide)).2 rfl (by decide +kernel) (by decide) (by decide +kernel) (by decide) rfl (by decide) rfl) ∧
    type_of% ((h (teamed lead id) _ lead.layers[0] rfl rfl rfl).2.1 9 (pp 0) (by decide)) ∧
    type_of% ((h (teamed lead (fun p => { p with started := [1], samples := [{ step := 1, deadline := 9, depth := 4 }] })) _ _ rfl rfl rfl).2.2.1 1 rfl rfl (by decide)) ∧
    type_of% ((h (teamed lead id) _ _ rfl rfl rfl).2.2.2.1 { pp 0 with payload := [1, 2, 3, 4, 5, 6] } (by decide) rfl (by decide) (by decide)) ∧
    type_of% (((h { teamed lead id with keeper := { remote := [rt], retained := [{ page := 5 * 2 ^ 48, epoch := 9 }] } } _ lead.layers[0] rfl rfl rfl).2.2.2.2 (pp 0) (5 * 2 ^ 48 + 256) 9 _ (by decide) rfl rfl rfl).1 _ rfl) ∧
    type_of% (((h { teamed lead id with keeper := { remote := [rt] }, cols := [(32, { steerR := [(5, 3)] })] } _ lead.layers[0] rfl rfl rfl).2.2.2.2 { pp 0 with payload := List.replicate 256 1 } (5 * 2 ^ 48) 9 _ (by decide) rfl rfl rfl).2 rfl (by decide) (by decide) (by decide) (by decide)) :=
  ⟨((h (teamed lead (fun p => { p with reds := [red1] })) _ _ rfl rfl rfl).1 (pp 1) red1 (by decide) rfl (by decide) (by decide) (by decide) (by decide) (by decide) (by decide) (by decide) (by decide) (by decide) rfl rfl rfl rfl rfl (by decide) rfl (by decide)).1 (by decide) rfl,
    ((h (teamed lead (fun p => { p with reds := [red1] })) _ _ rfl rfl rfl).1 (pp 0) red1 (by decide) rfl (by decide) (by decide) (by decide) (by decide) (by decide) (by decide) (by decide) (by decide) (by decide) rfl rfl rfl rfl rfl (by decide) rfl (by decide)).2 rfl (by decide +kernel) (by decide) (by decide +kernel) (by decide) rfl (by decide) rfl,
    (h (teamed lead id) _ lead.layers[0] rfl rfl rfl).2.1 9 (pp 0) (by decide),
    (h (teamed lead (fun p => { p with started := [1], samples := [{ step := 1, deadline := 9, depth := 4 }] })) _ _ rfl rfl rfl).2.2.1 1 rfl rfl (by decide),
    (h (teamed lead id) _ _ rfl rfl rfl).2.2.2.1 { pp 0 with payload := [1, 2, 3, 4, 5, 6] } (by decide) rfl (by decide) (by decide),
    ((h { teamed lead id with keeper := { remote := [rt], retained := [{ page := 5 * 2 ^ 48, epoch := 9 }] } } _ lead.layers[0] rfl rfl rfl).2.2.2.2 (pp 0) (5 * 2 ^ 48 + 256) 9 _ (by decide) rfl rfl rfl).1 _ rfl,
    ((h { teamed lead id with keeper := { remote := [rt] }, cols := [(32, { steerR := [(5, 3)] })] } _ lead.layers[0] rfl rfl rfl).2.2.2.2 { pp 0 with payload := List.replicate 256 1 } (5 * 2 ^ 48) 9 _ (by decide) rfl rfl rfl).2 rfl (by decide) (by decide) (by decide) (by decide)⟩

theorem meets_PassRequestsAndMergesEnd (h : Obligations.PassRequestsAndMergesEnd) :
    type_of% ((h (asked { ask 3 0 1 0 with bad := true }) 1 _ _ [] (by decide) (by decide) (by decide) (by decide) (by decide) rfl rfl).1 rfl |>.1 (by decide) (by decide)) ∧
    type_of% ((h (asked (ask 1 0 1 0)) 1 _ _ [] (by decide) (by decide) (by decide) (by decide) (by decide) rfl rfl).1 rfl |>.2.1 lead lead.layers[0] 0 _ rfl (by decide) rfl rfl rfl rfl rfl (by decide) (by decide) rfl rfl (by decide) rfl (by decide) (by decide) (by decide)) ∧
    type_of% (((h (asked { ask 2 0 2 1 with rows := 1, root := 8 }) 1 _ _ [] (by decide) (by decide) (by decide) (by decide) (by decide) rfl rfl).1 rfl).2.2 _ _ rfl rfl (by decide) (by decide) (by decide) (by decide) (by decide) (by decide) rfl rfl rfl (by decide) |>.1 (by decide) rfl) ∧
    type_of% (((h (asked { ask 2 0 2 1 with rows := 1 }) 1 _ _ [] (by decide) (by decide) (by decide) (by decide) (by decide) rfl rfl).1 rfl).2.2 _ _ rfl rfl (by decide) (by decide) (by decide) (by decide) (by decide) (by decide) rfl rfl rfl (by decide) |>.2 rfl (by decide) rfl) ∧
    type_of% ((h waits 1 (ask 1 0 1 0) [] [] (by decide) (by decide) (by decide) (by decide) (by decide) rfl rfl).2.1 0 5 [] _ _ _ rfl (by decide) rfl rfl) ∧
    type_of% ((h (teamed lead id) 1 (ask 1 0 1 0) [] [] (by decide) (by decide) (by decide) (by decide) (by decide) rfl rfl).2.2.1 { pp 1 with payload := List.replicate 16 0, flags := 2 } 1 1 2 (by decide) (by decide) (by decide) (by decide) rfl rfl (by decide) (by decide) (by decide) |>.1 (by decide) (by decide)) ∧
    type_of% ((h (teamed lead id) 1 (ask 1 0 1 0) [] [] (by decide) (by decide) (by decide) (by decide) (by decide) rfl rfl).2.2.1 { pp 1 with payload := List.replicate 8 0 } 1 1 2 (by decide) (by decide) (by decide) (by decide) rfl rfl (by decide) (by decide) (by decide) |>.2 (by decide)) ∧
    type_of% ((h (teamed lead (fun p => { p with merges := [merging] })) 1 { ask 2 0 2 1 with out := 0x5000000000000 } [] [] (by decide) (by decide) (by decide) (by decide) (by decide) rfl rfl).2.2.2 merging rfl (by decide) rfl ⟨1, by decide⟩ (by decide)) :=
  ⟨(h (asked { ask 3 0 1 0 with bad := true }) 1 _ _ [] (by decide) (by decide) (by decide) (by decide) (by decide) rfl rfl).1 rfl |>.1 (by decide) (by decide),
    (h (asked (ask 1 0 1 0)) 1 _ _ [] (by decide) (by decide) (by decide) (by decide) (by decide) rfl rfl).1 rfl |>.2.1 lead lead.layers[0] 0 _ rfl (by decide) rfl rfl rfl rfl rfl (by decide) (by decide) rfl rfl (by decide) rfl (by decide) (by decide) (by decide),
    ((h (asked { ask 2 0 2 1 with rows := 1, root := 8 }) 1 _ _ [] (by decide) (by decide) (by decide) (by decide) (by decide) rfl rfl).1 rfl).2.2 _ _ rfl rfl (by decide) (by decide) (by decide) (by decide) (by decide) (by decide) rfl rfl rfl (by decide) |>.1 (by decide) rfl,
    ((h (asked { ask 2 0 2 1 with rows := 1 }) 1 _ _ [] (by decide) (by decide) (by decide) (by decide) (by decide) rfl rfl).1 rfl).2.2 _ _ rfl rfl (by decide) (by decide) (by decide) (by decide) (by decide) (by decide) rfl rfl rfl (by decide) |>.2 rfl (by decide) rfl,
    (h waits 1 (ask 1 0 1 0) [] [] (by decide) (by decide) (by decide) (by decide) (by decide) rfl rfl).2.1 0 5 [] _ _ _ rfl (by decide) rfl rfl,
    (h (teamed lead id) 1 (ask 1 0 1 0) [] [] (by decide) (by decide) (by decide) (by decide) (by decide) rfl rfl).2.2.1 { pp 1 with payload := List.replicate 16 0, flags := 2 } 1 1 2 (by decide) (by decide) (by decide) (by decide) rfl rfl (by decide) (by decide) (by decide) |>.1 (by decide) (by decide),
    (h (teamed lead id) 1 (ask 1 0 1 0) [] [] (by decide) (by decide) (by decide) (by decide) (by decide) rfl rfl).2.2.1 { pp 1 with payload := List.replicate 8 0 } 1 1 2 (by decide) (by decide) (by decide) (by decide) rfl rfl (by decide) (by decide) (by decide) |>.2 (by decide),
    (h (teamed lead (fun p => { p with merges := [merging] })) 1 { ask 2 0 2 1 with out := 0x5000000000000 } [] [] (by decide) (by decide) (by decide) (by decide) (by decide) rfl rfl).2.2.2 merging rfl (by decide) rfl ⟨1, by decide⟩ (by decide)⟩

theorem meets_HuddleDecidesAndFlips (h : Obligations.HuddleDecidesAndFlips) :
    type_of% (((h (teamed led id) _ rfl rfl rfl).1 rfl (by decide) (by decide) rfl).1 rfl (by decide) (by decide) (by decide)) ∧
    type_of% (((h (teamed led (fun p => { p with failed := true })) _ rfl rfl rfl).1 rfl (by decide) (by decide) rfl).2 (Or.inl rfl)) ∧
    type_of% (((h (teamed led id) _ rfl rfl rfl).2.1 (pp 0) true [] (by decide) (by decide)).1 (by decide) (by decide) rfl) ∧
    type_of% (((h (teamed lead id) _ rfl rfl rfl).2.1 (pp 0) false [] (by decide) (by decide)).2.1 (by decide) (by decide) (by decide) rfl rfl) ∧
    type_of% (((h (teamed lead (fun p => { p with commitWait := true })) _ rfl rfl rfl).2.1 (pp 0) true [] (by decide) (by decide)).2.2 rfl (by decide) rfl) ∧
    type_of% ((h (teamed lead (fun p => { p with ready := some (1, true) })) _ rfl rfl rfl).2.2.1 (by decide) (by decide) (by decide)) ∧
    type_of% (((h (teamed led id) _ rfl rfl rfl).2.2.2.1 (pp 0) (by decide) (by decide) (by decide) (by decide) rfl).1) ∧
    type_of% (((h shaded _ rfl rfl rfl).2.2.2.1 (pp 0) (by decide) (by decide) (by decide) (by decide) rfl).2 (by decide) (by decide)) ∧
    type_of% ((h (teamed lead (fun p => { p with flipStep := 1, flippedFrom := [0] })) _ rfl rfl rfl).2.2.2.2.1 (pp 0) (by decide) (by decide) rfl (by decide) (by decide)) ∧
    type_of% ((h (teamed led id) _ rfl rfl rfl).2.2.2.2.2.1 (pp 0) (by decide)) ∧
    type_of% (((h (teamed lead (fun p => { p with commitWait := true })) _ rfl rfl rfl).2.2.2.2.2.2 1 [] rfl).2 (by decide)) ∧
    type_of% (((h { teamed { lead with layers := [{ layer := 1, owner0 := 0, elements := 40000, parts := 2 }] } (fun p => { p with commitWait := true }) with upd := { table := some upTable } } _ rfl rfl rfl).2.2.2.2.2.2 1 [] rfl).1 (by decide +kernel)) :=
  ⟨((h (teamed led id) _ rfl rfl rfl).1 rfl (by decide) (by decide) rfl).1 rfl (by decide) (by decide) (by decide),
    ((h (teamed led (fun p => { p with failed := true })) _ rfl rfl rfl).1 rfl (by decide) (by decide) rfl).2 (Or.inl rfl),
    ((h (teamed led id) _ rfl rfl rfl).2.1 (pp 0) true [] (by decide) (by decide)).1 (by decide) (by decide) rfl,
    ((h (teamed lead id) _ rfl rfl rfl).2.1 (pp 0) false [] (by decide) (by decide)).2.1 (by decide) (by decide) (by decide) rfl rfl,
    ((h (teamed lead (fun p => { p with commitWait := true })) _ rfl rfl rfl).2.1 (pp 0) true [] (by decide) (by decide)).2.2 rfl (by decide) rfl,
    (h (teamed lead (fun p => { p with ready := some (1, true) })) _ rfl rfl rfl).2.2.1 (by decide) (by decide) (by decide),
    ((h (teamed led id) _ rfl rfl rfl).2.2.2.1 (pp 0) (by decide) (by decide) (by decide) (by decide) rfl).1,
    ((h shaded _ rfl rfl rfl).2.2.2.1 (pp 0) (by decide) (by decide) (by decide) (by decide) rfl).2 (by decide) (by decide),
    (h (teamed lead (fun p => { p with flipStep := 1, flippedFrom := [0] })) _ rfl rfl rfl).2.2.2.2.1 (pp 0) (by decide) (by decide) rfl (by decide) (by decide),
    (h (teamed led id) _ rfl rfl rfl).2.2.2.2.2.1 (pp 0) (by decide),
    ((h (teamed lead (fun p => { p with commitWait := true })) _ rfl rfl rfl).2.2.2.2.2.2 1 [] rfl).2 (by decide),
    ((h { teamed { lead with layers := [{ layer := 1, owner0 := 0, elements := 40000, parts := 2 }] } (fun p => { p with commitWait := true }) with upd := { table := some upTable } } _ rfl rfl rfl).2.2.2.2.2.2 1 [] rfl).1 (by decide +kernel)⟩

theorem meets_QueriesDecideWithoutTheLead (h : Obligations.QueriesDecideWithoutTheLead) :
    type_of% ((h (teamed led (fun p => { p with ready := some (1, true) })) _ rfl rfl rfl).1 (by decide) (by decide) (by decide) rfl) ∧
    type_of% (((h (teamed led (fun p => { p with decisions := [(1, false)] })) _ rfl rfl rfl).2.1 (pp 0) (by decide)).1 false (by decide)) ∧
    type_of% (((h (teamed lead id) _ rfl rfl rfl).2.1 (pp 0) (by decide)).2.1 (by decide) (by decide) (by decide)) ∧
    type_of% (((h (teamed led id) _ rfl rfl rfl).2.1 (pp 0) (by decide)).2.2 (by decide) (by decide)) ∧
    type_of% (((h (teamed led (fun p => { p with query := some query1 })) _ rfl rfl rfl).2.2 query1 rfl rfl (by decide)).1) ∧
    type_of% (((h (teamed led (fun p => { p with query := some query1 })) _ rfl rfl rfl).2.2 query1 rfl rfl (by decide)).2.1 (pp 0) (some false) (by decide) rfl (by decide) |>.1 rfl (by decide)) ∧
    type_of% (((h (teamed led (fun p => { p with query := some query1 })) _ rfl rfl rfl).2.2 query1 rfl rfl (by decide)).2.1 (pp 0) (some true) (by decide) rfl (by decide) |>.2.1 rfl (by decide) (by decide)) ∧
    type_of% (((h (teamed (squad 9 8 0 10) (fun p => { p with query := some query1 })) _ rfl rfl rfl).2.2 query1 rfl rfl (by decide)).2.1 (pp 0) none (by decide) rfl (by decide) |>.2.2 rfl (by decide)) ∧
    type_of% (((h (teamed (squad 9 8 0 10) (fun p => { p with query := some query1 })) _ rfl rfl rfl).2.2 query1 rfl rfl (by decide)).2.2.1 (by decide) (by decide) |>.1 (by decide)) ∧
    type_of% (((h (teamed led (fun p => { p with query := some query1 })) _ rfl rfl rfl).2.2 query1 rfl rfl (by decide)).2.2.1 (by decide) (by decide) |>.2 (by decide)) ∧
    type_of% (((h (teamed led (fun p => { p with query := some query1 })) _ rfl rfl rfl).2.2 query1 rfl rfl (by decide)).2.2.2.1 (by decide)) ∧
    type_of% (((h (teamed (squad 9 8 0 10) (fun p => { p with query := some { query1 with answers := [(8, some true)] } })) _ rfl rfl rfl).2.2 { query1 with answers := [(8, some true)] } rfl rfl (by decide)).2.2.2.2 (by decide) (by decide)) :=
  ⟨(h (teamed led (fun p => { p with ready := some (1, true) })) _ rfl rfl rfl).1 (by decide) (by decide) (by decide) rfl,
    ((h (teamed led (fun p => { p with decisions := [(1, false)] })) _ rfl rfl rfl).2.1 (pp 0) (by decide)).1 false (by decide),
    ((h (teamed lead id) _ rfl rfl rfl).2.1 (pp 0) (by decide)).2.1 (by decide) (by decide) (by decide),
    ((h (teamed led id) _ rfl rfl rfl).2.1 (pp 0) (by decide)).2.2 (by decide) (by decide),
    ((h (teamed led (fun p => { p with query := some query1 })) _ rfl rfl rfl).2.2 query1 rfl rfl (by decide)).1,
    ((h (teamed led (fun p => { p with query := some query1 })) _ rfl rfl rfl).2.2 query1 rfl rfl (by decide)).2.1 (pp 0) (some false) (by decide) rfl (by decide) |>.1 rfl (by decide),
    ((h (teamed led (fun p => { p with query := some query1 })) _ rfl rfl rfl).2.2 query1 rfl rfl (by decide)).2.1 (pp 0) (some true) (by decide) rfl (by decide) |>.2.1 rfl (by decide) (by decide),
    ((h (teamed (squad 9 8 0 10) (fun p => { p with query := some query1 })) _ rfl rfl rfl).2.2 query1 rfl rfl (by decide)).2.1 (pp 0) none (by decide) rfl (by decide) |>.2.2 rfl (by decide),
    ((h (teamed (squad 9 8 0 10) (fun p => { p with query := some query1 })) _ rfl rfl rfl).2.2 query1 rfl rfl (by decide)).2.2.1 (by decide) (by decide) |>.1 (by decide),
    ((h (teamed led (fun p => { p with query := some query1 })) _ rfl rfl rfl).2.2 query1 rfl rfl (by decide)).2.2.1 (by decide) (by decide) |>.2 (by decide),
    ((h (teamed led (fun p => { p with query := some query1 })) _ rfl rfl rfl).2.2 query1 rfl rfl (by decide)).2.2.2.1 (by decide),
    ((h (teamed (squad 9 8 0 10) (fun p => { p with query := some { query1 with answers := [(8, some true)] } })) _ rfl rfl rfl).2.2 { query1 with answers := [(8, some true)] } rfl rfl (by decide)).2.2.2.2 (by decide) (by decide)⟩

theorem meets_LayoutsAndTablesAreArmed (h : Obligations.LayoutsAndTablesAreArmed) :
    type_of% ((h admin 1 77 {}).1 (by decide) rfl) ∧
    type_of% ((h admin 1 77 {}).2.1 (by decide) rfl) ∧
    type_of% (((h tabled 1 0 {}).2.2.1 (by decide)).1 (by decide)) ∧
    type_of% (((h (arming none 6) 1 6 (got (layBytes 6))).2.2.1 (by decide)).2.1 { squad 0 8 1 10 with epoch := 6 } _ (by decide) rfl rfl rfl rfl (by decide) (by decide) (by decide)) ∧
    type_of% (((h (arming (some lead) 1) 1 1 (got (layBytes 1))).2.2.1 (by decide)).2.2 { squad 0 8 1 10 with epoch := 1 } (by decide) (by decide) (by decide) (by decide) rfl rfl (by decide) rfl (by decide) (by decide)) ∧
    type_of% ((h admin 1 77 {}).2.2.2.1 (by decide) rfl) ∧
    type_of% (((h admin 1 0xFFFFFFFF {}).2.2.2.2.1 (by decide)).1 rfl) ∧
    type_of% (((h (arming none 6) 1 6 (got (tabBytes 6))).2.2.2.2.1 (by decide)).2.1 _ (by decide) rfl rfl (by decide)) ∧
    type_of% (((h (arming (some (squad 0 8 1 10)) 6) 1 6 (got (tabBytes 5))).2.2.2.2.1 (by decide)).2.2 _ (squad 0 8 1 10) (by decide) rfl rfl (by decide) (by decide) rfl) ∧
    type_of% ((h (teamed lead (fun p => { p with unknown := [(.mask, { epoch := 6 }), (.flipped, { epoch := 7 })] })) 1 0 {}).2.2.2.2.2.1 6 (by decide)) ∧
    type_of% ((h (teamed lead (fun p => { p with old := some led, moving := true })) 1 0 {}).2.2.2.2.2.2.1 _ _ rfl rfl rfl (by decide)) ∧
    type_of% ((h (teamed lead (fun p => { p with armed := some ({ lead with epoch := 6 }, 3) })) 1 0 {}).2.2.2.2.2.2.2.1 { pp 0 with epoch := 6 } 0 0 8 true (by decide) rfl rfl) ∧
    type_of% ((h { updating false with pass := { layout := some (squad 0 8 0 16385), handover := [(1, 0)] } } 1 0 {}).2.2.2.2.2.2.2.2 { pp 0 with payload := [1, 2, 3] } 0 0 8 true _ _ _ _ (by decide) rfl (by decide) rfl rfl (by decide) rfl rfl) :=
  ⟨(h admin 1 77 {}).1 (by decide) rfl,
    (h admin 1 77 {}).2.1 (by decide) rfl,
    ((h tabled 1 0 {}).2.2.1 (by decide)).1 (by decide),
    ((h (arming none 6) 1 6 (got (layBytes 6))).2.2.1 (by decide)).2.1 { squad 0 8 1 10 with epoch := 6 } _ (by decide) rfl rfl rfl rfl (by decide) (by decide) (by decide),
    ((h (arming (some lead) 1) 1 1 (got (layBytes 1))).2.2.1 (by decide)).2.2 { squad 0 8 1 10 with epoch := 1 } (by decide) (by decide) (by decide) (by decide) rfl rfl (by decide) rfl (by decide) (by decide),
    (h admin 1 77 {}).2.2.2.1 (by decide) rfl,
    ((h admin 1 0xFFFFFFFF {}).2.2.2.2.1 (by decide)).1 rfl,
    ((h (arming none 6) 1 6 (got (tabBytes 6))).2.2.2.2.1 (by decide)).2.1 _ (by decide) rfl rfl (by decide),
    ((h (arming (some (squad 0 8 1 10)) 6) 1 6 (got (tabBytes 5))).2.2.2.2.1 (by decide)).2.2 _ (squad 0 8 1 10) (by decide) rfl rfl (by decide) (by decide) rfl,
    (h (teamed lead (fun p => { p with unknown := [(.mask, { epoch := 6 }), (.flipped, { epoch := 7 })] })) 1 0 {}).2.2.2.2.2.1 6 (by decide),
    (h (teamed lead (fun p => { p with old := some led, moving := true })) 1 0 {}).2.2.2.2.2.2.1 _ _ rfl rfl rfl (by decide),
    (h (teamed lead (fun p => { p with armed := some ({ lead with epoch := 6 }, 3) })) 1 0 {}).2.2.2.2.2.2.2.1 { pp 0 with epoch := 6 } 0 0 8 true (by decide) rfl rfl,
    (h { updating false with pass := { layout := some (squad 0 8 0 16385), handover := [(1, 0)] } } 1 0 {}).2.2.2.2.2.2.2.2 { pp 0 with payload := [1, 2, 3] } 0 0 8 true _ _ _ _ (by decide) rfl (by decide) rfl rfl (by decide) rfl rfl⟩

theorem meets_UpdatesRunOnBufferedChunks (h : Obligations.UpdatesRunOnBufferedChunks) :
    type_of% ((h (updating false) 1 _ (bufd false) _ _ rfl rfl).1 12 0 rfl (by decide) (by decide)) ∧
    type_of% ((h (updating true) 1 _ (bufd true) _ _ rfl rfl).2 _ (((updating true).bare.shadowWrites _).get (by decide +kernel)) rfl rfl (by decide +kernel) (by decide +kernel) (Option.some_get _).symm rfl rfl (by decide) (by decide +kernel)) :=
  ⟨(h (updating false) 1 _ (bufd false) _ _ rfl rfl).1 12 0 rfl (by decide) (by decide),
    (h (updating true) 1 _ (bufd true) _ _ rfl rfl).2 _ (((updating true).bare.shadowWrites _).get (by decide +kernel)) rfl rfl (by decide +kernel) (by decide +kernel) (Option.some_get _).symm rfl rfl (by decide) (by decide +kernel)⟩

/-- The fabric is enabled; device 8 is behind link 1, which is up. -/
def net (f : State → State) : State := f { teamed lead id with
  objs := [(objKey 0x1001 0, 0x70), (oLink 1 1, 3), (oLink 1 5, 8), (oFabricOn, 1)]
  fabric := { routes := [(8, 0x80040000)], links := [(1, { credits := (List.range 10).map (fun v => (v, 100)) })] }
  sched := { ctxs := [(1, some { league := 7 })], queues := [(2, queue (desc 0x34 []))] } }
def held8 : Page := { base := 65536, loc := 0, ctx := 1 }
def homed (g : Page) : State := net (fun s => { s with keeper := { s.keeper with pages := [(1, some g)] }, mem := [(65540, 5)] })
def reqP (type n : Nat) : Pkt := { type := type, src := 8, dst := 0, tag := 4, attr := BitVec.ofNat 16 n, league := 7, addr := 65536, ctx := 1, payload := List.replicate 16 3 }
def outTo8 (id : Nat) : Outstanding := { tag := 4, core := 0, id := id, ctx := 1, addr := 0x8000000010000, keep := some (2, 3) }
def farF : FarReq := { id := 5, thread := 1, ctx := 1, addr := 0x8000000010000, stage := .peer 4 }
def awaiting (id : Nat) : State := net (fun s => { s with
  cores := [(0, { far := [farF] })]
  fabric := { s.fabric with outs := [outTo8 id] } })
def withLn (st : Nat) (x : Link) : State := net (fun s => ({ s with fabric := { s.fabric with links := [(1, x), (2, { credits := x.credits })] } }).setObj (oLink 1 1) st)
def upLn (x : Link) : State := withLn 3 { x with credits := (List.range 10).map (fun v => (v, 100)) }
def adminLn (st : Nat) (x : Link) : State := let s := withLn st x; { s with mgmt := admin.mgmt }
def sealing (op : Nat) (rs : List Region) (p : Page) : State := net (fun s => { s with
  keeper := { s.keeper with pages := [(1, some p)], regions := rs }
  sched := { ctxs := [(1, some { league := 7 })], queues := [(2, queue (desc op [(0, 8, 65536), (8, 8, 65536)]))] } })
def region1 (rd aw : List Nat) (u : Bool) : Region := {
  base := 65536, size := 65536, epoch := 3, ctx := 1, readers := rd, awaited := aw, unsealing := u, invEpoch := 4, cmd := if u then some (2, 3) else none }
def copies : State := net (fun s => { s with
  cores := [(0, { nc := [{ line := 8 * 2 ^ 38 }, { line := 64 }] })]
  keeper := { s.keeper with remote := [{ page := 8 * 2 ^ 48 }, { page := 9 * 2 ^ 48 }] }
  fabric := { s.fabric with fences := [{ dev := 8, kind := 1, key := 65536 }] } })
def carried (x : List Snap) : State := let s := awaiting idKeep; { s with host := { busMaster := true }, sched := { s.sched with snaps := x } }
def shipTo : Snap := { snap with dev := 8, stage := 1, cmd := (2, 3) }
def zeros16 (type : Nat) : Pkt := { reqP type 0 with payload := List.replicate 32 0 }
def mayWrite (s : State) : State := { s with host := { busMaster := true } }
def freeing1 : Region := { region1 [] [8] false with freeing := [65536], frees := [(2, 3)] }

theorem meets_PeersRequestsAreServed (h : Obligations.PeersRequestsAreServed) :
    type_of% (((h (homed held8) 1 (reqP 0x10 16) held8).1 rfl rfl rfl rfl).1 (by decide) (by decide) (by decide) (by decide) rfl (by decide) (by decide) (by decide) rfl |>.1 (by decide)) ∧
    type_of% (((h (homed { held8 with loc := 1 }) 1 (reqP 0x10 16) { held8 with loc := 1 }).1 rfl rfl rfl rfl).1 (by decide) (by decide) (by decide) (by decide) rfl (by decide) (by decide) (by decide) rfl |>.2 rfl (by decide) (by decide)) ∧
    type_of% ((((h (homed held8) 1 (reqP 0x11 0) held8).1 rfl rfl rfl rfl).2 (by decide) (by decide) (by decide) rfl).1 (by decide)) ∧
    type_of% ((((h (homed held8) 1 (reqP 0x12 1) held8).1 rfl rfl rfl rfl).2 (by decide) (by decide) (by decide) rfl).2 (by decide)) ∧
    type_of% ((h (homed held8) 1 { reqP 0x11 0 with league := 6 } held8).2.1 true none [] (by decide)) ∧
    type_of% ((h (homed held8) 1 { reqP 0x10 0 with addr := 131072 } held8).2.1 false (some true) [] (by decide)) ∧
    type_of% ((h (mayWrite (teamed lead id)) 1 (reqP 0x10 16) held8).2.2.1 none [] [] rfl (.rd 1 ⟨reqP 0x10 16, none, []⟩) (by simp)) ∧
    type_of% ((h (mayWrite (teamed lead id)) 1 (reqP 0x10 16) held8).2.2.1 none [] [] rfl (.wr 1 ⟨reqP 0x10 16, none, []⟩) (by simp)) ∧
    type_of% ((h (mayWrite (teamed lead id)) 1 (reqP 0x10 16) held8).2.2.1 none [] [] rfl (.amoPacket 1 ⟨reqP 0x10 16, none, []⟩) (by simp)) ∧
    type_of% ((h (mayWrite (teamed lead id)) 1 (reqP 0x10 16) held8).2.2.1 none [] [] rfl (.keep 1 (reqP 0x10 16) []) (by simp)) ∧
    type_of% ((h (homed held8) 1 { reqP 0x14 0 with payload := leBytes 16 0x13002 ++ body [(0, 8, 65536), (16, 2, 0), (18, 2, 1)] } held8).2.2.2 [] _ 131072 rfl rfl rfl (by decide) (by decide) (by decide) (by decide) (by decide) (by decide) (by decide) (by decide)) :=
  ⟨((h (homed held8) 1 (reqP 0x10 16) held8).1 rfl rfl rfl rfl).1 (by decide) (by decide) (by decide) (by decide) rfl (by decide) (by decide) (by decide) rfl |>.1 (by decide),
    ((h (homed { held8 with loc := 1 }) 1 (reqP 0x10 16) { held8 with loc := 1 }).1 rfl rfl rfl rfl).1 (by decide) (by decide) (by decide) (by decide) rfl (by decide) (by decide) (by decide) rfl |>.2 rfl (by decide) (by decide),
    (((h (homed held8) 1 (reqP 0x11 0) held8).1 rfl rfl rfl rfl).2 (by decide) (by decide) (by decide) rfl).1 (by decide),
    (((h (homed held8) 1 (reqP 0x12 1) held8).1 rfl rfl rfl rfl).2 (by decide) (by decide) (by decide) rfl).2 (by decide),
    (h (homed held8) 1 { reqP 0x11 0 with league := 6 } held8).2.1 true none [] (by decide),
    (h (homed held8) 1 { reqP 0x10 0 with addr := 131072 } held8).2.1 false (some true) [] (by decide),
    (h (mayWrite (teamed lead id)) 1 (reqP 0x10 16) held8).2.2.1 none [] [] rfl (.rd 1 ⟨reqP 0x10 16, none, []⟩) (by simp),
    (h (mayWrite (teamed lead id)) 1 (reqP 0x10 16) held8).2.2.1 none [] [] rfl (.wr 1 ⟨reqP 0x10 16, none, []⟩) (by simp),
    (h (mayWrite (teamed lead id)) 1 (reqP 0x10 16) held8).2.2.1 none [] [] rfl (.amoPacket 1 ⟨reqP 0x10 16, none, []⟩) (by simp),
    (h (mayWrite (teamed lead id)) 1 (reqP 0x10 16) held8).2.2.1 none [] [] rfl (.keep 1 (reqP 0x10 16) []) (by simp),
    (h (homed held8) 1 { reqP 0x14 0 with payload := leBytes 16 0x13002 ++ body [(0, 8, 65536), (16, 2, 0), (18, 2, 1)] } held8).2.2.2 [] _ 131072 rfl rfl rfl (by decide) (by decide) (by decide) (by decide) (by decide) (by decide) (by decide) (by decide)⟩

theorem meets_AnswersEndRequests (h : Obligations.AnswersEndRequests) :
    type_of% ((h (awaiting 5) 1 { reqP 0x18 0 with tag := 9 } (outTo8 5)).1 (by decide) (.rdr 1 { reqP 0x18 0 with tag := 9 }) (by simp)) ∧
    type_of% ((h (awaiting 5) 1 { reqP 0x19 0 with tag := 9 } (outTo8 5)).1 (by decide) (.ackw 1 { reqP 0x19 0 with tag := 9 }) (by simp)) ∧
    type_of% ((h (awaiting 5) 1 { reqP 0x1A 0 with tag := 9 } (outTo8 5)).1 (by decide) (.keepr 1 { reqP 0x1A 0 with tag := 9 }) (by simp)) ∧
    type_of% (((h (awaiting 5) 1 (reqP 0x18 0) (outTo8 5)).2.1 rfl).1 farF (by decide) rfl rfl (.rdr 1 (reqP 0x18 0)) (by simp)) ∧
    type_of% (((h (awaiting 5) 1 (reqP 0x19 0) (outTo8 5)).2.1 rfl).1 farF (by decide) rfl rfl (.ackw 1 (reqP 0x19 0)) (by simp)) ∧
    type_of% (((h (carried [shipTo]) 1 (zeros16 0x1A) (outTo8 idKeep)).2.1 rfl).2.1 2 3 _ shipTo rfl rfl (by decide) rfl rfl (by decide)) ∧
    type_of% (((h (carried [shipTo]) 1 (reqP 0x1A 0) (outTo8 idKeep)).2.1 rfl).2.1 2 3 _ shipTo rfl rfl (by decide) rfl rfl (by decide)) ∧
    type_of% (((h (carried []) 1 (reqP 0x1A 0) (outTo8 idKeep)).2.1 rfl).2.2 2 3 _ rfl rfl (by decide) rfl rfl) ∧
    type_of% (((h (carried []) 1 { reqP 0x1A 0 with status := 1 } (outTo8 idKeep)).2.1 rfl).2.2 2 3 _ rfl rfl (by decide) rfl rfl) ∧
    type_of% ((h (awaiting 5) 1 (reqP 0x1A 0) (outTo8 5)).2.2 4 farF rfl (by decide) rfl rfl) :=
  ⟨(h (awaiting 5) 1 { reqP 0x18 0 with tag := 9 } (outTo8 5)).1 (by decide) (.rdr 1 { reqP 0x18 0 with tag := 9 }) (by simp),
    (h (awaiting 5) 1 { reqP 0x19 0 with tag := 9 } (outTo8 5)).1 (by decide) (.ackw 1 { reqP 0x19 0 with tag := 9 }) (by simp),
    (h (awaiting 5) 1 { reqP 0x1A 0 with tag := 9 } (outTo8 5)).1 (by decide) (.keepr 1 { reqP 0x1A 0 with tag := 9 }) (by simp),
    ((h (awaiting 5) 1 (reqP 0x18 0) (outTo8 5)).2.1 rfl).1 farF (by decide) rfl rfl (.rdr 1 (reqP 0x18 0)) (by simp),
    ((h (awaiting 5) 1 (reqP 0x19 0) (outTo8 5)).2.1 rfl).1 farF (by decide) rfl rfl (.ackw 1 (reqP 0x19 0)) (by simp),
    ((h (carried [shipTo]) 1 (zeros16 0x1A) (outTo8 idKeep)).2.1 rfl).2.1 2 3 _ shipTo rfl rfl (by decide) rfl rfl (by decide),
    ((h (carried [shipTo]) 1 (reqP 0x1A 0) (outTo8 idKeep)).2.1 rfl).2.1 2 3 _ shipTo rfl rfl (by decide) rfl rfl (by decide),
    ((h (carried []) 1 (reqP 0x1A 0) (outTo8 idKeep)).2.1 rfl).2.2 2 3 _ rfl rfl (by decide) rfl rfl,
    ((h (carried []) 1 { reqP 0x1A 0 with status := 1 } (outTo8 idKeep)).2.1 rfl).2.2 2 3 _ rfl rfl (by decide) rfl rfl,
    (h (awaiting 5) 1 (reqP 0x1A 0) (outTo8 5)).2.2 4 farF rfl (by decide) rfl rfl⟩

theorem meets_LinksTrainAndCarryFrames (h : Obligations.LinksTrainAndCarryFrames) :
    type_of% (((h (withLn 2 {}) 1).1 (by decide)).1 3) ∧
    type_of% (((h (withLn 2 {}) 1).1 (by decide)).2 { gens := 0 } |>.1 (by decide)) ∧
    type_of% (((h (withLn 2 {}) 1).1 (by decide)).2 { gens := 6, lanes := 1 } |>.2 (by decide) (by decide)) ∧
    type_of% (((h (upLn { expect := 7 }) 1).2.1 7 (BitVec.ofNat 8 (crc8 [7, 0, 1])) [1] [(3, 5), (3, 2), (9, 0)] (by decide)).1 (by decide)) ∧
    type_of% (((h (upLn { expect := 15 }) 1).2.1 15 (BitVec.ofNat 8 (crc8 [15, 0, 1])) [1] [(3, 5), (3, 2), (9, 0)] (by decide)).2.1 1 15 rfl) ∧
    type_of% (((h (upLn { expect := 7 }) 1).2.1 7 (BitVec.ofNat 8 (crc8 [7, 0, 1]) + 1) [1] [] (by decide)).2.2 rfl) ∧
    type_of% (((h (upLn { replay := [(3, 0), (4, 9), (5, 0)] }) 1).2.2.1 4 rfl).1) ∧
    type_of% (((h (upLn { replay := [(3, 0), (4, 9), (5, 0)] }) 1).2.2.1 4 rfl).2 (by decide)) ∧
    type_of% (((h (upLn {}) 1).2.2.2.1 [1, 2, 3] 1 (by decide) rfl).1) ∧
    type_of% (((h (upLn {}) 1).2.2.2.1 [1, 2, 3] 1 (by decide) rfl).2) ∧
    type_of% ((h (upLn { freed := [(2, 9)] }) 1).2.2.2.2.1 (by decide)) ∧
    type_of% (((h (upLn {}) 1).2.2.2.2.2.1 (List.replicate 10 100) (by decide) rfl rfl).1 (by decide)) ∧
    type_of% (((h (upLn {}) 1).2.2.2.2.2.1 (List.replicate 10 99) (by decide) rfl rfl).2 ⟨0, by decide⟩) ∧
    type_of% (((h (upLn {}) 1).2.2.2.2.2.2 { reqP 0x10 0 with dst := 8, hops := 3 } (by decide) (by decide) (by decide)).1 (by decide)) ∧
    type_of% (((h ((upLn {}).setObj (oLink 2 8) 4) 2).2.2.2.2.2.2 { reqP 0x10 0 with dst := 8, hops := 2 } (by decide) (by decide) (by decide)).2 1 (by decide) (by decide) (by decide) (by decide) (by decide) rfl |>.1 (by decide)) ∧
    type_of% (((h ((withLn 3 {}).setObj (oLink 2 8) 4) 2).2.2.2.2.2.2 { reqP 0x10 0 with dst := 8, hops := 2 } (by decide) (by decide) (by decide)).2 1 (by decide) (by decide) (by decide) (by decide) (by decide) rfl |>.2 (by decide)) :=
  ⟨((h (withLn 2 {}) 1).1 (by decide)).1 3,
    ((h (withLn 2 {}) 1).1 (by decide)).2 { gens := 0 } |>.1 (by decide),
    ((h (withLn 2 {}) 1).1 (by decide)).2 { gens := 6, lanes := 1 } |>.2 (by decide) (by decide),
    ((h (upLn { expect := 7 }) 1).2.1 7 (BitVec.ofNat 8 (crc8 [7, 0, 1])) [1] [(3, 5), (3, 2), (9, 0)] (by decide)).1 (by decide),
    ((h (upLn { expect := 15 }) 1).2.1 15 (BitVec.ofNat 8 (crc8 [15, 0, 1])) [1] [(3, 5), (3, 2), (9, 0)] (by decide)).2.1 1 15 rfl,
    ((h (upLn { expect := 7 }) 1).2.1 7 (BitVec.ofNat 8 (crc8 [7, 0, 1]) + 1) [1] [] (by decide)).2.2 rfl,
    ((h (upLn { replay := [(3, 0), (4, 9), (5, 0)] }) 1).2.2.1 4 rfl).1,
    ((h (upLn { replay := [(3, 0), (4, 9), (5, 0)] }) 1).2.2.1 4 rfl).2 (by decide),
    ((h (upLn {}) 1).2.2.2.1 [1, 2, 3] 1 (by decide) rfl).1,
    ((h (upLn {}) 1).2.2.2.1 [1, 2, 3] 1 (by decide) rfl).2,
    (h (upLn { freed := [(2, 9)] }) 1).2.2.2.2.1 (by decide),
    ((h (upLn {}) 1).2.2.2.2.2.1 (List.replicate 10 100) (by decide) rfl rfl).1 (by decide),
    ((h (upLn {}) 1).2.2.2.2.2.1 (List.replicate 10 99) (by decide) rfl rfl).2 ⟨0, by decide⟩,
    ((h (upLn {}) 1).2.2.2.2.2.2 { reqP 0x10 0 with dst := 8, hops := 3 } (by decide) (by decide) (by decide)).1 (by decide),
    ((h ((upLn {}).setObj (oLink 2 8) 4) 2).2.2.2.2.2.2 { reqP 0x10 0 with dst := 8, hops := 2 } (by decide) (by decide) (by decide)).2 1 (by decide) (by decide) (by decide) (by decide) (by decide) rfl |>.1 (by decide),
    ((h ((withLn 3 {}).setObj (oLink 2 8) 4) 2).2.2.2.2.2.2 { reqP 0x10 0 with dst := 8, hops := 2 } (by decide) (by decide) (by decide)).2 1 (by decide) (by decide) (by decide) (by decide) (by decide) rfl |>.2 (by decide)⟩

theorem meets_LinksRetrainAndSettingsAreWritten (h : Obligations.LinksRetrainAndSettingsAreWritten) :
    type_of% ((h (upLn { replay := [(3, 0)] }) 1).1 1 (by decide)) ∧
    type_of% ((h (upLn { replay := (List.range 256).map (fun i => (i, 0)) }) 1).2.1 (by decide) (by decide)) ∧
    type_of% ((h (withLn 5 { replay := [(3, 0)] }) 1).2.2.1 4 {} [] (by decide) (by decide) (by decide) rfl rfl) ∧
    type_of% ((h (withLn 5 { replay := [(3, 0)] }) 1).2.2.2.1 (by decide) (by decide)) ∧
    type_of% (((h (adminLn 3 {}) 1).2.2.2.2 1 1).1 (by decide) rfl |>.1 (by decide)) ∧
    type_of% (((h (adminLn 6 {}) 1).2.2.2.2 1 1).1 (by decide) rfl |>.2 (by decide)) ∧
    type_of% (((h (adminLn 3 {}) 1).2.2.2.2 1 0).2.1 (by decide) |>.1 rfl (by decide)) ∧
    type_of% (((h (adminLn 0 {}) 1).2.2.2.2 1 1).2.1 (by decide) |>.2 (by decide) (by decide)) ∧
    type_of% (((h admin 1).2.2.2.2 1 1).2.2.1 (by decide) (by decide)) ∧
    type_of% (((h admin 1).2.2.2.2 1 9).2.2.2.1 (by decide) (by decide) (by decide) (by decide) rfl) ∧
    type_of% (((h (admin.setObj oDevId 9) 1).2.2.2.2 1 1).2.2.2.2.1 (by decide) (by decide)) ∧
    type_of% (((h (let s := adminLn 3 {}; { s with fabric := { s.fabric with fences := [{ dev := 8, kind := 2 }, { dev := 9, kind := 2 }] } }) 1).2.2.2.2 1 8).2.2.2.2.2 (by decide)) :=
  ⟨(h (upLn { replay := [(3, 0)] }) 1).1 1 (by decide),
    (h (upLn { replay := (List.range 256).map (fun i => (i, 0)) }) 1).2.1 (by decide) (by decide),
    (h (withLn 5 { replay := [(3, 0)] }) 1).2.2.1 4 {} [] (by decide) (by decide) (by decide) rfl rfl,
    (h (withLn 5 { replay := [(3, 0)] }) 1).2.2.2.1 (by decide) (by decide),
    ((h (adminLn 3 {}) 1).2.2.2.2 1 1).1 (by decide) rfl |>.1 (by decide),
    ((h (adminLn 6 {}) 1).2.2.2.2 1 1).1 (by decide) rfl |>.2 (by decide),
    ((h (adminLn 3 {}) 1).2.2.2.2 1 0).2.1 (by decide) |>.1 rfl (by decide),
    ((h (adminLn 0 {}) 1).2.2.2.2 1 1).2.1 (by decide) |>.2 (by decide) (by decide),
    ((h admin 1).2.2.2.2 1 1).2.2.1 (by decide) (by decide),
    ((h admin 1).2.2.2.2 1 9).2.2.2.1 (by decide) (by decide) (by decide) (by decide) rfl,
    ((h (admin.setObj oDevId 9) 1).2.2.2.2 1 1).2.2.2.2.1 (by decide) (by decide),
    ((h (let s := adminLn 3 {}; { s with fabric := { s.fabric with fences := [{ dev := 8, kind := 2 }, { dev := 9, kind := 2 }] } }) 1).2.2.2.2 1 8).2.2.2.2.2 (by decide)⟩

theorem meets_SealsAndFences (h : Obligations.SealsAndFences) :
    type_of% (((h (mayWrite (sealing 0x34 [] { held8 with sepoch := 6 }))).1 2 3 (desc 0x34 [(0, 8, 65536), (8, 8, 65536)])).1 ⟨rfl, rfl, rfl⟩ (by decide) (by decide) (by decide) (by decide)) ∧
    type_of% (((h (mayWrite (sealing 0x35 [region1 [8] [] false] { held8 with sealed := true, wr := false, sepoch := 3 }))).1 2 3 (desc 0x35 [(0, 8, 65536), (8, 8, 65536)])).2 _ ⟨rfl, rfl, rfl⟩ (by decide) (by decide) rfl (by decide) |>.1 (by decide)) ∧
    type_of% (((h (mayWrite (sealing 0x35 [region1 [] [] false] { held8 with sealed := true, wr := false, sepoch := 3 }))).1 2 3 (desc 0x35 [(0, 8, 65536), (8, 8, 65536)])).2 (region1 [] [] false) ⟨rfl, rfl, rfl⟩ (by decide) (by decide) rfl (by decide) |>.2 (by decide) (by decide) rfl rfl) ∧
    type_of% (((h copies).2.1 1 { reqP 0x30 0 with addr := 8 * 2 ^ 48, payload := leBytes 8 65536 }).1) ∧
    type_of% (((h copies).2.1 1 (reqP 0x32 0)).2.1) ∧
    type_of% (((h copies).2.1 1 (reqP 0x33 0)).2.2.1) ∧
    type_of% (((h (sealing 0 [region1 [] [8, 9] true] { held8 with sealed := true })).2.1 1 { reqP 0x31 0 with epoch := 4 }).2.2.2.1 _ rfl rfl (by decide) |>.1 (by decide)) ∧
    type_of% (((h (mayWrite (sealing 0 [freeing1] { held8 with sealed := true }))).2.1 1 { reqP 0x31 0 with epoch := 4 }).2.2.2.1 freeing1 rfl rfl (by decide) |>.2.1 2 3 _ { held8 with sealed := true } (by decide) rfl rfl rfl rfl rfl (by decide) rfl) ∧
    type_of% (((h (mayWrite (sealing 0 [region1 [] [8] true] { held8 with sealed := true }))).2.1 1 { reqP 0x31 0 with epoch := 4 }).2.2.2.1 (region1 [] [8] true) rfl rfl (by decide) |>.2.2 2 3 _ (by decide) rfl rfl rfl rfl (by decide) rfl (by decide) rfl) ∧
    type_of% (((h copies).2.1 1 (reqP 0x31 0)).2.2.2.2 9 (Or.inl (by decide))) ∧
    type_of% ((h (sealing 0 [region1 [] [8, 9] true] { held8 with sealed := true })).2.2.1 (region1 [] [8, 9] true) rfl (by decide) (by decide)) ∧
    type_of% ((h copies).2.2.2 _ rfl rfl (by decide)) :=
  ⟨((h (mayWrite (sealing 0x34 [] { held8 with sepoch := 6 }))).1 2 3 (desc 0x34 [(0, 8, 65536), (8, 8, 65536)])).1 ⟨rfl, rfl, rfl⟩ (by decide) (by decide) (by decide) (by decide),
    ((h (mayWrite (sealing 0x35 [region1 [8] [] false] { held8 with sealed := true, wr := false, sepoch := 3 }))).1 2 3 (desc 0x35 [(0, 8, 65536), (8, 8, 65536)])).2 _ ⟨rfl, rfl, rfl⟩ (by decide) (by decide) rfl (by decide) |>.1 (by decide),
    ((h (mayWrite (sealing 0x35 [region1 [] [] false] { held8 with sealed := true, wr := false, sepoch := 3 }))).1 2 3 (desc 0x35 [(0, 8, 65536), (8, 8, 65536)])).2 (region1 [] [] false) ⟨rfl, rfl, rfl⟩ (by decide) (by decide) rfl (by decide) |>.2 (by decide) (by decide) rfl rfl,
    ((h copies).2.1 1 { reqP 0x30 0 with addr := 8 * 2 ^ 48, payload := leBytes 8 65536 }).1,
    ((h copies).2.1 1 (reqP 0x32 0)).2.1,
    ((h copies).2.1 1 (reqP 0x33 0)).2.2.1,
    ((h (sealing 0 [region1 [] [8, 9] true] { held8 with sealed := true })).2.1 1 { reqP 0x31 0 with epoch := 4 }).2.2.2.1 _ rfl rfl (by decide) |>.1 (by decide),
    ((h (mayWrite (sealing 0 [freeing1] { held8 with sealed := true }))).2.1 1 { reqP 0x31 0 with epoch := 4 }).2.2.2.1 freeing1 rfl rfl (by decide) |>.2.1 2 3 _ { held8 with sealed := true } (by decide) rfl rfl rfl rfl rfl (by decide) rfl,
    ((h (mayWrite (sealing 0 [region1 [] [8] true] { held8 with sealed := true }))).2.1 1 { reqP 0x31 0 with epoch := 4 }).2.2.2.1 (region1 [] [8] true) rfl rfl (by decide) |>.2.2 2 3 _ (by decide) rfl rfl rfl rfl (by decide) rfl (by decide) rfl,
    ((h copies).2.1 1 (reqP 0x31 0)).2.2.2.2 9 (Or.inl (by decide)),
    (h (sealing 0 [region1 [] [8, 9] true] { held8 with sealed := true })).2.2.1 (region1 [] [8, 9] true) rfl (by decide) (by decide),
    (h copies).2.2.2 _ rfl rfl (by decide)⟩

/-- The host link is up and may reach the device. -/
def linked (f : HostSide → HostSide) : State := let s := keep (desc 0 []) (pg 0 4); { s with
  host := f { s.host with up := true, perst := false }
  objs := [(objKey 0x1001 0, 0x70), (objKey 0x2300 0x0B, 64)] }
def apd (p : Page) (base : W64) : State := let s := linked (fun h => { h with aps := [(0, { base := base, ctl := 0x80000001 })] }); { s with
  keeper := { s.keeper with pages := [(1, some p)] }, mem := [(65540, 5)] }
def spdm (n : Nat) : State := let s := linked id; { s with access := { spdm := n } }
def reqS (l : List (Nat × Nat × Nat)) : List Byte := leBytes 40 (l.foldl (fun a f => a + f.2.2 * 2 ^ (8 * f.1)) 0x12)
/-- The management port serves; session 33 is open to the sender of `hd`. -/
def port : State := { ready with
  objs := [(objKey 0x1001 0, 0x70), (objKey 0x1100 9, 1)]
  mgmt := { dadDone := true, sessions := [(1, { isOpen := true, level := 2, opens := 1, path := .port 5 9 })] } }
def hd (n sess : Nat) : FrameHdr := { path := .port 5 9, rx := n, len := n, nops := 1, session := sess, seq := 1 }
def relayed : State := net (fun s => { s with mgmt := { dadDone := true, relays := [{ hdr := { (hd 28 0) with route := 8 } }] } })
def mgtOf (b : List Byte) : Pkt := { type := 0x40, vc := 8, src := 8, dst := 0, payload := b }
def behind : State := let s := apd (pg 0 4) 0; { s with host := { s.host with posted := [.bar2 65544 1 (some [1]) false] } }

theorem meets_HostLinkAndItsResets (h : Obligations.HostLinkAndItsResets) :
    type_of% (((h (linked id)).1 rfl).1) ∧
    type_of% (((h (linked id)).1 rfl).2.1) ∧
    type_of% (((h (linked id)).1 rfl).2.2.1) ∧
    type_of% (((h (linked id)).1 rfl).2.2.2.1) ∧
    type_of% (((h (linked id)).1 rfl).2.2.2.2 6) ∧
    type_of% (((h (linked id)).2.1 (by decide)).1 rfl) ∧
    type_of% (((h (linked (fun h => { h with perst := true }))).2.1 (by decide)).2 rfl) ∧
    type_of% ((h { linked id with dev := { straps := some 4 } }).2.2.1 (by decide)) ∧
    type_of% ((h (let s := linked (fun h => { h with up := false, training := true }); s.setObj oCap 64)).2.2.2.1 32 8 true rfl (by decide) (by decide) (by decide)) ∧
    type_of% ((h { linked id with mgmt := admin.mgmt }).2.2.2.2.1 1 1 (by decide) rfl) ∧
    type_of% ((h (linked id)).2.2.2.2.2 3) :=
  ⟨((h (linked id)).1 rfl).1,
    ((h (linked id)).1 rfl).2.1,
    ((h (linked id)).1 rfl).2.2.1,
    ((h (linked id)).1 rfl).2.2.2.1,
    ((h (linked id)).1 rfl).2.2.2.2 6,
    ((h (linked id)).2.1 (by decide)).1 rfl,
    ((h (linked (fun h => { h with perst := true }))).2.1 (by decide)).2 rfl,
    (h { linked id with dev := { straps := some 4 } }).2.2.1 (by decide),
    (h (let s := linked (fun h => { h with up := false, training := true }); s.setObj oCap 64)).2.2.2.1 32 8 true rfl (by decide) (by decide) (by decide),
    (h { linked id with mgmt := admin.mgmt }).2.2.2.2.1 1 1 (by decide) rfl,
    (h (linked id)).2.2.2.2.2 3⟩

theorem meets_HostReachesRegistersAndMemory (h : Obligations.HostReachesRegistersAndMemory) :
    type_of% (((h (linked id)).1 1 0x80000001 rfl (by decide)).1 (by decide) (by decide) |>.1 (by decide)) ∧
    type_of% (((h (linked id)).1 1 0x80000002 rfl (by decide)).1 (by decide) (by decide) |>.2 (by decide)) ∧
    type_of% (((h (apd (pg 0 4) 0)).1 0 0 rfl (by decide)).2 (by decide) (by decide)) ∧
    type_of% (((h (apd (pg 0 4) 0)).2.1 65536 8 rfl (by decide)).1 (by decide) (by decide) (by decide) (by decide)) ∧
    type_of% (((h (apd (pg 0 4) 0)).2.1 0 8 rfl (by decide)).2.1 (by decide) (by decide)) ∧
    type_of% (((h behind).2.1 65536 8 rfl (by decide)).2.2 (by decide)) ∧
    type_of% (((h (apd (pg 0 4) 0)).2.2.1 65544 [1, 2, 3, 4, 5, 6, 7, 8] true rfl (by decide) (by decide)).1 (by decide) (by decide) (by decide) (by decide)) ∧
    type_of% (((h (apd { pg 0 4 with wr := false } 0)).2.2.1 65544 [1] false rfl (by decide) (by decide)).2 (by decide) (by decide)) ∧
    type_of% (((h (linked id)).2.2.2.1 3 0x80000010 rfl (by decide)).1 (by decide) (by decide)) ∧
    type_of% (((h (linked (fun h => { h with pool := [(3, { slots := 16, state := 1 })] }))).2.2.2.1 3 0 rfl (by decide)).2.1 (by decide) rfl rfl) ∧
    type_of% (((h (linked (fun h => { h with pool := [(3, { slots := 16, state := 1, used := [2] })] }))).2.2.2.1 3 0 rfl (by decide)).2.2 (by decide) rfl (by decide)) ∧
    type_of% (((h (linked id)).2.2.2.2.1 3 0xFF [] rfl (by decide)).1 (by decide)) ∧
    type_of% (((h (linked id)).2.2.2.2.1 3 0xFF [] rfl (by decide)).2) ∧
    type_of% (((h (linked id)).2.2.2.2.2.1 (0x2000) [] rfl (by decide)).1 2 (by decide) |>.1 rfl) ∧
    type_of% (((h (linked id)).2.2.2.2.2.1 (0x2008) [] rfl (by decide)).1 2 (by decide) |>.2.1 rfl) ∧
    type_of% (((h (linked id)).2.2.2.2.2.1 (0x2028) [] rfl (by decide)).1 2 (by decide) |>.2.2.1 rfl) ∧
    type_of% (((h (linked id)).2.2.2.2.2.1 (0x202C) [] rfl (by decide)).1 2 (by decide) |>.2.2.2.1 rfl (by decide)) ∧
    type_of% (((h (linked id)).2.2.2.2.2.1 (0x2030) [] rfl (by decide)).1 2 (by decide) |>.2.2.2.2 0x30 (by decide) (by decide) (by decide) rfl) ∧
    type_of% (((h (linked id)).2.2.2.2.2.1 (0x100000) [] rfl (by decide)).2.1 rfl) ∧
    type_of% (((h (linked id)).2.2.2.2.2.1 (0x100004) [] rfl (by decide)).2.2.1 rfl (by decide)) ∧
    type_of% (((h (linked id)).2.2.2.2.2.1 (0x101018) [] rfl (by decide)).2.2.2.1 1 (by decide) rfl) ∧
    type_of% (((h (linked id)).2.2.2.2.2.1 (0x200070) [] rfl (by decide)).2.2.2.2.1 3 (by decide) rfl (by decide)) ∧
    type_of% (((h (linked id)).2.2.2.2.2.1 (0x100002) [] rfl (by decide)).2.2.2.2.2.1 4 (by decide)) ∧
    type_of% (((h (linked id)).2.2.2.2.2.1 (0x210004) [] rfl (by decide)).2.2.2.2.2.2 (by decide) (by decide)) ∧
    type_of% ((h behind).2.2.2.2.2.2.1 0x2008 8 none [] rfl (by decide)) ∧
    type_of% ((h behind).2.2.2.2.2.2.1 0x2008 8 (some 5) [] rfl (by decide)) ∧
    type_of% (((h (linked id)).2.2.2.2.2.2.2 [0] rfl).1 (by decide)) ∧
    type_of% (((h (linked id)).2.2.2.2.2.2.2 [1] rfl).2 (by decide)) :=
  ⟨((h (linked id)).1 1 0x80000001 rfl (by decide)).1 (by decide) (by decide) |>.1 (by decide),
    ((h (linked id)).1 1 0x80000002 rfl (by decide)).1 (by decide) (by decide) |>.2 (by decide),
    ((h (apd (pg 0 4) 0)).1 0 0 rfl (by decide)).2 (by decide) (by decide),
    ((h (apd (pg 0 4) 0)).2.1 65536 8 rfl (by decide)).1 (by decide) (by decide) (by decide) (by decide),
    ((h (apd (pg 0 4) 0)).2.1 0 8 rfl (by decide)).2.1 (by decide) (by decide),
    ((h behind).2.1 65536 8 rfl (by decide)).2.2 (by decide),
    ((h (apd (pg 0 4) 0)).2.2.1 65544 [1, 2, 3, 4, 5, 6, 7, 8] true rfl (by decide) (by decide)).1 (by decide) (by decide) (by decide) (by decide),
    ((h (apd { pg 0 4 with wr := false } 0)).2.2.1 65544 [1] false rfl (by decide) (by decide)).2 (by decide) (by decide),
    ((h (linked id)).2.2.2.1 3 0x80000010 rfl (by decide)).1 (by decide) (by decide),
    ((h (linked (fun h => { h with pool := [(3, { slots := 16, state := 1 })] }))).2.2.2.1 3 0 rfl (by decide)).2.1 (by decide) rfl rfl,
    ((h (linked (fun h => { h with pool := [(3, { slots := 16, state := 1, used := [2] })] }))).2.2.2.1 3 0 rfl (by decide)).2.2 (by decide) rfl (by decide),
    ((h (linked id)).2.2.2.2.1 3 0xFF [] rfl (by decide)).1 (by decide),
    ((h (linked id)).2.2.2.2.1 3 0xFF [] rfl (by decide)).2,
    ((h (linked id)).2.2.2.2.2.1 (0x2000) [] rfl (by decide)).1 2 (by decide) |>.1 rfl,
    ((h (linked id)).2.2.2.2.2.1 (0x2008) [] rfl (by decide)).1 2 (by decide) |>.2.1 rfl,
    ((h (linked id)).2.2.2.2.2.1 (0x2028) [] rfl (by decide)).1 2 (by decide) |>.2.2.1 rfl,
    ((h (linked id)).2.2.2.2.2.1 (0x202C) [] rfl (by decide)).1 2 (by decide) |>.2.2.2.1 rfl (by decide),
    ((h (linked id)).2.2.2.2.2.1 (0x2030) [] rfl (by decide)).1 2 (by decide) |>.2.2.2.2 0x30 (by decide) (by decide) (by decide) rfl,
    ((h (linked id)).2.2.2.2.2.1 (0x100000) [] rfl (by decide)).2.1 rfl,
    ((h (linked id)).2.2.2.2.2.1 (0x100004) [] rfl (by decide)).2.2.1 rfl (by decide),
    ((h (linked id)).2.2.2.2.2.1 (0x101018) [] rfl (by decide)).2.2.2.1 1 (by decide) rfl,
    ((h (linked id)).2.2.2.2.2.1 (0x200070) [] rfl (by decide)).2.2.2.2.1 3 (by decide) rfl (by decide),
    ((h (linked id)).2.2.2.2.2.1 (0x100002) [] rfl (by decide)).2.2.2.2.2.1 4 (by decide),
    ((h (linked id)).2.2.2.2.2.1 (0x210004) [] rfl (by decide)).2.2.2.2.2.2 (by decide) (by decide),
    (h behind).2.2.2.2.2.2.1 0x2008 8 none [] rfl (by decide),
    (h behind).2.2.2.2.2.2.1 0x2008 8 (some 5) [] rfl (by decide),
    ((h (linked id)).2.2.2.2.2.2.2 [0] rfl).1 (by decide),
    ((h (linked id)).2.2.2.2.2.2.2 [1] rfl).2 (by decide)⟩

theorem meets_SpdmRequestsAreAnswered (h : Obligations.SpdmRequestsAreAnswered) :
    type_of% ((h (spdm 0) [0x10, 0x84] rfl (by decide)).1 (by decide) (by decide)) ∧
    type_of% ((h (spdm 1) (reqS [(1, 1, 0xE1)]) rfl (by decide)).2.1 (by decide) |>.1 (by decide) rfl) ∧
    type_of% ((h (spdm 2) (reqS [(1, 1, 0xE3), (6, 1, 1), (8, 4, 0x400), (12, 4, 2)]) rfl (by decide)).2.1 (by decide) |>.2.1 (by decide) rfl (by decide) (by decide) (by decide)) ∧
    type_of% (((h (spdm 3) (reqS [(1, 1, 0x81)]) rfl (by decide)).2.1 (by decide)).2.2 (by decide) |>.1 (by decide)) ∧
    type_of% (((h (spdm 3) (reqS [(1, 1, 0x82), (6, 2, 9)]) rfl (by decide)).2.1 (by decide)).2.2 (by decide) |>.2.1 (by decide) (by decide)) ∧
    type_of% (((h (spdm 3) (reqS [(1, 1, 0x83)]) rfl (by decide)).2.1 (by decide)).2.2 (by decide) |>.2.2.1 (by decide) (by decide) (by decide)) ∧
    type_of% ((((h (spdm 3) (reqS [(1, 1, 0xE0)]) rfl (by decide)).2.1 (by decide)).2.2 (by decide)).2.2.2.1 (by decide) (by decide) |>.1 (by decide)) ∧
    type_of% ((((h (spdm 3) (reqS [(1, 1, 0xE0), (3, 1, 9)]) rfl (by decide)).2.1 (by decide)).2.2 (by decide)).2.2.2.1 (by decide) (by decide) |>.2 (by decide) (by decide)) ∧
    type_of% ((((h (spdm 3) ([0x12, 0xFE, 0, 0, 3, 0, 2, 0xD4, 0x1F, 33, 0, 1] ++ List.replicate 32 7) rfl (by decide)).2.1 (by decide)).2.2 (by decide)).2.2.2.2 (by decide) (by decide) |>.1 (by decide) (by decide)) ∧
    type_of% ((((h (spdm 3) [0x12, 0xFE, 0, 0, 3, 0, 2, 0xD4, 0x1F, 5, 0, 2, 0, 0, 9, 0] rfl (by decide)).2.1 (by decide)).2.2 (by decide)).2.2.2.2 (by decide) (by decide) |>.2 (by decide) (by decide) (Nat.zero_le _)) ∧
    type_of% ((h (spdm 0) [0x12, 0x99] rfl (by decide)).2.2 (by decide)) :=
  ⟨(h (spdm 0) [0x10, 0x84] rfl (by decide)).1 (by decide) (by decide),
    (h (spdm 1) (reqS [(1, 1, 0xE1)]) rfl (by decide)).2.1 (by decide) |>.1 (by decide) rfl,
    (h (spdm 2) (reqS [(1, 1, 0xE3), (6, 1, 1), (8, 4, 0x400), (12, 4, 2)]) rfl (by decide)).2.1 (by decide) |>.2.1 (by decide) rfl (by decide) (by decide) (by decide),
    ((h (spdm 3) (reqS [(1, 1, 0x81)]) rfl (by decide)).2.1 (by decide)).2.2 (by decide) |>.1 (by decide),
    ((h (spdm 3) (reqS [(1, 1, 0x82), (6, 2, 9)]) rfl (by decide)).2.1 (by decide)).2.2 (by decide) |>.2.1 (by decide) (by decide),
    ((h (spdm 3) (reqS [(1, 1, 0x83)]) rfl (by decide)).2.1 (by decide)).2.2 (by decide) |>.2.2.1 (by decide) (by decide) (by decide),
    (((h (spdm 3) (reqS [(1, 1, 0xE0)]) rfl (by decide)).2.1 (by decide)).2.2 (by decide)).2.2.2.1 (by decide) (by decide) |>.1 (by decide),
    (((h (spdm 3) (reqS [(1, 1, 0xE0), (3, 1, 9)]) rfl (by decide)).2.1 (by decide)).2.2 (by decide)).2.2.2.1 (by decide) (by decide) |>.2 (by decide) (by decide),
    (((h (spdm 3) ([0x12, 0xFE, 0, 0, 3, 0, 2, 0xD4, 0x1F, 33, 0, 1] ++ List.replicate 32 7) rfl (by decide)).2.1 (by decide)).2.2 (by decide)).2.2.2.2 (by decide) (by decide) |>.1 (by decide) (by decide),
    (((h (spdm 3) [0x12, 0xFE, 0, 0, 3, 0, 2, 0xD4, 0x1F, 5, 0, 2, 0, 0, 9, 0] rfl (by decide)).2.1 (by decide)).2.2 (by decide)).2.2.2.2 (by decide) (by decide) |>.2 (by decide) (by decide) (Nat.zero_le _),
    (h (spdm 0) [0x12, 0x99] rfl (by decide)).2.2 (by decide)⟩

theorem meets_DictionaryOperationsAreAnswered (h : Obligations.DictionaryOperationsAreAnswered) :
    type_of% (((h port (hd 28 0) { idx := 0x2410, sub := 2 } [] ⟨⟨5, 9, rfl⟩, by decide, rfl, rfl⟩ rfl rfl).1 _ rfl rfl).1 (by unfold FrameHdr.asks; decide) (by decide) (by decide) rfl (by decide) (by decide)) ∧
    type_of% (((h port (hd 36 0) { idx := 0x2401, data := [1, 0, 0, 0, 2, 0, 0, 0] } [] ⟨⟨5, 9, rfl⟩, by decide, rfl, rfl⟩ rfl rfl).1 _ rfl rfl).2.1 1 2 (by unfold FrameHdr.asks; decide) (by decide) (by decide) (by decide) (by decide) (by decide) (by decide) (by decide) (by decide) (by decide) (by decide)) ∧
    type_of% (((h port (hd 28 0) { idx := 0x2401 } [] ⟨⟨5, 9, rfl⟩, by decide, rfl, rfl⟩ rfl rfl).1 _ rfl rfl).2.2 (by unfold FrameHdr.asks; decide) rfl (by decide)) ∧
    type_of% ((h port (hd 28 0) { idx := 0x2410, sub := 2 } [] ⟨⟨5, 9, rfl⟩, by decide, rfl, rfl⟩ rfl rfl).2.1 (objKey 0x2410 3) rfl (by unfold FrameHdr.asks; decide) (by decide) rfl (by decide)) ∧
    type_of% (((h port (hd 32 33) { idx := 0x2410, sub := 2, data := [40] } [] ⟨⟨5, 9, rfl⟩, by decide, rfl, rfl⟩ rfl rfl).2.2.1 ⟨by decide, by decide, _, rfl, rfl, rfl⟩).1 (by unfold FrameHdr.asks; decide) |>.1 _ (by decide) rfl (by decide) (by decide)) ∧
    type_of% (((h port (hd 32 33) { idx := 0x2410, sub := 2, data := [81] } [] ⟨⟨5, 9, rfl⟩, by decide, rfl, rfl⟩ rfl rfl).2.2.1 ⟨by decide, by decide, _, rfl, rfl, rfl⟩).1 (by unfold FrameHdr.asks; decide) |>.2 (by decide)) ∧
    type_of% (((h port (hd 40 33) { idx := 0x2441, data := leBytes 4 9 ++ leBytes 2 1 ++ leBytes 2 4 ++ leBytes 4 0x80040000 } [] ⟨⟨5, 9, rfl⟩, by decide, rfl, rfl⟩ rfl rfl).2.2.1 ⟨by decide, by decide, _, rfl, rfl, rfl⟩).2.1 _ 9 0x80040000 (by unfold FrameHdr.asks; decide) rfl rfl rfl rfl (by decide) (by decide) (by decide) (by decide) (by decide)) ∧
    type_of% (((h port (hd 28 33) {} [] ⟨⟨5, 9, rfl⟩, by decide, rfl, rfl⟩ rfl rfl).2.2.1 ⟨by decide, by decide, _, rfl, rfl, rfl⟩).2.2.1 (by unfold FrameHdr.asks; decide) rfl) ∧
    type_of% (((h port (hd 28 33) {} [] ⟨⟨5, 9, rfl⟩, by decide, rfl, rfl⟩ rfl rfl).2.2.1 ⟨by decide, by decide, _, rfl, rfl, rfl⟩).2.2.2 (by unfold FrameHdr.asks; decide) rfl) ∧
    type_of% ((h port (hd 28 0) {} [] ⟨⟨5, 9, rfl⟩, by decide, rfl, rfl⟩ rfl rfl).2.2.2 0 rfl (by unfold FrameHdr.asks; decide) rfl rfl rfl (by decide)) :=
  ⟨((h port (hd 28 0) { idx := 0x2410, sub := 2 } [] ⟨⟨5, 9, rfl⟩, by decide, rfl, rfl⟩ rfl rfl).1 _ rfl rfl).1 (by unfold FrameHdr.asks; decide) (by decide) (by decide) rfl (by decide) (by decide),
    ((h port (hd 36 0) { idx := 0x2401, data := [1, 0, 0, 0, 2, 0, 0, 0] } [] ⟨⟨5, 9, rfl⟩, by decide, rfl, rfl⟩ rfl rfl).1 _ rfl rfl).2.1 1 2 (by unfold FrameHdr.asks; decide) (by decide) (by decide) (by decide) (by decide) (by decide) (by decide) (by decide) (by decide) (by decide) (by decide),
    ((h port (hd 28 0) { idx := 0x2401 } [] ⟨⟨5, 9, rfl⟩, by decide, rfl, rfl⟩ rfl rfl).1 _ rfl rfl).2.2 (by unfold FrameHdr.asks; decide) rfl (by decide),
    (h port (hd 28 0) { idx := 0x2410, sub := 2 } [] ⟨⟨5, 9, rfl⟩, by decide, rfl, rfl⟩ rfl rfl).2.1 (objKey 0x2410 3) rfl (by unfold FrameHdr.asks; decide) (by decide) rfl (by decide),
    ((h port (hd 32 33) { idx := 0x2410, sub := 2, data := [40] } [] ⟨⟨5, 9, rfl⟩, by decide, rfl, rfl⟩ rfl rfl).2.2.1 ⟨by decide, by decide, _, rfl, rfl, rfl⟩).1 (by unfold FrameHdr.asks; decide) |>.1 _ (by decide) rfl (by decide) (by decide),
    ((h port (hd 32 33) { idx := 0x2410, sub := 2, data := [81] } [] ⟨⟨5, 9, rfl⟩, by decide, rfl, rfl⟩ rfl rfl).2.2.1 ⟨by decide, by decide, _, rfl, rfl, rfl⟩).1 (by unfold FrameHdr.asks; decide) |>.2 (by decide),
    ((h port (hd 40 33) { idx := 0x2441, data := leBytes 4 9 ++ leBytes 2 1 ++ leBytes 2 4 ++ leBytes 4 0x80040000 } [] ⟨⟨5, 9, rfl⟩, by decide, rfl, rfl⟩ rfl rfl).2.2.1 ⟨by decide, by decide, _, rfl, rfl, rfl⟩).2.1 _ 9 0x80040000 (by unfold FrameHdr.asks; decide) rfl rfl rfl rfl (by decide) (by decide) (by decide) (by decide) (by decide),
    ((h port (hd 28 33) {} [] ⟨⟨5, 9, rfl⟩, by decide, rfl, rfl⟩ rfl rfl).2.2.1 ⟨by decide, by decide, _, rfl, rfl, rfl⟩).2.2.1 (by unfold FrameHdr.asks; decide) rfl,
    ((h port (hd 28 33) {} [] ⟨⟨5, 9, rfl⟩, by decide, rfl, rfl⟩ rfl rfl).2.2.1 ⟨by decide, by decide, _, rfl, rfl, rfl⟩).2.2.2 (by unfold FrameHdr.asks; decide) rfl,
    (h port (hd 28 0) {} [] ⟨⟨5, 9, rfl⟩, by decide, rfl, rfl⟩ rfl rfl).2.2.2 0 rfl (by unfold FrameHdr.asks; decide) rfl rfl rfl (by decide)⟩

theorem meets_RelaysAliasesAndThePort (h : Obligations.RelaysAliasesAndThePort) :
    type_of% ((h { relayed with objs := (objKey 0x1001 0, 0x70) :: (objKey 0x1100 9, 1) :: relayed.objs.drop 1 }).1 { hd 28 0 with route := 8 } { idx := 0x2410, sub := 2 } [] ⟨5, 9, rfl⟩ (by decide) (by unfold FrameHdr.asks; decide) (by decide) (by decide)) :=
  by
  have x := (h { relayed with objs := (objKey 0x1001 0, 0x70) :: (objKey 0x1100 9, 1) :: relayed.objs.drop 1 }).1 { hd 28 0 with route := 8 } { idx := 0x2410, sub := 2 } [] ⟨5, 9, rfl⟩ (by decide) (by unfold FrameHdr.asks; decide) (by decide) (by decide)
  exact x

theorem meets_RelaysAliasesAndThePort_relayed (h : Obligations.RelaysAliasesAndThePort) :
    type_of% (((h relayed).2.1 1 (mgtOf { hd 28 0 with kind := 2 }.bytes) [] (by decide) (by decide)).1 { hdr := { (hd 28 0) with route := 8 } } (by decide) (by decide) ⟨5, 9, rfl⟩) :=
  by
  have x := ((h relayed).2.1 1 (mgtOf { hd 28 0 with kind := 2 }.bytes) [] (by decide) (by decide)).1 { hdr := { (hd 28 0) with route := 8 } } (by decide) (by decide) ⟨5, 9, rfl⟩
  exact x

theorem meets_RelaysAliasesAndThePort_addressed (h : Obligations.RelaysAliasesAndThePort) :
    type_of% (((h relayed).2.1 1 (mgtOf ({ hd 28 0 with route := 0xFFFF }.bytes ++ ({ op := 1, idx := 0x2410, sub := 2 } : DictOp).bytes)) [] (by decide) (by decide)).2 [{ op := 1, idx := 0x2410, sub := 2 }] (by decide) (by decide) (by decide) (by decide) (by decide) (by decide) (by decide) (by decide) (by decide) (by decide) (by decide) (by decide)) :=
  by
  have x := ((h relayed).2.1 1 (mgtOf ({ hd 28 0 with route := 0xFFFF }.bytes ++ ({ op := 1, idx := 0x2410, sub := 2 } : DictOp).bytes)) [] (by decide) (by decide)).2 [{ op := 1, idx := 0x2410, sub := 2 }] (by decide) (by decide) (by decide) (by decide) (by decide) (by decide) (by decide) (by decide) (by decide) (by decide) (by decide) (by decide)
  exact x

theorem meets_RelaysAliasesAndThePort_lapsed (h : Obligations.RelaysAliasesAndThePort) :
    type_of% ((h relayed).2.2.1 1 _ rfl) :=
  by
  have x := (h relayed).2.2.1 1 _ rfl
  exact x

theorem meets_RelaysAliasesAndThePort_messages (h : Obligations.RelaysAliasesAndThePort) :
    type_of% (((h port).2.2.2.1 7 1 [] _ (by decide) rfl rfl rfl rfl).1 (by decide) (by decide) (by decide) (by decide)) ∧
    type_of% (((h port).2.2.2.1 7 7 [1] _ (by decide) rfl rfl rfl rfl).2 _ (by decide) (by decide) (by decide) rfl (by decide) (by decide) (by decide)) ∧
    type_of% ((h port).2.2.2.2.1 3) ∧
    type_of% ((h ready).2.2.2.2.2.1 (by decide) rfl) :=
  ⟨((h port).2.2.2.1 7 1 [] _ (by decide) rfl rfl rfl rfl).1 (by decide) (by decide) (by decide) (by decide),
    ((h port).2.2.2.1 7 7 [1] _ (by decide) rfl rfl rfl rfl).2 _ (by decide) (by decide) (by decide) rfl (by decide) (by decide) (by decide),
    (h port).2.2.2.2.1 3,
    (h ready).2.2.2.2.2.1 (by decide) rfl⟩

theorem meets_RelaysAliasesAndThePort_port (h : Obligations.RelaysAliasesAndThePort) :
    type_of% (((h { port with mgmt := { port.mgmt with mac := [1, 2, 3, 4, 5, 6] } }).2.2.2.2.2.2.1 77 ([135, 0, 0, 0, 0, 0, 0, 0] ++ linkLocal [1, 2, 3, 4, 5, 6]) rfl (by decide)).1 (by decide) (by decide)) ∧
    type_of% (((h port).2.2.2.2.2.2.1 77 [128, 0, 1, 2, 3] rfl (by decide)).2 (by decide)) ∧
    type_of% ((h { admin with objs := [(objKey 0x1001 0, 0x70), (objKey 0x1100 5, 8)] }).2.2.2.2.2.2.2.1 1 7 (4, .plcaNodeIdWrite 1 7) (by decide) (by decide) (by decide) (by decide)) ∧
    type_of% ((h port).2.2.2.2.2.2.2.2 1 (by decide) (by decide)) :=
  ⟨((h { port with mgmt := { port.mgmt with mac := [1, 2, 3, 4, 5, 6] } }).2.2.2.2.2.2.1 77 ([135, 0, 0, 0, 0, 0, 0, 0] ++ linkLocal [1, 2, 3, 4, 5, 6]) rfl (by decide)).1 (by decide) (by decide),
    ((h port).2.2.2.2.2.2.1 77 [128, 0, 1, 2, 3] rfl (by decide)).2 (by decide),
    (h { admin with objs := [(objKey 0x1001 0, 0x70), (objKey 0x1100 5, 8)] }).2.2.2.2.2.2.2.1 1 7 (4, .plcaNodeIdWrite 1 7) (by decide) (by decide) (by decide) (by decide),
    (h port).2.2.2.2.2.2.2.2 1 (by decide) (by decide)⟩

/-- A device in a start-up phase. -/
def phase (p : Nat) (f : Device → Device) : State := {
  objs := [(objKey 0x1001 0, p)], dev := f { phase := p, pwrgd := true, resetN := true, straps := some 0 } }
def set1 : FwSet := { tuples := [(0xA1, [0, 0, 0, 0, 0, 0, 0, 0])] }
def updState (st : Nat) (f : Device → Device) : State := let s := keep (desc 0 []) (pg 0 0); { s with
  objs := [(objKey 0x1001 0, 0x70), (oUpdAddr, 65536), (oUpdSize, 64), (oUpdState, st)]
  dev := f s.dev, mgmt := admin.mgmt, flash := { slotB := { state := 1, set := set1 } } }
def acting (a : Activation) : State := updState 3 (fun d => { d with act := some a })
/-- A bundle of one image and one tuple of another stepping, all its other bytes 0. -/
def bundled : State := let s := updState 1 (fun d => { d with staging := some (65536, 5489) }); { s with
  mem := [(65536, 0x71), (65537, 0x15), (65540, 1), (65542, 1), (65552, 1)] }
theorem bundled_parses : (parseBundle (bundled.readMem 65536 5489) bundled.dev.running).isSome = true := by decide +kernel
/-- The set and the list of that bundle. -/
def bundle1 : FwSet × List Nat := (parseBundle (bundled.readMem 65536 5489) bundled.dev.running).get bundled_parses
def booted (a b : Nat) : State := { ready with flash := { bootA := some { seq := a }, bootB := some { seq := b } } }
def owned2 (a b : Nat) : State := { ready with flash := { ownerA := some (a, {}), ownerB := some (b, {}) } }

theorem meets_PowerResetAndStraps (h : Obligations.PowerResetAndStraps) :
    type_of% ((h ready).1) ∧
    type_of% (((h (booted 5 4)).2.1 _ _ rfl rfl).1 (by decide)) ∧
    type_of% (((h (booted 4 5)).2.1 _ _ rfl rfl).2 (by decide)) ∧
    type_of% (((h (owned2 5 4)).2.2.1 _ _ rfl rfl).1 (by decide)) ∧
    type_of% (((h (owned2 4 5)).2.2.1 _ _ rfl rfl).2 (by decide)) ∧
    type_of% ((h { booted 5 4 with power := { tripped := true } }).2.2.2.1 true true rfl) ∧
    type_of% ((h ready).2.2.2.2.1 [] true false rfl) ∧
    type_of% ((h { ready with dev := { ready.dev with phase := 0x30 } }).2.2.2.2.1 [3] false true rfl) ∧
    type_of% ((h {}).2.2.2.2.2.1) ∧
    type_of% ((h {}).2.2.2.2.2.2.1 rfl) ∧
    type_of% (((h (phase 0 (fun d => { d with straps := none }))).2.2.2.2.2.2.2 4).1 rfl rfl rfl) ∧
    type_of% (((h ready).2.2.2.2.2.2.2 4).2 (by decide)) :=
  ⟨(h ready).1,
    ((h (booted 5 4)).2.1 _ _ rfl rfl).1 (by decide),
    ((h (booted 4 5)).2.1 _ _ rfl rfl).2 (by decide),
    ((h (owned2 5 4)).2.2.1 _ _ rfl rfl).1 (by decide),
    ((h (owned2 4 5)).2.2.1 _ _ rfl rfl).2 (by decide),
    (h { booted 5 4 with power := { tripped := true } }).2.2.2.1 true true rfl,
    (h ready).2.2.2.2.1 [] true false rfl,
    (h { ready with dev := { ready.dev with phase := 0x30 } }).2.2.2.2.1 [3] false true rfl,
    (h {}).2.2.2.2.2.1,
    (h {}).2.2.2.2.2.2.1 rfl,
    ((h (phase 0 (fun d => { d with straps := none }))).2.2.2.2.2.2.2 4).1 rfl rfl rfl,
    ((h ready).2.2.2.2.2.2.2 4).2 (by decide)⟩

theorem meets_StartUpPhases (h : Obligations.StartUpPhases) :
    type_of% ((h { phase 0 id with flash := { owner := { failures := 6 } } }).1 (some 30) [(1, 5)] (by decide) rfl (by decide)) ∧
    type_of% ((h { phase 0 id with flash := { bootA := some { seq := 7 }, bootB := some { seq := 8, boot := 5 }, ownerA := some (3, { failures := 5 }) } }).1 none [] (by decide) rfl (by decide)) ∧
    type_of% ((h (phase 0x10 id)).2.1 ⟨by decide, rfl, rfl⟩) ∧
    type_of% ((h (phase 0x20 id)).2.2.1 [(5, 1)] [] [2] ⟨by decide, rfl, rfl⟩) ∧
    type_of% ((h (phase 0x30 id)).2.2.2.1 [(3, 1)] [] ⟨by decide, rfl, rfl⟩) ∧
    type_of% ((h (phase 0x40 id)).2.2.2.2.1 ⟨by decide, rfl, rfl⟩) ∧
    type_of% ((h (phase 0x50 id)).2.2.2.2.2.1 ⟨by decide, rfl, rfl⟩) ∧
    type_of% (((h (phase 0x60 id)).2.2.2.2.2.2.1 ⟨by decide, rfl, rfl⟩).1) ∧
    type_of% (((h (phase 0x60 id)).2.2.2.2.2.2.1 ⟨by decide, rfl, rfl⟩).2 (by decide)) ∧
    type_of% ((h ((phase 0x60 id).setObj (oLink 3 1) 2)).2.2.2.2.2.2.2.1 3 (by decide) (by decide)) ∧
    type_of% ((h (phase 0x40 (fun d => { d with pendingWhistle := 2 }))).2.2.2.2.2.2.2.2.1 (by decide) rfl (by decide)) ∧
    type_of% ((h (phase 0x40 id)).2.2.2.2.2.2.2.2.2 (by decide) (by decide)) :=
  ⟨(h { phase 0 id with flash := { owner := { failures := 6 } } }).1 (some 30) [(1, 5)] (by decide) rfl (by decide),
    (h { phase 0 id with flash := { bootA := some { seq := 7 }, bootB := some { seq := 8, boot := 5 }, ownerA := some (3, { failures := 5 }) } }).1 none [] (by decide) rfl (by decide),
    (h (phase 0x10 id)).2.1 ⟨by decide, rfl, rfl⟩,
    (h (phase 0x20 id)).2.2.1 [(5, 1)] [] [2] ⟨by decide, rfl, rfl⟩,
    (h (phase 0x30 id)).2.2.2.1 [(3, 1)] [] ⟨by decide, rfl, rfl⟩,
    (h (phase 0x40 id)).2.2.2.2.1 ⟨by decide, rfl, rfl⟩,
    (h (phase 0x50 id)).2.2.2.2.2.1 ⟨by decide, rfl, rfl⟩,
    ((h (phase 0x60 id)).2.2.2.2.2.2.1 ⟨by decide, rfl, rfl⟩).1,
    ((h (phase 0x60 id)).2.2.2.2.2.2.1 ⟨by decide, rfl, rfl⟩).2 (by decide),
    (h ((phase 0x60 id).setObj (oLink 3 1) 2)).2.2.2.2.2.2.2.1 3 (by decide) (by decide),
    (h (phase 0x40 (fun d => { d with pendingWhistle := 2 }))).2.2.2.2.2.2.2.2.1 (by decide) rfl (by decide),
    (h (phase 0x40 id)).2.2.2.2.2.2.2.2.2 (by decide) (by decide)⟩

theorem meets_FirmwareIsStagedAndActivated (h : Obligations.FirmwareIsStagedAndActivated) :
    type_of% (((h (updState 0 id)).1 1 (by decide)).1 (by decide) (by decide) (by decide)) ∧
    type_of% (((h (updState 2 id)).1 1 (by decide)).2 (by decide)) ∧
    type_of% (((h (updState 1 (fun d => { d with staging := some (65536, 64) }))).2.1 65536 64 rfl (by decide)).1) ∧
    type_of% (((h (updState 1 (fun d => { d with staging := some (65536, 64) }))).2.1 65536 64 rfl (by decide)).2.1 (Or.inr (by decide +kernel))) ∧
    type_of% (((h bundled).2.1 65536 5489 rfl (by decide)).2.2 bundle1.1 bundle1.2 (by decide +kernel) (Option.some_get bundled_parses).symm |>.1 (Or.inr (Or.inl (by decide +kernel)))) ∧
    type_of% (((h (updState 2 id)).2.2.1 1 (by decide)).1 (by decide)) ∧
    type_of% (((h (updState 0 id)).2.2.1 1 (by decide)).2 (by decide)) ∧
    type_of% (((h (updState 2 id)).2.2.2.1 1 (by decide)).1 (by decide)) ∧
    type_of% (((h (updState 0 id)).2.2.2.1 1 (by decide)).2 (by decide)) ∧
    type_of% (((h (acting {})).2.2.2.2.1 _ rfl).1 4 3 rfl rfl (by decide) (by decide) (by decide) (by decide)) ∧
    type_of% (((h { acting { role := 2 } with pass := { ready := some (1, true) } }).2.2.2.2.1 _ rfl).2.1 rfl rfl (by decide)) ∧
    type_of% (((h (acting { role := 2, stage := .freeze })).2.2.2.2.1 _ rfl).2.2.1 rfl rfl) ∧
    type_of% (((h (acting { stage := .restart })).2.2.2.2.1 _ rfl).2.2.2.1 4 (by decide) rfl rfl) ∧
    type_of% (((h (acting { stage := .micro })).2.2.2.2.1 _ rfl).2.2.2.2.1 rfl |>.1 rfl) ∧
    type_of% (((h (acting { stage := .micro, retried := true })).2.2.2.2.1 _ rfl).2.2.2.2.1 rfl |>.2.1 rfl rfl) ∧
    type_of% (((h { acting { stage := .micro } with pass := { layout := some lead } }).2.2.2.2.1 _ rfl).2.2.2.2.1 rfl |>.2.2.1 (by decide)) ∧
    type_of% (((h (acting { stage := .micro, engine := 7 })).2.2.2.2.1 _ rfl).2.2.2.2.1 rfl |>.2.2.2 rfl rfl rfl rfl rfl) ∧
    type_of% (((h (acting {})).2.2.2.2.1 _ rfl).2.2.2.2.2 1 (by decide) (by decide) rfl) ∧
    type_of% (((h (updState 1 (fun d => { d with staging := some (65536, 64) }))).2.2.2.2.2 1 (by decide)).1 (by decide)) ∧
    type_of% (((h (updState 0 id)).2.2.2.2.2 1 (by decide)).2 (by decide)) :=
  ⟨((h (updState 0 id)).1 1 (by decide)).1 (by decide) (by decide) (by decide),
    ((h (updState 2 id)).1 1 (by decide)).2 (by decide),
    ((h (updState 1 (fun d => { d with staging := some (65536, 64) }))).2.1 65536 64 rfl (by decide)).1,
    ((h (updState 1 (fun d => { d with staging := some (65536, 64) }))).2.1 65536 64 rfl (by decide)).2.1 (Or.inr (by decide +kernel)),
    ((h bundled).2.1 65536 5489 rfl (by decide)).2.2 bundle1.1 bundle1.2 (by decide +kernel) (Option.some_get bundled_parses).symm |>.1 (Or.inr (Or.inl (by decide +kernel))),
    ((h (updState 2 id)).2.2.1 1 (by decide)).1 (by decide),
    ((h (updState 0 id)).2.2.1 1 (by decide)).2 (by decide),
    ((h (updState 2 id)).2.2.2.1 1 (by decide)).1 (by decide),
    ((h (updState 0 id)).2.2.2.1 1 (by decide)).2 (by decide),
    ((h (acting {})).2.2.2.2.1 _ rfl).1 4 3 rfl rfl (by decide) (by decide) (by decide) (by decide),
    ((h { acting { role := 2 } with pass := { ready := some (1, true) } }).2.2.2.2.1 _ rfl).2.1 rfl rfl (by decide),
    ((h (acting { role := 2, stage := .freeze })).2.2.2.2.1 _ rfl).2.2.1 rfl rfl,
    ((h (acting { stage := .restart })).2.2.2.2.1 _ rfl).2.2.2.1 4 (by decide) rfl rfl,
    ((h (acting { stage := .micro })).2.2.2.2.1 _ rfl).2.2.2.2.1 rfl |>.1 rfl,
    ((h (acting { stage := .micro, retried := true })).2.2.2.2.1 _ rfl).2.2.2.2.1 rfl |>.2.1 rfl rfl,
    ((h { acting { stage := .micro } with pass := { layout := some lead } }).2.2.2.2.1 _ rfl).2.2.2.2.1 rfl |>.2.2.1 (by decide),
    ((h (acting { stage := .micro, engine := 7 })).2.2.2.2.1 _ rfl).2.2.2.2.1 rfl |>.2.2.2 rfl rfl rfl rfl rfl,
    ((h (acting {})).2.2.2.2.1 _ rfl).2.2.2.2.2 1 (by decide) (by decide) rfl,
    ((h (updState 1 (fun d => { d with staging := some (65536, 64) }))).2.2.2.2.2 1 (by decide)).1 (by decide),
    ((h (updState 0 id)).2.2.2.2.2 1 (by decide)).2 (by decide)⟩

def served (f : Device → Device) : State := { admin with dev := f admin.dev }
def powered (f : Power → Power) : State := { admin with power := f {} }
def rails1 : List (Nat × Nat) := [(800, 1000), (750, 1000), (0, 0), (0, 0), (0, 0), (0, 0), (0, 0)]
def stopping (n : Nat) : State := { (admin.setObj oState 0x90) with dev := { admin.dev with stop := some { cause := 1, step := n } } }
def entry1 : Entry := { code := 0x2801, sev := 6, seq := 1, data := List.replicate 16 0 }
def booked (f : Scorebook → Scorebook) : State := { admin with book := f { entries := [entry1] } }

theorem meets_CoresLeaveAndReturn (h : Obligations.CoresLeaveAndReturn) :
    type_of% (((h (admin.setObj (oCore 3 1) 2)).1 1 3 (by decide)).1 (Or.inl rfl)) ∧
    type_of% (((h admin).1 1 3 (by decide)).2 rfl (by decide) rfl (by decide)) ∧
    type_of% (((h { admin with cores := [(3, { threads := [(0, th)] })] }).1 1 3 (by decide)).2 rfl (by decide) rfl (by decide)) ∧
    type_of% (((h (served (fun d => { d with quar := [3], changes := [chgCore 3] }))).2.1 3).1 (by decide)) ∧
    type_of% (((h admin).2.1 3).2 (by decide)) ∧
    type_of% (((h (admin.setObj (oCore 3 1) 1)).2.2.1 1 3 (by decide)).1 rfl) ∧
    type_of% (((h (admin.setObj (oCore 3 1) 2)).2.2.1 1 3 (by decide)).2 rfl) ∧
    type_of% ((h (served (fun d => { d with testing := [3] }))).2.2.2.1 3 none (by decide)) ∧
    type_of% ((h (served (fun d => { d with testing := [3] }))).2.2.2.1 3 (some 5) (by decide)) ∧
    type_of% ((h admin).2.2.2.2.2.1 4 rfl (by decide) (by decide) ⟨0, by decide, by decide, rfl, by decide⟩) ∧
    type_of% ((h admin).2.2.2.2.2.1 1 rfl (by decide) (by decide) ⟨0, by decide, by decide, rfl, by decide⟩) ∧
    type_of% ((h (served (fun d => { d with silent := [(4, true)] }))).2.2.2.2.2.1 1 rfl (by decide) (by decide) ⟨0, by decide, by decide, rfl, by decide⟩) ∧
    type_of% ((h (served (fun d => { d with changes := [chgFrames 0] }))).2.2.2.2.2.2.1 0 (by decide) rfl) ∧
    type_of% ((h (served (fun d => { d with changes := [chgMshr 5] }))).2.2.2.2.2.2.2.1 5 (by decide) rfl) ∧
    type_of% ((h (served (fun d => { d with changes := [chgSched] }))).2.2.2.2.2.2.2.2.1 (by decide) rfl) ∧
    type_of% ((h (served (fun d => { d with changes := [chgBufs 3] }))).2.2.2.2.2.2.2.2.2 3 (by decide) rfl) :=
  ⟨((h (admin.setObj (oCore 3 1) 2)).1 1 3 (by decide)).1 (Or.inl rfl),
    ((h admin).1 1 3 (by decide)).2 rfl (by decide) rfl (by decide),
    ((h { admin with cores := [(3, { threads := [(0, th)] })] }).1 1 3 (by decide)).2 rfl (by decide) rfl (by decide),
    ((h (served (fun d => { d with quar := [3], changes := [chgCore 3] }))).2.1 3).1 (by decide),
    ((h admin).2.1 3).2 (by decide),
    ((h (admin.setObj (oCore 3 1) 1)).2.2.1 1 3 (by decide)).1 rfl,
    ((h (admin.setObj (oCore 3 1) 2)).2.2.1 1 3 (by decide)).2 rfl,
    (h (served (fun d => { d with testing := [3] }))).2.2.2.1 3 none (by decide),
    (h (served (fun d => { d with testing := [3] }))).2.2.2.1 3 (some 5) (by decide),
    (h admin).2.2.2.2.2.1 4 rfl (by decide) (by decide) ⟨0, by decide, by decide, rfl, by decide⟩,
    (h admin).2.2.2.2.2.1 1 rfl (by decide) (by decide) ⟨0, by decide, by decide, rfl, by decide⟩,
    (h (served (fun d => { d with silent := [(4, true)] }))).2.2.2.2.2.1 1 rfl (by decide) (by decide) ⟨0, by decide, by decide, rfl, by decide⟩,
    (h (served (fun d => { d with changes := [chgFrames 0] }))).2.2.2.2.2.2.1 0 (by decide) rfl,
    (h (served (fun d => { d with changes := [chgMshr 5] }))).2.2.2.2.2.2.2.1 5 (by decide) rfl,
    (h (served (fun d => { d with changes := [chgSched] }))).2.2.2.2.2.2.2.2.1 (by decide) rfl,
    (h (served (fun d => { d with changes := [chgBufs 3] }))).2.2.2.2.2.2.2.2.2 3 (by decide) rfl⟩

theorem meets_PowerAndThermalLoops (h : Obligations.PowerAndThermalLoops) :
    type_of% ((h admin).1 rails1 (by decide) rfl) ∧
    type_of% ((h (powered (fun p => { p with raising := true, avsFails := [(0, 2)] }))).2.1 rfl) ∧
    type_of% (((h (powered (fun p => { p with fpw := 900 }))).2.2.2.1 2 (by decide) (by decide)).1 (Or.inl (by decide))) ∧
    type_of% (((h (powered (fun p => { p with raising := true, clock := [(2, 900)] }))).2.2.2.1 2 (by decide) (by decide)).2 (by decide) rfl) ∧
    type_of% ((h admin).2.2.2.2.1 700 2500 rfl) ∧
    type_of% (((h admin).2.2.2.2.2.1 2600).1 (by decide)) ∧
    type_of% (((h admin).2.2.2.2.2.1 2601).2 (by decide)) ∧
    type_of% ((h (powered (fun p => { p with limiter := true, estimate := 2399 }))).2.2.2.2.2.2.1 rfl (by decide)) ∧
    type_of% ((h (powered (fun p => { p with diodeArmed := true }))).2.2.2.2.2.2.2.1 diode (by decide) rfl |>.1) ∧
    type_of% (((h (powered (fun p => { p with diodeArmed := true }))).2.2.2.2.2.2.2.1 diode (by decide) rfl).2 (degrees 118)) ∧
    type_of% ((h (powered (fun p => { p with diodeArmed := true, tripOnce := [(208, true)] }))).2.2.2.2.2.2.2.1 diode (by decide) rfl |>.2 (degrees 118)) ∧
    type_of% ((h (powered (fun p => { p with diodeArmed := true, tripOnce := [(208, true)] }))).2.2.2.2.2.2.2.1 diode (by decide) rfl |>.2 (degrees 118 - 1)) ∧
    type_of% ((h admin).2.2.2.2.2.2.2.2 [(256, some (degrees 40))] [] (by decide)) :=
  ⟨(h admin).1 rails1 (by decide) rfl,
    (h (powered (fun p => { p with raising := true, avsFails := [(0, 2)] }))).2.1 rfl,
    ((h (powered (fun p => { p with fpw := 900 }))).2.2.2.1 2 (by decide) (by decide)).1 (Or.inl (by decide)),
    ((h (powered (fun p => { p with raising := true, clock := [(2, 900)] }))).2.2.2.1 2 (by decide) (by decide)).2 (by decide) rfl,
    (h admin).2.2.2.2.1 700 2500 rfl,
    ((h admin).2.2.2.2.2.1 2600).1 (by decide),
    ((h admin).2.2.2.2.2.1 2601).2 (by decide),
    (h (powered (fun p => { p with limiter := true, estimate := 2399 }))).2.2.2.2.2.2.1 rfl (by decide),
    (h (powered (fun p => { p with diodeArmed := true }))).2.2.2.2.2.2.2.1 diode (by decide) rfl |>.1,
    ((h (powered (fun p => { p with diodeArmed := true }))).2.2.2.2.2.2.2.1 diode (by decide) rfl).2 (degrees 118),
    (h (powered (fun p => { p with diodeArmed := true, tripOnce := [(208, true)] }))).2.2.2.2.2.2.2.1 diode (by decide) rfl |>.2 (degrees 118),
    (h (powered (fun p => { p with diodeArmed := true, tripOnce := [(208, true)] }))).2.2.2.2.2.2.2.1 diode (by decide) rfl |>.2 (degrees 118 - 1),
    (h admin).2.2.2.2.2.2.2.2 [(256, some (degrees 40))] [] (by decide)⟩

theorem meets_WhistleAndOrderlyStop (h : Obligations.WhistleAndOrderlyStop) :
    type_of% (((h admin).1 1 false (by decide)).1 rfl rfl) ∧
    type_of% (((h (admin.setObj oState stFault)).1 1 true (by decide)).2.1 rfl) ∧
    type_of% (((h (served (fun d => { d with act := some {} }))).1 1 true (by decide)).2.2 rfl rfl rfl) ∧
    type_of% (((h admin).2.1 rfl).2.1 (by decide)) ∧
    type_of% (((h (served (fun d => { d with whistleLow := 9 }))).2.1 rfl).2.2 rfl rfl rfl) ∧
    type_of% (((h (stopping 1)).2.2 _ rfl rfl).1 rfl |>.1 (by decide)) ∧
    type_of% (((h (stopping 4)).2.2 _ rfl rfl).1 rfl |>.2 rfl) ∧
    type_of% (((h { stopping 3 with book := { toFlash := [entry1] } }).2.2 _ rfl rfl).2.1 rfl) ∧
    type_of% (((h (stopping 1)).2.2 _ rfl rfl).2.2.1 (by decide) (by decide)) ∧
    type_of% (((h (stopping 4)).2.2 _ rfl rfl).2.2.2 rfl) :=
  ⟨((h admin).1 1 false (by decide)).1 rfl rfl,
    ((h (admin.setObj oState stFault)).1 1 true (by decide)).2.1 rfl,
    ((h (served (fun d => { d with act := some {} }))).1 1 true (by decide)).2.2 rfl rfl rfl,
    ((h admin).2.1 rfl).2.1 (by decide),
    ((h (served (fun d => { d with whistleLow := 9 }))).2.1 rfl).2.2 rfl rfl rfl,
    ((h (stopping 1)).2.2 _ rfl rfl).1 rfl |>.1 (by decide),
    ((h (stopping 4)).2.2 _ rfl rfl).1 rfl |>.2 rfl,
    ((h { stopping 3 with book := { toFlash := [entry1] } }).2.2 _ rfl rfl).2.1 rfl,
    ((h (stopping 1)).2.2 _ rfl rfl).2.2.1 (by decide) (by decide),
    ((h (stopping 4)).2.2 _ rfl rfl).2.2.2 rfl⟩

theorem meets_AccessIsControlled (h : Obligations.AccessIsControlled) :
    type_of% (((h { admin with access := { lockoutMs := 60000 } } 1).1 [1] (by decide)).1 (by decide)) ∧
    type_of% (((h { admin with flash := { owner := { failures := 5 } } } 1).1 [1] (by decide)).2 (by decide)) ∧
    type_of% (((h admin 1).2.2.2.1 [1] (by decide)).1 (by decide)) ∧
    type_of% (((h admin 1).2.2.2.1 (List.replicate 8 1) (by decide)).2 (by decide)) ∧
    type_of% ((h admin 1).2.2.2.2.1 1 (by decide)) ∧
    type_of% (((h admin 1).2.2.2.2.2.2.1 3373 (by decide)).1 (by decide)) ∧
    type_of% (((h { admin with access := { challenge := some { sess := 1, scope := 1 } } } 1).2.2.2.2.2.2.1 100 (by decide)).2 _ rfl rfl) ∧
    type_of% (((h (admin.setObj oScopes 3) 1).2.2.2.2.2.2.2 1 _ (List.mem_cons_self) (by decide)).1 rfl) ∧
    type_of% (((h ((admin.setObj oScopes 3).setObj (objKey 0x2900 0x0C) 1) 1).2.2.2.2.2.2.2 0 _ (List.mem_cons_of_mem _ List.mem_cons_self) (by decide)).2 rfl rfl) :=
  ⟨((h { admin with access := { lockoutMs := 60000 } } 1).1 [1] (by decide)).1 (by decide),
    ((h { admin with flash := { owner := { failures := 5 } } } 1).1 [1] (by decide)).2 (by decide),
    ((h admin 1).2.2.2.1 [1] (by decide)).1 (by decide),
    ((h admin 1).2.2.2.1 (List.replicate 8 1) (by decide)).2 (by decide),
    (h admin 1).2.2.2.2.1 1 (by decide),
    ((h admin 1).2.2.2.2.2.2.1 3373 (by decide)).1 (by decide),
    ((h { admin with access := { challenge := some { sess := 1, scope := 1 } } } 1).2.2.2.2.2.2.1 100 (by decide)).2 _ rfl rfl,
    ((h (admin.setObj oScopes 3) 1).2.2.2.2.2.2.2 1 _ (List.mem_cons_self) (by decide)).1 rfl,
    ((h ((admin.setObj oScopes 3).setObj (objKey 0x2900 0x0C) 1) 1).2.2.2.2.2.2.2 0 _ (List.mem_cons_of_mem _ List.mem_cons_self) (by decide)).2 rfl rfl⟩

theorem meets_ScorebookAndMarks (h : Obligations.ScorebookAndMarks) :
    type_of% (((h (booked id)).1 0x1003 0 [(2, 5)]).1 (Or.inl (by decide)) (by decide)) ∧
    type_of% (((h (booked id)).1 0x1002 0 [(2, 5)]).1 (Or.inr (by decide)) (by decide)) ∧
    type_of% (((h (booked (fun b => { b with buckets := [(0x1002, { missing := 32, suppressed := 3 })] }))).1 0x1002 0 []).2.1 (by decide) (by decide)) ∧
    type_of% ((h (booked id)).2.2.1 1 16 (by decide)) ∧
    type_of% (((h (booked (fun b => { b with toFlash := [entry1] }))).2.2.2.1 entry1 [] rfl rfl).1 rfl) ∧
    type_of% (((h (booked (fun b => { b with toFlash := [entry1], retrying := true }))).2.2.2.1 entry1 [] rfl rfl).2 rfl) ∧
    type_of% (((h (booked (fun b => { b with erasing := true }))).2.2.2.2.1 1 1 (by decide)).1 rfl) ∧
    type_of% (((h (booked id)).2.2.2.2.1 1 1 (by decide)).2 rfl) ∧
    type_of% ((h (booked (fun b => { b with erasing := true }))).2.2.2.2.2.1 rfl rfl) ∧
    type_of% ((h admin).2.2.2.2.2.2 1 77 (by decide)) :=
  ⟨((h (booked id)).1 0x1003 0 [(2, 5)]).1 (Or.inl (by decide)) (by decide),
    ((h (booked id)).1 0x1002 0 [(2, 5)]).1 (Or.inr (by decide)) (by decide),
    ((h (booked (fun b => { b with buckets := [(0x1002, { missing := 32, suppressed := 3 })] }))).1 0x1002 0 []).2.1 (by decide) (by decide),
    (h (booked id)).2.2.1 1 16 (by decide),
    ((h (booked (fun b => { b with toFlash := [entry1] }))).2.2.2.1 entry1 [] rfl rfl).1 rfl,
    ((h (booked (fun b => { b with toFlash := [entry1], retrying := true }))).2.2.2.1 entry1 [] rfl rfl).2 rfl,
    ((h (booked (fun b => { b with erasing := true }))).2.2.2.2.1 1 1 (by decide)).1 rfl,
    ((h (booked id)).2.2.2.2.1 1 1 (by decide)).2 rfl,
    (h (booked (fun b => { b with erasing := true }))).2.2.2.2.2.1 rfl rfl,
    (h admin).2.2.2.2.2.2 1 77 (by decide)⟩

theorem meets_SlotClearsAndLevelReturn (h : Obligations.SlotClearsAndLevelReturn) :
    type_of% (((h { admin with cores := [(0, { stats := [(5, { drained := 3 })] })], nanSeen := [(5, true)] } 1 5).1 (by decide))) ∧
    type_of% (((h (admin.setObj (objKey 0x2600 5) 48) 1 0xFFFF).1 (by decide))) ∧
    type_of% ((h admin 1 256).2.2.1 (by decide) (by decide)) ∧
    type_of% ((h admin 1 1).2.2.2 (by decide)) :=
  ⟨((h { admin with cores := [(0, { stats := [(5, { drained := 3 })] })], nanSeen := [(5, true)] } 1 5).1 (by decide)),
    ((h (admin.setObj (objKey 0x2600 5) 48) 1 0xFFFF).1 (by decide)),
    (h admin 1 256).2.2.1 (by decide) (by decide),
    (h admin 1 1).2.2.2 (by decide)⟩

theorem meets_RefusedWritesChangeNothing (h : Obligations.RefusedWritesChangeNothing) :
    type_of% ((h admin 0 (objKey 0x1001 2) (numBytes (objKey 0x1001 2) 1)).1 (.whistle 0 false 1) rfl rfl (by decide)) ∧
    type_of% ((h admin 5 (objKey 0x1001 2) (leBytes 1 1)).2.1 (Or.inr rfl)) ∧
    type_of% ((h admin 0 (objKey 0x1001 2) (leBytes 1 1)).2.1 (Or.inl rfl)) ∧
    type_of% (((h admin 1 (objKey 0x7FFF 0) []).2.2 (by decide) _ rfl).1 (by decide)) ∧
    type_of% ((((h admin 1 (objKey 0x1001 0) [1]).2.2 (by decide) _ rfl).2 _ (Option.some_get (by decide)).symm).1 (by decide)) :=
  ⟨(h admin 0 (objKey 0x1001 2) (numBytes (objKey 0x1001 2) 1)).1 (.whistle 0 false 1) rfl rfl (by decide),
    (h admin 5 (objKey 0x1001 2) (leBytes 1 1)).2.1 (Or.inr rfl),
    (h admin 0 (objKey 0x1001 2) (leBytes 1 1)).2.1 (Or.inl rfl),
    ((h admin 1 (objKey 0x7FFF 0) []).2.2 (by decide) _ rfl).1 (by decide),
    (((h admin 1 (objKey 0x1001 0) [1]).2.2 (by decide) _ rfl).2 _ (Option.some_get (by decide)).symm).1 (by decide)⟩

theorem meets_StepsTakeOneCommandAndKeepOutputs (h : Obligations.StepsTakeOneCommandAndKeepOutputs) :
    type_of% ((h { admin with pending := [.lockoutExpire] })) :=
  by
  have x := (h { admin with pending := [.lockoutExpire] })
  exact x

theorem meets_StepsKeepMemoryCanonical (h : Obligations.StepsKeepMemoryCanonical) :
    type_of% (h { admin with pending := [.lockoutExpire] } _ (by decide) rfl) :=
  by
  have x := h { admin with pending := [.lockoutExpire] } _ (by decide) rfl
  exact x/-! ## Well-formedness: for each check a term that it refuses -/

theorem test_wf_pass_packet : (Instr.contrib { p := { member := 65536 } }).wf = false := by decide
theorem test_wf_pass_payload : (Instr.mask { payload := List.replicate 4097 0 }).wf = false := by decide
theorem test_wf_push_epoch : (Instr.push {} 0 65536).wf = false := by decide
theorem test_wf_packet_channel : (Instr.rd 0 { p := { vc := 10 } }).wf = false := by decide
theorem test_wf_packet_device : (Instr.wr 0 { p := { dst := 16384 } }).wf = false := by decide
theorem test_wf_hello : (Instr.hello 0 false { rank := 4, serial := List.replicate 16 0 }).wf = false := by decide
theorem test_wf_hello_serial : (Instr.hello 0 false {}).wf = false := by decide
theorem test_wf_path : (Instr.n40Read (.relayLink 64) 0 0 []).wf = false := by decide
theorem test_wf_frame : (Instr.read { kind := 256 } {} [] []).wf = false := by decide
theorem test_wf_operation : (Instr.ping {} { sub := 256 } [] []).wf = false := by decide
theorem test_wf_other_operation : (Instr.ping {} {} [{ idx := 65536 }] []).wf = false := by decide
theorem test_wf_wrong_bytes : (Instr.patrolRead 0 [{ wrong := [(68, 1)] }]).wf = false := by decide
theorem test_wf_wrong_byte_twice : (Instr.patrolRead 0 [{ wrong := [(1, 1), (1, 2)] }]).wf = false := by decide
theorem test_wf_frame_number : (Instr.ack 0 4096 false).wf = false := by decide
theorem test_wf_credits : (Instr.credit 0 [1, 2] false).wf = false := by decide
theorem test_wf_lanes : (Instr.frameLock 0 3).wf = false ∧ (Instr.laneLockLoss 0 2).wf = false := by decide
theorem test_wf_session : (Instr.leaveLevel (2 ^ 32) 0).wf = false := by decide
theorem test_wf_value : (Instr.hostTimeMarkWrite 1 (2 ^ 64)).wf = false := by decide
theorem test_wf_register : (Instr.registerWrite 4 0 none []).wf = false := by decide
theorem test_wf_config : (Instr.configRequest 4094 4 none).wf = false := by decide
theorem test_wf_bar2 : (Instr.bar2Read 0 { n := 0 }).wf = false ∧ (Instr.bar2Write 0 [] {}).wf = false := by decide
theorem test_wf_cause : (Instr.udpDatagramDiscard 8).wf = false := by decide
theorem test_wf_rails : (Instr.powerLoopIteration [] []).wf = false := by decide
theorem test_wf_symbols : (Instr.frameReceive 0 0 0 (List.replicate 640 0) [(544, 1)]).wf = false := by decide
theorem test_wf_accepts : (Instr.hostTimeMarkWrite 1 1).wf = true ∧ (Instr.contrib { p := {} }).wf = true ∧ (Instr.iAdd 0 0 {}).wf = true := by decide

/-! ## Values that the spec's own examples give -/

/-- The example of chapter 02: 168.5 × 2⁻³ + 0.25 into E4M3. -/
theorem test_drain_rounds : (convert 0 3 0 .rne (Num.add (Num.scale (f32 0x43288000) (-3)) (.fin false 1 (-2)))).code = 0x5B := by decide
/-- The same example: 4,000 × 2⁻³ + 0.25 exceeds 448; SAT writes 0x7E, IEEE 0x7F. -/
theorem test_drain_clips : let t := Num.add (Num.scale (f32 0x457A0000) (-3)) (.fin false 1 (-2))
    (convOne 3 0 0 .rne t).code = 0x7E ∧ (convOne 3 0 0 .rne t).clipped = true ∧ (convOne 3 modeIeee 0 .rne t).code = 0x7F := by decide
/-- The same example: a NaN. -/
theorem test_drain_nan : (convOne 3 0 0 .rne (f32 0x7FC00000)).code = 0x7F ∧ (convOne 3 modeClean 0 .rne (f32 0x7FC00000)).zeroed = true := by decide
/-- The second example of chapter 02: 13.0, −2.7, 0.2 and 1.3 (here in tenths over a power of two) into MXFP4. -/
theorem test_mx_block : (convBlock (elemOf 0x0C) 0 [(f32 0x41500000, .rne), (f32 0xC02CCCCD, .rne), (f32 0x3E4CCCCD, .rne), (f32 0x3FA66666, .rne)]) =
    (0x80, [{ code := 7 }, { code := 0xB }, { code := 0 }, { code := 1 }]) := by decide +kernel
/-- The example of chapter 08: 0.75, −0.5 and 1.25 fold to 1.5 with lo = +0. -/
theorem test_fold : [(0xBF000000 : W32), 0x3FA00000].foldl pairAdd ((0x3F400000 : W32), (0 : W32)) = (0x3FC00000, 0) := by decide
/-- The example of chapter 09, step 100: m = 0.125 and v = 0.02392578125. -/
theorem test_smu : let k : SmuK := { beta1 := 0x3F600000, beta2 := 0x3F780000, eps := 0x33800000, a := 0x39800000, b := 0x38800000, c1 := 0x3E000000, c2 := 0x3D000000 }
    let o := smuElem k 0x3E99999A 0x3F000000 0 0
    o.m = 0x3E000000 ∧ o.v = 0x3CC40000 ∧ (convOne 1 0 0 .rne (f32 o.w)).code = 0x3F00 := by decide +kernel
/-- BAR2 offset 0x6_6000_0000 of chapter 11's example is local address 0x4_6000_0000. -/
theorem test_bar2_offset :
    let s : State := { admin with objs := [(objKey 0x1001 0, 0x70), (oBar2, 64)], host := { aps := [(3, { base := 0x400000000, ctl := 0x8000000C })] } }
    (s.bar2 0x660000000 4 false).1 = 0x460000000 := by decide
/-- The request of chapter 12's example is a frame of two operations. -/
theorem test_frame_example : let b : List Byte := [3, 1, 0, 2, 0x43, 0, 0, 0, 7, 0, 0, 0, 0x28, 0, 0, 0, 0xFF, 0xFF, 0, 0, 1, 0, 1, 0, 0, 0x21, 0, 0, 2, 0, 2, 0, 0x10, 0x24, 1, 0, 0x32, 0, 0, 0]
    parseHdr .mailbox b = { path := .mailbox, rx := 40, kind := 1, nops := 2, session := 0x43, seq := 7, len := 40 } ∧
    parseOps 2 (b.drop 20) = some [{ op := 1, sub := 1, idx := 0x2100 }, { op := 2, sub := 2, idx := 0x2410, data := [0x32] }] := by decide
/-- The entry of chapter 15's example, byte by byte. -/
theorem test_entry_example :
    let d : List Byte := packEvent 0 [(2, 4), (1, 17), (8, 0x4200001000)]
    ({ code := 0x2420, sev := 3, suppressed := 14, source := 0x11, seq := 0x1A2B, boot := 9, cycles := 9600000, data := d } : Entry).bytes =
      [0x20, 0x24, 0x73, 0x11, 0x2B, 0x1A, 0, 0, 9, 0, 0, 0x7C, 0x92, 0, 0, 0, 4, 0, 0x11, 0, 0, 0, 0, 0, 0, 0x10, 0, 0, 0x42, 0, 0, 0] := by decide
/-- 71.5 °C is the F32 0x428F0000 (chapter 12's example). -/
theorem test_temperature : tempF32 (degrees 71 + 2 ^ 19) = 0x428F0000 := by decide
/-- The estimate of chapter 14's example before the power's part: half of 94.0 + 94.8. -/
theorem test_estimate : ({ power := { used := [(40, degrees 94), (2 * 96 + 40, degrees 95)] } } : State).estimate [] 1 40 = degrees 94 + 2 ^ 19 := by decide
/-- The lockout of Table 15.3 after the fifth and the eleventh failure. -/
theorem test_lockout : lockoutFor 4 = 0 ∧ lockoutFor 5 = 60 ∧ lockoutFor 11 = 3600 := by decide
/-- The voltage bounds of Table 14.4 at 1,800 and 900 MHz. -/
theorem test_voltage : vcoreBound 1800 = 850 ∧ vcoreBound 900 = 650 ∧ vcoreBound 600 = 600 := by decide

/-! ## Core words written out bit by bit from Tables 04.8 to 04.10, a field a group -/

theorem test_decode_add : decodeWord 0 1 0b00010000_011_1_00101_00010_11111_00000_0000000000000000_0000000000000000 =
    .iAdd 0 1 { pg := 3, pn := true, d := 5, a := 2, b := 31 } := by decide
theorem test_decode_li : decodeWord 0 1 0b00100111_000_0_00111_00000_0000000000_11111111111111111111111111111110 =
    .iLi 0 1 { d := 7, imm := 0xFFFFFFFE } := by decide
theorem test_decode_mma : decodeWord 0 1 0b01100101_001_0_101_10_00011_00100_00011_1_0_1_0_1_000_000000000111_000000000000 =
    .iMma 0 1 { pg := 1, set := 5, wt := 2, a := 3, x := 4, fa := 3, ow := true, tr := true, sd := true, aoff := 7 } [] := by decide
theorem test_decode_wtld : decodeWord 0 1 0b01100100_000_0_01_0_00101_00110_01100_000000001001_0000000000000000000000 =
    .iWtld 0 1 { wt := 1, a := 5, x := 6, fw := 12, woff := 9 } [] := by decide
theorem test_decode_drain : decodeWord 0 1 0b01100111_000_0_011_00110_000100001_010000_000000000101_00000000000000000 =
    .iDrain 0 1 { set := 3, a := 6, n := 33, m := 16, off := 5 } [] := by decide
theorem test_decode_unlisted : decodeWord 0 1 0xFF00000000000000 = .iNop 0 1 { op := 0xFF } := by decide

end Sys2Proof.Tests
end

/-! # Statistics slots and the level of a session (R59, R444)

First what a write command of a number does: it is refused by its checks and answered with the code, or its subject's effect is taken and
answered with OK; a number that passes is in its object's ranges. Then the two subjects. -/

namespace Sys2Proof.Machine

/-! ## Write commands of a number -/

/-- The checks of Table 12.7, taken together. -/
theorem writeCheck_eq_dOk_iff (s : State) (sess key : Nat) (data : List Byte) :
    s.writeCheck sess key data = dOk ↔
      sess ≠ 0 ∧ (s.session sess).isSome = true ∧ ∃ r, findRow (key / 256) (key % 256) = some r ∧
        s.accessCode sess r key = dOk ∧ r.ty ≠ 10 ∧ lenOk r data.length = true ∧ resBits key (leNat data) = false ∧
        rangeOk r data = true ∧ s.started (key / 256) = true := by
  have codes : dSession ≠ dOk ∧ dNoobj ≠ dOk ∧ dType ≠ dOk ∧ dRes ≠ dOk ∧ dRange ≠ dOk ∧ dBusy ≠ dOk := by decide
  obtain ⟨hSession, hNoobj, hType, hRes, hRange, hBusy⟩ := codes
  unfold State.writeCheck State.valueCheck
  by_cases hs : sess = 0 ∨ (s.session sess).isNone = true
  · rw [if_pos hs]
    refine iff_of_false hSession fun ⟨h0, hopen, _⟩ => ?_
    rcases hs with h | h
    · exact h0 h
    · simp [Option.isNone_iff_eq_none.mp h] at hopen
  · rw [if_neg hs]
    have hopen : sess ≠ 0 ∧ (s.session sess).isSome = true := by simpa [Option.isSome_iff_ne_none] using hs
    cases findRow (key / 256) (key % 256) with
    | none => simp [hNoobj]
    | some r => simp [hopen, hType, hRes, hRange, hBusy, ite_eq_iff, and_assoc]

/-- A write that its checks refuse is answered with their code and changes nothing else. -/
theorem writeNum_refused {s : State} {sess key v : Nat} (f : State → Wr) (h : s.writeCheck sess key (numBytes key v) ≠ dOk) :
    writeNum sess key v f s = .next (s.emit (.opStatus sess (s.writeCheck sess key (numBytes key v)))) := by
  have hb : writeSubject sess key (numBytes key v) f { s with pending := [], out := [] } =
      State.emit { s with pending := [], out := [] } (.opStatus sess (s.writeCheck sess key (numBytes key v))) := if_pos h
  exact commit_eq hb

/-- A write that its checks and its subject accept takes the subject's effect and is answered with OK. -/
theorem writeNum_taken {s t : State} {sess key v : Nat} {f : State → Wr} (h : s.writeCheck sess key (numBytes key v) = dOk)
    (hf : f { s with pending := [], out := [] } = ({ t with pending := [], out := [] }, dOk))
    (hp : t.pending = s.pending) (ho : t.out = s.out) : writeNum sess key v f s = .next (t.emit (.opStatus sess dOk)) := by
  have hc : State.writeCheck { s with pending := [], out := [] } sess key (numBytes key v) = dOk := h
  have hb : writeSubject sess key (numBytes key v) f { s with pending := [], out := [] } =
      State.emit { t with pending := [], out := [] } (.opStatus sess dOk) := by simp [writeSubject, hc, hf]
  rw [writeNum, commit_eq hb, ← hp, ← ho]
  rfl

/-- A number whose bytes have the length that its object's type takes fits the type, and its bytes read back as the number. -/
theorem leNat_numBytes {key v : Nat} {r : ObjRow} (hr : findRow (key / 256) (key % 256) = some r)
    (hlen : (numBytes key v).length = r.size) : leNat (numBytes key v) = v := by
  simp only [numBytes, hr] at hlen ⊢
  split at hlen
  · next hv => rw [if_pos hv, leNat_leBytes, show 256 = 2 ^ 8 from rfl, ← pow_mul, Nat.mod_eq_of_lt hv]
  · simp [leBytes_length] at hlen

/-- A number that the checks of a write accept is in one of its object's ranges. -/
theorem writeCheck_numBytes_inRange {s : State} {sess key v : Nat} {r : ObjRow} (hr : findRow (key / 256) (key % 256) = some r)
    (hty : r.ty ≠ 7 ∧ r.ty ≠ 8 ∧ r.ty ≠ 9) (hok : r.ok ≠ []) (h : s.writeCheck sess key (numBytes key v) = dOk) :
    ∃ p ∈ r.ok, p.1 ≤ v ∧ v ≤ p.2 := by
  obtain ⟨-, -, r', hr', -, -, hlen, -, hrange, -⟩ := (writeCheck_eq_dOk_iff ..).mp h
  obtain rfl : r = r' := Option.some.inj (hr.symm.trans hr')
  obtain ⟨h7, h8, h9⟩ := hty
  have hv : leNat (numBytes key v) = v := leNat_numBytes hr (by simpa [lenOk, h8, h9] using hlen)
  simpa [rangeOk, hv, h7, h8, h9, hok] using hrange

/-! ## Clearing a statistics slot (R59) -/

/-- The row of 2600:04 in the master index. -/
theorem findRow_clearSlot : findRow (objKey 0x2600 4 / 256) (objKey 0x2600 4 % 256) =
    some ⟨0x2600, 1, 0x04, 3, 4, 2, 0, [(0, 255), (65535, 65535)], 0, true⟩ := by decide

/-- The checks of a write to 2600:04 accept a slot's number and 0xFFFF alone. -/
theorem slot_of_writeCheck {s : State} {sess v : Nat} (h : s.writeCheck sess (objKey 0x2600 4) (numBytes (objKey 0x2600 4) v) = dOk) :
    v ≤ 255 ∨ v = 0xFFFF := by
  obtain ⟨p, hp, hlo, hhi⟩ := writeCheck_numBytes_inRange findRow_clearSlot (by decide) (by decide) h
  simp only [List.mem_cons, List.not_mem_nil, or_false] at hp
  rcases hp with rfl | rfl <;> simp only at hlo hhi <;> omega

/-- Subtracting a bit that is set clears that bit alone. -/
theorem testBit_sub_two_pow {x v : Nat} (h : x.testBit v = true) (k : Nat) :
    (x - 2 ^ v).testBit k = if k = v then false else x.testBit k := by
  induction v generalizing x k with
  | zero =>
    have hodd : x % 2 = 1 := Nat.mod_two_eq_one_iff_testBit_zero.mpr h
    cases k with
    | zero => simp; omega
    | succ k =>
      have hhalf : (x - 1) / 2 = x / 2 := by omega
      simp [Nat.testBit_succ, hhalf]
  | succ v ih =>
    have hhalf : (x - 2 ^ (v + 1)) / 2 = x / 2 - 2 ^ v := by omega
    cases k with
    | zero =>
      have hle : 2 ^ (v + 1) ≤ x := Nat.ge_two_pow_of_testBit h
      simp; omega
    | succ k => simpa [Nat.testBit_succ, hhalf] using ih (by rwa [Nat.testBit_succ] at h) k

/-- A write of 0xFFFF leaves no flag, no first-NaN mark and no core's counters. -/
theorem wrClearSlot_all (s : State) :
    (s.wrClearSlot 0xFFFF).1.obj (objKey 0x2600 5) = 0 ∧ (s.wrClearSlot 0xFFFF).1.nanSeen = [] ∧
      (s.wrClearSlot 0xFFFF).1.cores = s.cores.map (fun e => (e.1, { e.2 with stats := [] })) :=
  ⟨(obj_setObj ..).trans (Nat.zero_min _), rfl, rfl⟩

/-- A write of a slot's number clears its counters on every core and leaves all others. -/
theorem wrClearSlot_cores (s : State) {v : Nat} (hv : v ≠ 0xFFFF) :
    (s.wrClearSlot v).1.cores = s.cores.map (fun e => (e.1, { e.2 with stats := Tab.set e.2.stats {} v {} })) := by
  simp [State.wrClearSlot, State.setObj, hv]

/-- A write of a slot's number clears its first-NaN mark, which re-arms event 0x2602, and leaves all others. -/
theorem wrClearSlot_nanSeen (s : State) {v : Nat} (hv : v ≠ 0xFFFF) (k : Nat) :
    Tab.get (s.wrClearSlot v).1.nanSeen false k = if k = v then false else Tab.get s.nanSeen false k := by
  rw [← Tab.get_set]
  simp [State.wrClearSlot, State.setObj, hv]

/-- A write of a slot's number clears its bit of 2600:05 and leaves all others. -/
theorem wrClearSlot_testBit (s : State) {v : Nat} (hv : v ≠ 0xFFFF) (hmax : s.obj (objKey 0x2600 5) ≤ objMax (objKey 0x2600 5)) (k : Nat) :
    ((s.wrClearSlot v).1.obj (objKey 0x2600 5)).testBit k = if k = v then false else (s.obj (objKey 0x2600 5)).testBit k := by
  simp only [State.wrClearSlot, obj_setObj, beq_iff_eq, if_neg hv]
  split
  · next hset => rw [Nat.min_eq_left ((Nat.sub_le ..).trans hmax), testBit_sub_two_pow hset]
  · next hclear =>
    rw [Nat.min_eq_left hmax]
    split
    · next hk => rw [hk, eq_false_of_ne_true hclear]
    · rfl

/-- A write to 2600:04 that the checks accept is one step: the clear, and the status OK to its session. -/
theorem exec_clearSlotWrite {s : State} {sess v : Nat}
    (h : s.writeCheck sess (objKey 0x2600 4) (numBytes (objKey 0x2600 4) v) = dOk) :
    exec (.clearSlotWrite sess v) s = .next ((s.wrClearSlot v).1.emit (.opStatus sess dOk)) :=
  writeNum_taken h rfl rfl rfl

/-- A write to 2600:04 of no slot's number and not 0xFFFF is rejected. -/
theorem exec_clearSlotWrite_rejected (s : State) (sess : Nat) {v : Nat} (hslot : 255 < v) (hall : v ≠ 0xFFFF) :
    ∃ x : Nat, x ≠ dOk ∧ exec (.clearSlotWrite sess v) s = .next (s.emit (.opStatus sess x)) := by
  have h : s.writeCheck sess (objKey 0x2600 4) (numBytes (objKey 0x2600 4) v) ≠ dOk := fun h => by
    have := slot_of_writeCheck h
    omega
  exact ⟨_, h, writeNum_refused _ h⟩

/-! ## The return to level 0 (R444) -/

/-- The row of 1200:0B in the master index. -/
theorem findRow_leaveLevel : findRow (objKey 0x1200 0x0B / 256) (objKey 0x1200 0x0B % 256) =
    some ⟨0x1200, 1, 0x0B, 1, 4, 1, 0, [(1, 1)], 0, true⟩ := by decide

/-- The checks of a write to 1200:0B accept 1 alone. -/
theorem one_of_writeCheck {s : State} {sess v : Nat}
    (h : s.writeCheck sess (objKey 0x1200 0x0B) (numBytes (objKey 0x1200 0x0B) v) = dOk) : v = 1 := by
  obtain ⟨p, hp, hlo, hhi⟩ := writeCheck_numBytes_inRange findRow_leaveLevel (by decide) (by decide) h
  rw [List.mem_singleton.mp hp] at hlo hhi
  exact Nat.le_antisymm hhi hlo

/-- An open session reads as it was last set, as long as it stays open under its number. -/
theorem session_setSession {s : State} {n : Nat} {x y : Session} (hx : s.session n = some x) (hopen : y.isOpen = x.isOpen)
    (hopens : y.opens = x.opens) : (s.setSession n y).session n = some y := by
  by_cases hm : n = mailboxSession
  · simp [State.session, State.setSession, hm]
  · simp only [State.session, if_neg hm, Option.ite_none_right_eq_some, Option.some.injEq] at hx
    obtain ⟨⟨hxOpen, hxNo⟩, rfl⟩ := hx
    have hyNo : sessionNo (n % 32) y = n := by rwa [sessionNo, hopens]
    simp [State.session, State.setSession, hm, hopen, hxOpen, hyNo]

/-- An open session's level after it is set. -/
theorem level_setLevel {s : State} {sess : Nat} (h : (s.session sess).isSome = true) (lv : Nat) :
    (s.setLevel sess lv).level sess = lv := by
  obtain ⟨x, hx⟩ := Option.isSome_iff_exists.mp h
  have hset : s.setLevel sess lv = s.setSession sess { x with level := lv } := by simp only [State.setLevel, hx]
  have hread : (s.setSession sess { x with level := lv }).session sess = some { x with level := lv } :=
    session_setSession hx rfl rfl
  rw [hset, State.level, hread]

/-- A session's level is part of the management state, and nothing else changes with it. -/
theorem setLevel_eq_mgmt (s : State) (sess lv : Nat) : s.setLevel sess lv = { s with mgmt := (s.setLevel sess lv).mgmt } := by
  unfold State.setLevel
  split
  · unfold State.setSession
    split <;> rfl
  · rfl

/-- Setting a level does not look at the queue or the outputs. -/
theorem setLevel_bare (s : State) (sess lv : Nat) :
    State.setLevel { s with pending := [], out := [] } sess lv = { s.setLevel sess lv with pending := [], out := [] } := by
  have hx : State.session { s with pending := [], out := [] } sess = s.session sess := rfl
  unfold State.setLevel
  rw [hx]
  split
  · unfold State.setSession
    split <;> rfl
  · rfl

/-- A write to 1200:0B that the checks accept sets its session's level to 0 and answers OK. -/
theorem exec_leaveLevel {s : State} {sess v : Nat}
    (h : s.writeCheck sess (objKey 0x1200 0x0B) (numBytes (objKey 0x1200 0x0B) v) = dOk) :
    exec (.leaveLevel sess v) s = .next ((s.setLevel sess 0).emit (.opStatus sess dOk)) := by
  have hsub : State.wrLeave sess { s with pending := [], out := [] } v = ({ s.setLevel sess 0 with pending := [], out := [] }, dOk) := by
    rw [State.wrLeave, setLevel_bare]
  have hpending : (s.setLevel sess 0).pending = s.pending := by rw [setLevel_eq_mgmt]
  have hout : (s.setLevel sess 0).out = s.out := by rw [setLevel_eq_mgmt]
  exact writeNum_taken h hsub hpending hout

/-! ## The statement -/

/-- Settles O56: the checks of the master index let a slot's number, 0xFFFF and (at 1200:0B) 1 through alone; what is let through
takes its subject's effect in one step. -/
theorem slotClearsAndLevelReturn : Obligations.SlotClearsAndLevelReturn := by
  intro s sess v
  refine ⟨fun h => ⟨_, exec_clearSlotWrite h, rfl, rfl, ?_, fun hv => ⟨?_, ?_, ?_⟩⟩, fun t k => Tab.get_set t {} {} k v,
    fun hslot hall => exec_clearSlotWrite_rejected s sess hslot hall,
    fun h => ⟨one_of_writeCheck h, _, exec_leaveLevel h, ?_⟩⟩
  · rintro rfl
    exact wrClearSlot_all s
  · exact wrClearSlot_testBit s hv
  · exact wrClearSlot_nanSeen s hv
  · exact wrClearSlot_cores s hv
  · obtain ⟨-, hopen, -⟩ := (writeCheck_eq_dOk_iff ..).mp h
    refine ⟨level_setLevel hopen 0, ?_⟩
    rw [setLevel_eq_mgmt]
    exact ⟨rfl, rfl, rfl, rfl, rfl, rfl⟩

end Sys2Proof.Machine

/-! # Scalar, predicate and vector registers (R93)

What a register reads after a write stands in the laws of the state (`Thread.sreg_setS` and its like). What is missing there is the
masked write of a vector register, bit by bit: `maskV` is an OR of 64 lanes in place, and a bit of it comes from one lane alone. -/

namespace Sys2Proof.Machine

/-! ## One 32-bit lane -/

/-- 32-bit lane `l` of a vector register, in its place, with every other bit 0. -/
def laneInPlace (v : VReg) (l : Nat) : VReg := (v >>> (32 * l) &&& 0xFFFFFFFF) <<< (32 * l)

theorem getLsbD_laneMask (k : Nat) : (0xFFFFFFFF : VReg).getLsbD k = decide (k < 32) := by
  have hmask : (0xFFFFFFFF : VReg) = BitVec.ofNat 2048 (2 ^ 32 - 1) := rfl
  rw [hmask, BitVec.getLsbD_ofNat, Nat.testBit_two_pow_sub_one]
  simp only [Bool.and_eq_right_iff_imp, decide_eq_true_eq]
  omega

/-- A bit stands in the lane that holds it and in no other. -/
theorem getLsbD_laneInPlace (v : VReg) (l : Nat) {i : Nat} (hi : i < 2048) :
    (laneInPlace v l).getLsbD i = (decide (i / 32 = l) && v.getLsbD i) := by
  unfold laneInPlace
  rw [BitVec.getLsbD_shiftLeft, BitVec.getLsbD_and, BitVec.getLsbD_ushiftRight, getLsbD_laneMask]
  by_cases hl : i / 32 = l
  · have hlow : ¬ i < 32 * l := by omega
    have hin : i - 32 * l < 32 := by omega
    have hoff : 32 * l + (i - 32 * l) = i := by omega
    simp [hl, hi, hlow, hin, hoff]
  · have hout : i < 32 * l ∨ ¬ i - 32 * l < 32 := by omega
    rcases hout with hbelow | habove
    · simp [hl, hbelow]
    · simp [hl, habove]

/-! ## The masked vector -/

theorem getLsbD_foldl_or {n : Nat} (f : Nat → BitVec n) (ls : List Nat) (acc : BitVec n) (i : Nat) :
    (ls.foldl (fun v l => v ||| f l) acc).getLsbD i = (acc.getLsbD i || ls.any (fun l => (f l).getLsbD i)) := by
  induction ls generalizing acc with
  | nil => simp
  | cons l ls ih => simp [ih, Bool.or_assoc]

/-- The masked vector is the OR of its 64 lanes, each from the side that its mask bit picks. -/
theorem maskV_eq_foldl_or (m : W64) (new old : VReg) :
    maskV m new old = (List.range 64).foldl (fun v l => v ||| laneInPlace (if m.getLsbD l then new else old) l) 0 := by
  unfold maskV
  congr 1
  funext v l
  unfold laneInPlace BitVec.getLsbD
  split <;> rfl

/-- R93: bit `l` of the mask picks the side of every bit of 32-bit lane `l`, so of both 16-bit and all four 8-bit lanes in it. -/
theorem getLsbD_maskV (m : W64) (new old : VReg) {i : Nat} (hi : i < 2048) :
    (maskV m new old).getLsbD i = if m.getLsbD (i / 32) then new.getLsbD i else old.getLsbD i := by
  have hlane : i / 32 ∈ List.range 64 := List.mem_range.mpr (by omega)
  rw [maskV_eq_foldl_or, getLsbD_foldl_or, ← apply_ite (fun v : VReg => v.getLsbD i), Bool.eq_iff_iff]
  simp only [BitVec.ofNat_eq_ofNat, BitVec.getLsbD_zero, Bool.false_or, List.any_eq_true, getLsbD_laneInPlace _ _ hi,
    Bool.and_eq_true, decide_eq_true_eq]
  constructor
  · rintro ⟨l, -, rfl, hbit⟩
    exact hbit
  · intro hbit
    exact ⟨i / 32, hlane, rfl, hbit⟩

/-! ## The statement -/

/-- Settles O17: registers 0 by the definitions of their reads and writes, the others by the read-after-write laws, and a masked write
of a vector register bit by bit. -/
theorem registerZeroIsConstant : Obligations.RegisterZeroIsConstant := by
  intro x r q v m w
  refine ⟨rfl, rfl, rfl, rfl, fun hr => ⟨?_, ?_⟩, fun hq => ⟨?_, ?_, ?_⟩, fun i hi => ?_⟩
  · rw [Thread.sreg_setS, if_pos ⟨rfl, hr⟩]
  · rw [Thread.preg_setP, if_pos ⟨rfl, hr⟩]
  · rw [Thread.sreg_setS, if_neg fun h => hq h.1]
  · rw [Thread.preg_setP, if_neg fun h => hq h.1]
  · rw [Thread.vreg_setV, if_neg hq]
  · rw [Thread.vreg_setV, if_pos rfl, getLsbD_maskV m w (x.vreg r) hi]

end Sys2Proof.Machine

/-! # The retirement list (R197)

Confirmation and removal are write commands of a number whose subject may still reject a value that the checks let through; ROM reads the
flash, and with it drops the entries named for removal. First what an added event leaves unchanged, then the two writes, then ROM. -/

namespace Sys2Proof.Machine

/-! ## Adding an event -/

/-- An entry placed in the scorebook changes objects and the scorebook alone. -/
theorem placeEntry_eq_objs_book (s : State) (code sev source : Nat) (data : List Byte) : s.placeEntry code sev source data =
    { s with objs := (s.placeEntry code sev source data).objs, book := (s.placeEntry code sev source data).book } := by
  unfold State.placeEntry
  cases (if s.book.entries.length < bookSize then some s.book.entries else dropOldest sev s.book.entries) <;> rfl

/-- An event changes objects and the scorebook alone. -/
theorem event_eq_objs_book (s : State) (code source : Nat) (fields : List EvField) : s.event code source fields =
    { s with objs := (s.event code source fields).objs, book := (s.event code source fields).book } := by
  unfold State.event
  dsimp only
  split
  · exact placeEntry_eq_objs_book ..
  · split
    · exact placeEntry_eq_objs_book ..
    · rfl

@[simp] theorem event_pending (s : State) (code source : Nat) (fields : List EvField) : (s.event code source fields).pending = s.pending := by
  rw [event_eq_objs_book]

@[simp] theorem event_out (s : State) (code source : Nat) (fields : List EvField) : (s.event code source fields).out = s.out := by
  rw [event_eq_objs_book]

@[simp] theorem event_flash (s : State) (code source : Nat) (fields : List EvField) : (s.event code source fields).flash = s.flash := by
  rw [event_eq_objs_book]

/-- Placing an entry does not look at the queue or the outputs. -/
theorem placeEntry_bare (s : State) (code sev source : Nat) (data : List Byte) :
    State.placeEntry { s with pending := [], out := [] } code sev source data =
      { s.placeEntry code sev source data with pending := [], out := [] } := by
  unfold State.placeEntry
  dsimp only
  cases (if s.book.entries.length < bookSize then some s.book.entries else dropOldest sev s.book.entries) <;> rfl

/-- Adding an event of severity 5 and above, which takes no token (R451), does not look at the queue or the outputs. -/
theorem event_bare (s : State) {code : Nat} (source : Nat) (fields : List EvField) (hsev : 5 ≤ sevOf code) :
    State.event { s with pending := [], out := [] } code source fields = { s.event code source fields with pending := [], out := [] } := by
  simp only [State.event, if_pos hsev, placeEntry_bare]

/-- R197: a removal is an event of severity 5. -/
theorem sevOf_removal : sevOf 0x2435 = 5 := by decide

/-! ## What a write's subject rejects, and who may write -/

/-- A write that its checks accept and its subject rejects is answered with the subject's code and changes nothing else. -/
theorem writeNum_rejected {s t : State} {sess key v x : Nat} {f : State → Wr} (h : s.writeCheck sess key (numBytes key v) = dOk)
    (hf : f { s with pending := [], out := [] } = (t, x)) (hx : x ≠ dOk) : writeNum sess key v f s = .next (s.emit (.opStatus sess x)) := by
  have hc : State.writeCheck { s with pending := [], out := [] } sess key (numBytes key v) = dOk := h
  have hb : writeSubject sess key (numBytes key v) f { s with pending := [], out := [] } =
      State.emit { s with pending := [], out := [] } (.opStatus sess x) := by simp [writeSubject, hc, hf, hx]
  exact commit_eq hb

/-- The checks of a write to an owner's object (access 5 of Table 12.5) refuse a session at level 0. -/
theorem writeCheck_ne_dOk_of_level_zero {s : State} {sess key : Nat} {r : ObjRow} {x : Session} (data : List Byte)
    (hr : findRow (key / 256) (key % 256) = some r) (hacc : r.acc = 5) (hx : s.session sess = some x) (hlevel : x.level = 0) :
    s.writeCheck sess key data ≠ dOk := by
  intro h
  obtain ⟨-, -, r', hr', haccess, -⟩ := (writeCheck_eq_dOk_iff ..).mp h
  obtain rfl : r = r' := Option.some.inj (hr.symm.trans hr')
  have hcode : s.accessCode sess r key = dLevel := by simp [State.accessCode, State.level, hacc, hx, hlevel]
  exact absurd (hcode.symm.trans haccess) (by decide)

/-- The row of 2402:04 in the master index. -/
theorem findRow_removeEntry : findRow (objKey 0x2402 4 / 256) (objKey 0x2402 4 % 256) =
    some ⟨0x2402, 1, 0x04, 4, 5, 4, 4294967295, [(0, 4294967295)], 0, false⟩ := by decide

/-! ## Confirmation (2402:03) -/

/-- An entry as a write of `v` to 2402:03 leaves it. -/
def RetireEntry.confirmThrough (v : Nat) (e : RetireEntry) : RetireEntry := if e.seq ≤ v then { e with confirmed := true } else e

/-- A write that the checks accept, at most the highest seq, confirms every entry up to its value, held ones too. -/
theorem exec_confirmThroughWrite {s : State} {sess v : Nat} (h : s.writeCheck sess (objKey 0x2402 3) (numBytes (objKey 0x2402 3) v) = dOk)
    (hv : s.retireAll.any (fun e => decide (v ≤ e.seq)) = true) :
    exec (.confirmThroughWrite sess v) s = .next ({ s with flash := { s.flash with
      retire := s.flash.retire.map (RetireEntry.confirmThrough v)
      heldRetire := s.flash.heldRetire.map (RetireEntry.confirmThrough v) } }.emit (.opStatus sess dOk)) :=
  writeNum_taken h (if_pos (.inl hv)) rfl rfl

/-- A write above the highest seq of a list that is not empty is rejected. -/
theorem exec_confirmThroughWrite_rejected {s : State} {sess v : Nat}
    (h : s.writeCheck sess (objKey 0x2402 3) (numBytes (objKey 0x2402 3) v) = dOk) (hne : s.retireAll ≠ [])
    (hv : s.retireAll.all (fun e => decide (e.seq < v)) = true) :
    exec (.confirmThroughWrite sess v) s = .next (s.emit (.opStatus sess dRange)) := by
  have hlt : ∀ e ∈ s.retireAll, e.seq < v := by simpa using hv
  obtain ⟨e₀, he₀⟩ := List.exists_mem_of_ne_nil _ hne
  have habove : ¬ (s.retireAll.any (fun e => decide (v ≤ e.seq)) = true ∨ v = 0) := by
    rintro (hany | rfl)
    · obtain ⟨e, he, hle⟩ := List.any_eq_true.mp hany
      exact absurd (of_decide_eq_true hle) (Nat.not_le.mpr (hlt e he))
    · exact absurd (hlt e₀ he₀) (Nat.not_lt_zero _)
  exact writeNum_rejected h (if_neg habove) (by decide)

/-! ## Removal (2402:04) -/

/-- The state once the entry with seq `v` is named for removal. -/
def State.nameForRemoval (s : State) (v : Nat) : State :=
  { s with flash := { s.flash with removed := s.flash.removed ++ [v] } }.setObj (objKey 0x2402 4) v

/-- A write that the checks accept names a confirmed entry for removal, with event 0x2435. -/
theorem exec_removeEntryWrite {s : State} {sess v : Nat} (h : s.writeCheck sess (objKey 0x2402 4) (numBytes (objKey 0x2402 4) v) = dOk)
    (hv : s.retireAll.any (fun e => e.seq == v && e.confirmed) = true) :
    exec (.removeEntryWrite sess v) s = .next (((s.nameForRemoval v).event 0x2435 srcKeeper [(4, v)]).emit (.opStatus sess dOk)) := by
  have hsub : State.wrRemove { s with pending := [], out := [] } v =
      ({ (s.nameForRemoval v).event 0x2435 srcKeeper [(4, v)] with pending := [], out := [] }, dOk) := by
    rw [← event_bare _ _ _ sevOf_removal.ge]
    exact if_pos hv
  exact writeNum_taken h hsub (event_pending ..) (event_out ..)

/-- A write that names no confirmed entry is rejected. -/
theorem exec_removeEntryWrite_rejected {s : State} {sess v : Nat}
    (h : s.writeCheck sess (objKey 0x2402 4) (numBytes (objKey 0x2402 4) v) = dOk)
    (hv : s.retireAll.any (fun e => e.seq == v && e.confirmed) = false) :
    exec (.removeEntryWrite sess v) s = .next (s.emit (.opStatus sess dRange)) := by
  have hnone : ¬ s.retireAll.any (fun e => e.seq == v && e.confirmed) = true := by simp [hv]
  exact writeNum_rejected h (if_neg hnone) (by decide)

/-! ## ROM reads the flash -/

theorem saveBoot_retire (f : Flash) : f.saveBoot.retire = f.retire := by
  simp only [Flash.saveBoot, apply_ite Flash.retire, ite_self]

theorem saveBoot_removed (f : Flash) : f.saveBoot.removed = f.removed := by
  simp only [Flash.saveBoot, apply_ite Flash.removed, ite_self]

theorem loadBoard_flash (s : State) : s.loadBoard.flash = s.flash := by
  unfold State.loadBoard
  split <;> rfl

theorem calibrate_flash (s : State) (diode : Option Int) (raw : List (Nat × Int)) : (s.calibrate diode raw).flash = s.flash := by
  cases diode with
  | some v => simp only [State.calibrate, setPower_flash]
  | none => simp only [State.calibrate, event_flash, setPower_flash]

/-- The flash as ROM leaves it: the newer copies of the boot and owner records taken, the boot count advanced, the retirement list without
the entries named for removal. -/
def Flash.romRead (f : Flash) : Flash :=
  let g := ({ f with owner := f.ownerRec.2 } : Flash).loadBoot
  ({ g with boot := g.boot + 1, retire := g.retire.filter (fun e => !g.removed.elem e.seq), removed := [] } : Flash).saveBoot

/-- R197: the entries named for removal leave the list. -/
theorem romRead_retire (f : Flash) : f.romRead.retire = f.retire.filter (fun e => !f.removed.elem e.seq) := saveBoot_retire _

/-- R197: none is named for removal any more. -/
theorem romRead_removed (f : Flash) : f.romRead.removed = [] := saveBoot_removed _

theorem readFlash_flash (s : State) : s.readFlash.flash = s.flash.romRead := by
  unfold State.readFlash
  dsimp only
  split <;> exact loadBoard_flash _

/-- The phase after RESET is entered, even with a whistle waiting (R406). -/
theorem enterPhase_of_reset {s : State} (next : Nat) (f : State → State) (hstate : s.devState = stReset) (htrip : s.power.tripped = false) :
    s.enterPhase stReset next f = f ({ s with dev := { s.dev with phase := next } }.setObj oState next) := by
  simp [State.enterPhase, hstate, htrip]

/-- ROM is entered from RESET once the straps are sampled, and leaves the flash as it reads it. -/
theorem exec_rom_flash {s : State} (diode : Option Int) (raw : List (Nat × Int)) (hstate : s.devState = stReset)
    (htrip : s.power.tripped = false) (hstraps : s.dev.straps ≠ none) :
    ∃ u : State, exec (.rom diode raw) s = .next u ∧ u.flash = s.flash.romRead := by
  have hset : ¬ s.dev.straps.isNone = true := fun h => hstraps (Option.isNone_iff_eq_none.mp h)
  have hexec : exec (.rom diode raw) s = execRom diode raw s := rfl
  rw [hexec, execRom, commit_eq rfl, if_neg hset, enterPhase_of_reset]
  exacts [⟨_, rfl, (calibrate_flash ..).trans (readFlash_flash _)⟩, hstate, htrip]

/-! ## The statement -/

/-- Settles O28: the two writes by what their subjects accept and reject, the owner's level by the checks of a write, and the removal at the
next start-up by what ROM reads from the flash. -/
theorem retirementListIsConfirmedAndPruned : Obligations.RetirementListIsConfirmedAndPruned := by
  intro s sess v
  refine ⟨fun h => ⟨exec_confirmThroughWrite h, fun hne hv => ⟨dRange, by decide, exec_confirmThroughWrite_rejected h hne hv⟩⟩,
    fun h => ⟨exec_removeEntryWrite h, fun hv => ⟨dRange, by decide, exec_removeEntryWrite_rejected h hv⟩⟩,
    fun _ _ hx hlevel => writeCheck_ne_dOk_of_level_zero _ findRow_removeEntry rfl hx hlevel, sevOf_removal,
    fun diode raw hstate htrip hstraps => ?_⟩
  obtain ⟨u, hexec, hflash⟩ := exec_rom_flash diode raw hstate htrip hstraps
  exact ⟨u, hexec, by rw [hflash, romRead_removed], by rw [hflash, romRead_retire]⟩

end Sys2Proof.Machine
